-- ==== Sys2Proof/Word.lean ====
section
/-! DEFINITION. The word types: the 32-bit number space of odometers and board positions (spec section 5.2,
R17), and the byte of a link frame (R162). -/

namespace Sys2Proof

/-- A 32-bit odometer value or board position, which wraps modulo 2^32 (section 5.2). -/
abbrev Word := BitVec 32

/-- One byte of a link frame (R162). -/
abbrev Byte := BitVec 8

end Sys2Proof
end

