-- ==== Sys2Proof/Syntax.lean ====
section
/-! DEFINITION. The commands of the LC28: one constructor of `Instr` per row of spec/opcode_table.json.

Who sends a command: the supply (POWER_ON_RESET), the measuring wheels (QUADRATURE_EDGE), the part's own time base
(the period close, the pulse end and the expiries), the four link ports (RECEIVED_FRAME), and the part itself, which
sends a response (RESPONSE_FRAME) and applies the request at the head of a port's inbound queue (every row named
after a request; its fields are in the queued frame, so its one operand is the port). -/

namespace Sys2Proof

/-- A link port, LP0 to LP3. -/
abbrev Port := Fin 4
/-- An encoder input: 0, 1, 2 stand for E1, E2, E3. -/
abbrev Encoder := Fin 3
/-- A reel stand, 0 to 4 (L1, M1, L2, M2, L3). -/
abbrev Stand := Fin 5
/-- A cue output, CUE0 to CUE11. -/
abbrev CueLine := Fin 12
/-- A bridge: 0 and 1 stand for bridges 1 and 2. -/
abbrev Bridge := Fin 2
/-- A station index, 0 to 23. -/
abbrev StationIx := Fin 24

/-- What the comparators find on a ROLE strap at power-on (R161): an open strap, the highest of the eight thresholds
that the voltage meets, or none of them. The threshold voltages are outside the volume (R161). -/
inductive Strap where
  | isOpen
  | meets (threshold : Fin 8)
  | meetsNone
deriving DecidableEq, Repr

/-- The four ROLE straps, sampled once at power-on (R161). -/
structure Straps where
  lp0 : Strap
  lp1 : Strap
  lp2 : Strap
  lp3 : Strap
deriving DecidableEq, Repr

/-- The levels on one quadrature pair, EkA and EkB (R6). -/
structure QuadLevels where
  a : Bool
  b : Bool
deriving DecidableEq, Repr

/-- The commands: the rows of spec/opcode_table.json, in its order. -/
inductive Instr where
  /-- Supply applied, with the straps and the encoder levels found then (R161, R15, R175). -/
  | powerOnReset (straps : Straps) (e1 e2 e3 : QuadLevels)
  /-- The pair of encoder `e` now stands at `levels` (R6). -/
  | quadratureEdge (e : Encoder) (levels : QuadLevels)
  /-- The next 20 ms speed period closes (R10). -/
  | speedPeriodClose
  /-- The end time of the pulse on `line` is reached (R67). -/
  | cuePulseEnd (line : CueLine)
  /-- The confirm deadline of `stand` expires (R82). -/
  | confirmDeadlineExpiry (stand : Stand)
  /-- The end time of the late-report window of `stand` is reached (R84). -/
  | lateReportWindowEnd (stand : Stand)
  /-- The deadline of the proposal with this tag expires (R119). -/
  | proposalDeadlineExpiry (tag : Nat)
  /-- The re-offer timer expires (R158). -/
  | reofferTimerExpiry
  /-- The receiver of `port` has collected `bytes` up to a gap (R163). `gapBefore` says that the line was idle for a
  gap before the first of them, which only matters for the first bytes after power-on (R175). -/
  | receivedFrame (port : Port) (gapBefore : Bool) (bytes : List Byte)
  /-- The oldest unsent response of `port` is sent, once its content is known (R167). -/
  | responseFrame (port : Port)
  /-- The timeout timer of `port` expires (R169). -/
  | portTimeout (port : Port)
  | status (port : Port)
  | read (port : Port)
  | peek (port : Port)
  | take (port : Port)
  | done (port : Port)
  | floor (port : Port)
  | lineTable (port : Port)
  | stationSet (port : Port)
  | recipeSet (port : Port)
  | profileSet (port : Port)
  | classSet (port : Port)
  | relaySet (port : Port)
  | alarmEnable (port : Port)
  | alarmClear (port : Port)
  | openPart (port : Port)
  | start (port : Port)
  | orderAdd (port : Port)
  | orderWithdraw (port : Port)
  | orderRelease (port : Port)
  | lineReset (port : Port)
  | logTake (port : Port)
  | standSet (port : Port)
  | reelLoad (port : Port)
  | reelRemove (port : Port)
  | diameter (port : Port)
  | joint (port : Port)
  | spliceFail (port : Port)
  | standEnable (port : Port)
  | bridgeSet (port : Port)
  | respond (port : Port)
  | setupDone (port : Port)
  | defect (port : Port)
deriving DecidableEq, Repr

end Sys2Proof
end

