-- ==== Sys2Proof/Decode.lean ====
section
/-! DEFINITION. The command that a table word spells. No row of spec/opcode_table.json gives bits (every row's
"fields" list is empty and none has "fixed"), so no word spells a command. The byte layouts of the volume, the link
frames and bodies of R162 and R164, are read in Sys2Proof/Machine/Operands.lean. -/

namespace Sys2Proof

/-- The command that the `nbits` low bits of `w` spell by the opcode table: none, since the table gives no row
bits. -/
def decodeTableWord (_nbits _w : Nat) : Option Instr := none

end Sys2Proof
end

