-- ==== Sys2Proof/Config.lean ====
section
/-! DEFINITION. The constants of the part, each with the rule that fixes it, and the bounds that make the model's
loops total; and the one free value, `unstatedScopeDistance`. -/

namespace Sys2Proof.Config

/-- Part code and revision (R171). -/
def partCode : Nat := 0x28
def partRevision : Nat := 3

/-- The horizon (R19). -/
def horizon : Int := 1000000000
/-- The distance ahead used for a far-behind position (R18). -/
def farBehind : Int := -2000000000
/-- Units of 1/256 µm in a millimetre (section 1.2). -/
def unitsPerMm : Nat := 256000
/-- The reverse-debt clamp, 500 mm (R8). -/
def debtClamp : Nat := 128000000
/-- The speed period in ms (R10). -/
def speedPeriod : Nat := 20
/-- The speed clamp in mm/s (R10). -/
def speedClamp : Nat := 20000

/-- Marks the track holds, and DEFECT marks among them (R33). -/
def trackLimit : Nat := 192
def defectLimit : Nat := 160
/-- Live orders (section 6.2). -/
def orderLimit : Nat := 32
/-- Marks of the plan window (R103). -/
def planWindow : Nat := 8
/-- Outstanding proposals (R113). -/
def proposalLimit : Nat := 4
/-- Completion records the log holds (R139). -/
def logLimit : Nat := 16
/-- Entries of a defect causes list (R134). -/
def causeLimit : Nat := 8
/-- Notices of an offer queue, of a taken stack and of the return list (sections 9.2, 9.6). -/
def offerLimit : Nat := 16
def takenLimit : Nat := 4
def returnLimit : Nat := 8
/-- Alarm entries (R172). -/
def alarmLimit : Nat := 64
/-- Outstanding requests of a port (R165) and entries of its inbound queue (R166). -/
def outstandingLimit : Nat := 4
def inboundEntries : Nat := 32
/-- Longest request body (R162). -/
def bodyLimit : Nat := 120

/-- Drops that one posting can cause, one after another. DEDUCED, safe: each further NOTICE_LOST notice takes the
place of another entry of the eight of the return list, so nine always suffice (log entry 12). -/
def dropBound : Nat := 16
/-- Depth of recomputes within one forecast recompute (R142). DEDUCED, safe: one within another follows a move, which adds
a cut of at least 300 mm below the horizon, or a removal, so a depth of 2^28 is never reached (log entry 12). -/
def recomputeBound : Nat := 4294967296
/-- Rounds in which the work that one event owes is done. DEDUCED, safe: what a command leaves undone is kept in
`Owed` and done by the next (log entry 12). -/
def settleBound : Nat := 4096

/-- The scope distance that READ gives for the CHANGE mark with a tag, where an order of its pair is no live order: the
first change of a run, whose ending order is 0, and a change whose orders have been completed. R112 forms the distance
from the two orders' grades and widths and states none there, so it is a free value (DESIGN CHOICE, log entry 19). -/
opaque unstatedScopeDistance : Nat → BitVec 24

end Sys2Proof.Config
end

