-- ==== Sys2Proof/Machine/State.lean ====
section
/-! DEFINITION. The state of the LC28, block by block (section 4.1), and the state after power-on reset.

`State` has three parts: `pending`, the commands waiting (the host interface); `env`, the odometer unit, the tables
and settings and the port unit, which an evaluation only reads; and `work`, the track and the blocks around it, which
an evaluation may write. So what an evaluation leaves alone is visible in the types of Machine/'s functions.

Two model fields beside the spec's: `Work.owed` (what the event in progress still owes; clear between events) and the
posting numbers of notices (which body is the newer, R151). -/

namespace Sys2Proof.Machine

/-! ## Names the volume gives numbers to, each in the order of the table that lists them (R164) -/

inductive Role where
  | planner | wet | dry | view
deriving DecidableEq, Repr

inductive Web where
  | l1 | m1 | l2 | m2 | l3 | s1 | s2 | board
deriving DecidableEq, Repr

inductive BridgeLevel where
  | low | normal | high
deriving DecidableEq, Repr

inductive MarkKind where
  | change | joint | defect | mismatch
deriving DecidableEq, Repr

inductive ChangeState where
  | planned | proposed | committed | active
deriving DecidableEq, Repr

inductive StationKind where
  | preheat | glue | heat | slitter | knife | gate | stacker | inspect | generic
deriving DecidableEq, Repr

inductive ReelLevel where
  | normal | warn | arm | last | empty
deriving DecidableEq, Repr

inductive FireKind where
  | grade | runout
deriving DecidableEq, Repr

inductive ConfirmMode where
  | sensor | timed | sensorOrTimed
deriving DecidableEq, Repr

inductive OrderState where
  | queued | planned | committed | opened | held | done
deriving DecidableEq, Repr

inductive Scope where
  | knife | dry | line
deriving DecidableEq, Repr

inductive Partial where
  | pending | ready | notReady | refuse | widen
deriving DecidableEq, Repr

inductive Result where
  | committed | deferred | refused | widened
deriving DecidableEq, Repr

inductive StationAction where
  | begins | ends | step
deriving DecidableEq, Repr

inductive NoticeClass where
  | splice | proposal | station | alarm | reel | stack | result | order
deriving DecidableEq, Repr

inductive AlarmKind where
  | reverse | bridgeEmpty | bridgeFull | bridgeLow | bridgeHigh
  | noReadyReel | reelExhausted | spliceFailed | spliceLate
  | trackFull | defectEscaped | changeStalled | orderShort
  | strapConflict | noticeLost | cueOverlap
deriving DecidableEq, Repr

inductive SubjectType where
  | encoder | bridge | stand | station | order | port | noticeClass | cueLine
deriving DecidableEq, Repr

inductive PortState where
  | hold | opened | down
deriving DecidableEq, Repr

inductive RunState where
  | idle | running
deriving DecidableEq, Repr

inductive Slitter where
  | a | b
deriving DecidableEq, Repr

/-- The response codes of section 10.2. -/
inductive Code where
  | ok | accepted | retry | hold | denied | range | state | busy | full | unknown | empty | tagInUse
deriving DecidableEq, Repr

/-- The requests of R164. -/
inductive Request where
  | status | read | peek | take | done | floor
  | lineTable | stationSet | recipeSet | profileSet | classSet | relaySet | alarmEnable | alarmClear | openPart
  | start | orderAdd | orderWithdraw | orderRelease | lineReset | logTake
  | standSet | reelLoad | reelRemove | diameter | joint | spliceFail | standEnable | bridgeSet
  | respond | setupDone | defect
deriving DecidableEq, Repr

/-! ## Positions -/

/-- A board position the part holds, with its far-behind indication (R17, R18). -/
structure Pos where
  val : Word
  far : Bool
deriving DecidableEq, Repr

/-! ## Odometer unit and line table (chapter 1) -/

/-- One encoder: the decoder's reference levels (R6, R15), the items of section 1.2, and the odometer at the end of
the previous speed period (R10). `history` holds ten values, oldest first. -/
structure EncoderRec where
  levels : QuadLevels
  residue : Nat
  debt : Nat
  odo : Word
  lastClose : Word
  history : List Nat
  speed : Nat
deriving DecidableEq, Repr

/-- One bridge: its fill and level (R11, R13). -/
structure BridgeRec where
  fill : Nat
  level : BridgeLevel
deriving DecidableEq, Repr

/-- The line table of section 1.1, one field per row. -/
structure LineTable where
  path : Vector Nat 5
  fixedLength : Vector Nat 2
  takeUp : Vector Nat 2
  fillMax : Vector Nat 2
  lowThreshold : Vector Nat 2
  highThreshold : Vector Nat 2
  levelHysteresis : Vector Nat 2
  pitch : Vector Nat 3
  minSheet : Nat
  maxWidth : Nat
  minTrim : Nat
  minOrder : Nat
  aimOffset : Nat
  guardDistance : Nat
  dKnife : Nat
  dDry : Nat
  lineMargin : Nat
  retryDistance : Nat
  deferralLimit : Nat
  responseTimeout : Nat
  reofferInterval : Nat
  cueWidth : Nat
deriving DecidableEq, Repr

/-! ## Station unit (chapter 4) -/

/-- The acts-on set of a station, one flag per mark kind (R51). -/
structure ActsOn where
  change : Bool
  joint : Bool
  defect : Bool
  mismatch : Bool
deriving DecidableEq, Repr

/-- A non-EMPTY entry of the station table (R51). `cue` 0 to 4 stands for CUE7 to CUE11. -/
structure Station where
  kind : StationKind
  web : Web
  distance : Nat
  owner : Option Role
  cue : Option (Fin 5)
  actsOn : ActsOn
  wantsEnd : Bool
  profile : Fin 8
deriving DecidableEq, Repr

/-- One step of a ramp profile (R57). -/
structure ProfileStep where
  distance : Nat
  fraction : Nat
deriving DecidableEq, Repr

/-- A ramp record (R59). `order`, the order that begins, is the model's: the STEP notices carry it (section 4.5) even
after the mark has left the track. -/
structure Ramp where
  oldValue : Nat
  newValue : Nat
  steps : List ProfileStep
  nextStep : Nat
  changeTag : Nat
  start : Pos
  late : Bool
  order : Nat
deriving DecidableEq, Repr

/-- The slitter pair record (section 4.4). -/
structure SlitterPair where
  active : Slitter
  loadedA : Option Nat
  loadedB : Option Nat
  confirmedA : Bool
  confirmedB : Bool
deriving DecidableEq, Repr

/-- What the station unit writes at passages: current values, ramp records, slitter pair. -/
structure StationUnit where
  current : Vector Nat 24
  ramps : Vector (Option Ramp) 24
  slitters : SlitterPair
deriving DecidableEq, Repr

/-! ## Track (chapter 3) -/

/-- The fields of a mark that its kind gives it (section 3.1). -/
inductive MarkBody where
  | change (ending beginning : Nat) (state : ChangeState) (late : Bool)
  | joint (stand : Stand) (estimated : Bool)
  | defect (station : Nat) (cause : Nat)
  | mismatch (stand : Stand) (isOpen : Bool)
deriving DecidableEq, Repr

/-- A mark record (section 3.1), with its entry number (R33). -/
structure Mark where
  tag : Nat
  body : MarkBody
  start : Pos
  span : Nat
  beginPassed : BitVec 24
  endPassed : BitVec 24
  entry : Nat
deriving DecidableEq, Repr

/-- The track: its marks in track order (R33), the next-tag counter (R31) and the entry count (R33). -/
structure Track where
  marks : List Mark
  nextTag : Nat
  entryCount : Nat
deriving DecidableEq, Repr

/-! ## Stand unit (chapter 5) -/

/-- A reel record (section 5.1), less its anchor. -/
structure Reel where
  id : Nat
  grade : Nat
  width : Nat
  caliper : Nat
  core : Nat
  diameter : Nat
deriving DecidableEq, Repr

/-- The anchor of a running reel (R28). `spent` is set once the consumption has exceeded the anchor. -/
structure Anchor where
  usable : Nat
  odo : Word
  spent : Bool
deriving DecidableEq, Repr

/-- The running reel of a stand: none, the unknown reel (R69), or a reel with its anchor. -/
inductive Running where
  | none
  | unknown
  | reel (r : Reel) (anchor : Anchor)
deriving DecidableEq, Repr

/-- The fire snapshot (R79). -/
structure Snapshot where
  b : Word
  reach : Int
  lead : Nat
  kind : FireKind
  deadline : Nat
deriving DecidableEq, Repr

/-- The splice phase (section 5.3); the snapshot is present while FIRED. -/
inductive Phase where
  | idle
  | watch
  | fired (snapshot : Snapshot)
deriving DecidableEq, Repr

/-- A grade requirement (R88). -/
structure Requirement where
  changeTag : Nat
  aim : Pos
  grade : Nat
  width : Nat
deriving DecidableEq, Repr

/-- The settings of a stand (section 5.1.3). -/
structure StandSettings where
  leadTime : Nat
  halfSpan : Nat
  tolerance : Nat
  mode : ConfirmMode
  timeout : Nat
  tailReserve : Nat
  warn : Nat
  arm : Nat
  last : Nat
  hysteresis : Nat
  runoutMargin : Nat
deriving DecidableEq, Repr

/-- A stand record (section 5.1), less its settings, which `Env` holds. -/
structure StandRec where
  running : Running
  ready : Option Reel
  feedStart : Option Pos
  level : ReelLevel
  enable : Bool
  phase : Phase
  requirement : Option Requirement
  openMismatch : Option Nat
  lateWindow : Option Nat
deriving DecidableEq, Repr

/-! ## Order sequencer (chapter 6) and the tallies of R134 -/

/-- The tallies of an order (R134). -/
structure Tallies where
  cuts : Nat
  good : Nat
  rejectJoint : Nat
  rejectDefect : Nat
  rejectMismatch : Nat
  causes : List (Nat × Nat)
  otherCauses : Nat
  goodSheets : Nat
  stacksClosed : Nat
  currentStack : Nat
  startAtKnife : Option Pos
  endPos : Option Pos
  lateChange : Bool
  forecast : Nat
  short : Bool
deriving DecidableEq, Repr

/-- The fields of an order that the planner gives (section 6.1). -/
structure OrderSpec where
  tag : Nat
  grades : Vector Nat 5
  width : Nat
  recipe : Nat
  length : Nat
  outs : Nat
  slits : List Nat
  score : Nat
  quantity : Nat
  extra : Nat
  stackSize : Nat
deriving DecidableEq, Repr

/-- A live order (section 6.1). Its state is derived (R97), and so are its required cuts. -/
structure Order where
  given : OrderSpec
  runningFlag : Bool
  added : Nat
  planned : Nat
  startPos : Option Pos
  startTag : Option Nat
  endTag : Option Nat
  endCommitted : Bool
  deferrals : Nat
  tallies : Tallies
deriving DecidableEq, Repr

/-- The order queue (section 6.2), the running order, and the two indications of R103. -/
structure Sequencer where
  sequence : List Order
  held : List Order
  running : Option Nat
  noPlace : Bool
  trackRefused : Bool
deriving DecidableEq, Repr

/-! ## Proposal unit (chapter 7) -/

/-- The status of a proposal (section 7.2), with the deadline, result or retry position it carries. -/
inductive Status where
  | collecting (deadline : Nat)
  | decided (result : Result) (stalled : Bool)
  | waiting (retry : Pos)
deriving DecidableEq, Repr

/-- A proposal record (section 7.2). A partial response is absent where the scope names no such responder. -/
structure Proposal where
  tag : Nat
  changeTag : Nat
  scope : Scope
  status : Status
  internal : Option Partial
  dry : Option Partial
  wet : Option Partial
  deferrals : Nat
deriving DecidableEq, Repr

structure ProposalUnit where
  list : List Proposal
  nextTag : Nat
deriving DecidableEq, Repr

/-! ## Sheet unit (chapter 8) -/

/-- The cut schedule while an order is at the knife (section 8.1). -/
structure Schedule where
  order : Nat
  start : Pos
  length : Nat
  outs : Nat
  cuts : Nat
deriving DecidableEq, Repr

/-- The cause of a REJECT (section 8.2): kind, source, cause mark. -/
inductive RejectKind where
  | joint | defect | mismatch
deriving DecidableEq, Repr

structure Cause where
  kind : RejectKind
  source : Nat
  mark : Nat
deriving DecidableEq, Repr

/-- A sheet record (section 8.2). The decision is REJECT exactly while a cause is present. -/
structure Sheet where
  order : Nat
  cut : Nat
  start : Pos
  length : Nat
  outs : Nat
  cause : Option Cause
  gatePassed : Bool
deriving DecidableEq, Repr

/-- A completion record (R138). -/
structure Completion where
  order : Nat
  start : Word
  finish : Word
  cuts : Nat
  good : Nat
  rejectJoint : Nat
  rejectDefect : Nat
  rejectMismatch : Nat
  causes : List (Nat × Nat)
  otherCauses : Nat
  goodSheets : Nat
  shortfall : Nat
  overrun : Nat
  stacksClosed : Nat
  deferrals : Nat
  added : Nat
  lateChange : Bool
  short : Bool
deriving DecidableEq, Repr

structure SheetUnit where
  schedule : Option Schedule
  sheets : List Sheet
  log : List Completion
  logOverwrite : Bool
deriving DecidableEq, Repr

/-! ## Notice unit (chapter 9) and alarm record (section 10.7) -/

/-- An alarm subject with its type (R172). Encoders and bridges are numbered from 1, as the volume names them. -/
structure Subject where
  type : SubjectType
  value : Nat
deriving DecidableEq, Repr

/-- The slitter-swap fields of a STATION notice (section 4.5). -/
structure SwapInfo where
  loaded : Option Nat
  setupMatch : Bool
deriving DecidableEq, Repr

/-- The body of a STATION notice (section 4.5). -/
structure StationBody where
  station : StationIx
  markTag : Nat
  markKind : MarkKind
  action : StationAction
  step : Option Nat
  value : Nat
  late : Bool
  order : Option Nat
  swap : Option SwapInfo
deriving DecidableEq, Repr

/-- The body of a PROPOSAL notice (R115). -/
structure ProposalBody where
  tag : Nat
  changeTag : Nat
  scope : Scope
  ending : Nat
  beginning : Nat
  start : Word
deriving DecidableEq, Repr

/-- The body of a RESULT notice (R119). -/
structure ResultBody where
  tag : Nat
  changeTag : Nat
  ending : Nat
  beginning : Nat
  result : Result
  deferrals : Nat
  stalled : Bool
deriving DecidableEq, Repr

/-- The body of a notice; its constructor is its class (section 9.1). -/
inductive NoticeBody where
  | splice (stand : Stand) (kind : FireKind) (reel : Nat) (aim : Word) (changeTag : Nat)
  | proposal (body : ProposalBody)
  | station (body : StationBody)
  | alarm (kind : AlarmKind) (subject : Subject) (count : Nat)
  | reel (stand : Stand) (level : ReelLevel) (usable : Nat)
  | stack (order : Nat) (number : Nat) (sheets : Nat)
  | result (body : ResultBody)
  | order (tag : Nat)
deriving DecidableEq, Repr

/-- The delivery of a notice (section 9.1): directed with its destination port or none, or relayed with its start
port or none and its lap flag. -/
inductive Delivery where
  | directed (dest : Option Port)
  | relayed (start : Option Port) (lap : Bool)
deriving DecidableEq, Repr

/-- A notice record (section 9.1). `posted` is the model's posting number of the body held: R151 asks which of two
bodies was posted later. -/
structure Notice where
  tag : Nat
  priority : Nat
  delivery : Delivery
  body : NoticeBody
  posted : Nat
deriving DecidableEq, Repr

/-- A port's offer queue, in order of age, and its taken stack, top first (section 9.2). -/
structure Desk where
  offer : List Notice
  taken : List Notice
deriving DecidableEq, Repr

structure NoticeUnit where
  desks : Vector Desk 4
  returned : List Notice
  dropCount : Nat
  nextTag : Nat
  postCount : Nat
deriving DecidableEq, Repr

/-- The delivery of a class-table entry (R148). `bySource`: directed, with the destination taken from the source, as the
PROPOSAL and STATION entries have it. -/
inductive ClassDelivery where
  | bySource
  | directed (role : Role)
  | relayed (start : Role)
deriving DecidableEq, Repr

structure ClassEntry where
  priority : Nat
  delivery : ClassDelivery
deriving DecidableEq, Repr

/-- The relay ring and its stop (R155). -/
structure Ring where
  ports : List Port
  stop : Port
deriving DecidableEq, Repr

/-- One entry of the alarm record (R172). -/
structure AlarmEntry where
  kind : AlarmKind
  subject : Subject
  flag : Bool
  count : Nat
deriving DecidableEq, Repr

/-- An overflow entry (R172). -/
structure Overflow where
  flag : Bool
  count : Nat
deriving DecidableEq, Repr

structure AlarmRecord where
  entries : List AlarmEntry
  overflow : Vector Overflow 16
deriving DecidableEq, Repr

/-! ## Port unit (chapter 10) -/

/-- A request in an inbound queue (R166). -/
structure Queued where
  request : Request
  tag : Byte
  posted : Bool
  body : List Byte
deriving DecidableEq, Repr

/-- An outstanding response (R167): the frame tag, and the content once it is known. -/
structure Slot where
  tag : Byte
  content : Option (Code × List Byte)
deriving DecidableEq, Repr

/-- The last posted error (R168). -/
structure PostedError where
  code : Code
  request : Request
  tag : Byte
deriving DecidableEq, Repr

/-- A link port: role and rate (R161), state and timer (R169), receiver framing (R175), inbound queue and outstanding
responses (R165 to R167), the status record's items (R171), and the response frame last sent on its transmit pair. -/
structure Link where
  band : Fin 8
  role : Role
  state : PortState
  timeout : Nat
  timer : Option Nat
  framed : Bool
  inbound : List Queued
  slots : List Slot
  frameErrors : Nat
  frameErrorFlag : Bool
  overruns : Nat
  retries : Nat
  lastError : Option PostedError
  postedErrors : Nat
  sensorClamp : Bool
  sent : List Byte
deriving DecidableEq, Repr

/-! ## The whole -/

/-- What an evaluation only reads: the time base, the odometer unit, the tables and settings, the run and part
states, the port unit, and the notice unit's settings. -/
structure Env where
  now : Nat
  nextClose : Nat
  reofferAt : Nat
  encoders : Vector EncoderRec 3
  bridges : Vector BridgeRec 2
  configured : Bool
  table : LineTable
  stations : Vector (Option Station) 24
  stationsValid : Bool
  staged : Vector (Option Station) 24
  recipes : Vector (Vector Nat 24) 32
  profiles : Vector (List ProfileStep) 8
  settings : Vector StandSettings 5
  run : RunState
  classes : Vector ClassEntry 8
  ring : Ring
  baseFloors : Vector Nat 4
  alarmEnables : Vector Bool 16
  partOpen : Bool
  links : Vector Link 4
deriving DecidableEq, Repr

/-- The model's own: what the event in progress still owes. `extend`: a mark has left the track (R103). `due`: the
due test of R113 is to be made. -/
structure Owed where
  extend : Bool
  due : Bool
deriving DecidableEq, Repr

/-- What an evaluation may write. A cue is low, or high until an end time (R67). -/
structure Work where
  alarms : AlarmRecord
  notices : NoticeUnit
  cues : Vector (Option Nat) 12
  track : Track
  station : StationUnit
  stands : Vector StandRec 5
  seq : Sequencer
  prop : ProposalUnit
  sheet : SheetUnit
  owed : Owed
deriving DecidableEq, Repr

/-- The machine: the waiting commands, first in first out, and the two parts of its state. -/
structure State where
  pending : List Instr
  env : Env
  work : Work
deriving DecidableEq, Repr

/-- Why the machine stops: nothing does. The volume names no event after which the part stops, and no command without
an effect, so this type has no constructor. -/
inductive Fault
deriving DecidableEq, Repr

/-- Why a command is refused by the model. -/
inductive Refusal where
  /-- Raised by an arm of `exec` whose command has no meaning yet: no arm today. Safe: the model stops where the part
  goes on. -/
  | notModelled (mnemonic : String)
deriving DecidableEq, Repr

/-! ## Power-on values -/

/-- The power-on line table (section 1.1, R1). -/
def LineTable.powerOn : LineTable where
  path := .replicate 5 0
  fixedLength := .replicate 2 0
  takeUp := .replicate 2 4096
  fillMax := .replicate 2 0
  lowThreshold := .replicate 2 0
  highThreshold := .replicate 2 0
  levelHysteresis := .replicate 2 0
  pitch := .replicate 3 0
  minSheet := 0
  maxWidth := 0
  minTrim := 0
  minOrder := 0
  aimOffset := 0
  guardDistance := 0
  dKnife := 0
  dDry := 0
  lineMargin := 0
  retryDistance := 0
  deferralLimit := 4
  responseTimeout := 0
  reofferInterval := 1000
  cueWidth := 0

/-- An encoder at power-on, its decoder taking `levels` as first reference (R15). -/
def EncoderRec.powerOn (levels : QuadLevels) : EncoderRec where
  levels := levels
  residue := 0
  debt := 0
  odo := 0#32
  lastClose := 0#32
  history := List.replicate 10 0
  speed := 0

/-- The power-on settings of a stand (section 5.1.3). -/
def StandSettings.powerOn : StandSettings where
  leadTime := 1000
  halfSpan := 500
  tolerance := 1000
  mode := .sensorOrTimed
  timeout := 3000
  tailReserve := 0
  warn := 1500000
  arm := 400000
  last := 100000
  hysteresis := 20000
  runoutMargin := 30000

/-- A stand record at power-on (R94). -/
def StandRec.powerOn : StandRec where
  running := .none
  ready := none
  feedStart := none
  level := .normal
  enable := false
  phase := .idle
  requirement := none
  openMismatch := none
  lateWindow := none

/-- The tallies of an order entering the queue (R134). The forecast is 0, not absent, until one is computed (DESIGN CHOICE,
log entry 41). -/
def Tallies.zero : Tallies where
  cuts := 0
  good := 0
  rejectJoint := 0
  rejectDefect := 0
  rejectMismatch := 0
  causes := []
  otherCauses := 0
  goodSheets := 0
  stacksClosed := 0
  currentStack := 0
  startAtKnife := none
  endPos := none
  lateChange := false
  forecast := 0
  short := false

/-- The slitter pair after any reset, and when a station set is applied (R54, R68). -/
def SlitterPair.reset : SlitterPair where
  active := .a
  loadedA := none
  loadedB := none
  confirmedA := false
  confirmedB := false

/-- The power-on class table (R148). -/
def classesPowerOn : Vector ClassEntry 8 :=
  #v[⟨0, .directed .wet⟩, ⟨2, .bySource⟩, ⟨3, .bySource⟩, ⟨4, .relayed .planner⟩,
     ⟨6, .directed .wet⟩, ⟨8, .directed .dry⟩, ⟨9, .directed .planner⟩, ⟨10, .directed .planner⟩]

/-- A link at power-on with its strap's band and the role it is given (R161, R175). -/
def Link.powerOn (band : Fin 8) (role : Role) : Link where
  band := band
  role := role
  state := .hold
  timeout := 2000
  timer := none
  framed := false
  inbound := []
  slots := []
  frameErrors := 0
  frameErrorFlag := false
  overruns := 0
  retries := 0
  lastError := none
  postedErrors := 0
  sensorClamp := false
  sent := []

/-- The environment at power-on, given the encoder levels, the links and the ring (R1, R15, R68, R94, R111, R155,
R160, R175). -/
def Env.powerOn (e1 e2 e3 : QuadLevels) (links : Vector Link 4) (ring : Ring) : Env where
  now := 0
  nextClose := Config.speedPeriod
  reofferAt := LineTable.powerOn.reofferInterval
  encoders := #v[EncoderRec.powerOn e1, EncoderRec.powerOn e2, EncoderRec.powerOn e3]
  bridges := .replicate 2 ⟨0, .low⟩
  configured := false
  table := LineTable.powerOn
  stations := .replicate 24 none
  stationsValid := false
  staged := .replicate 24 none
  recipes := .replicate 32 (.replicate 24 65535)
  profiles := .replicate 8 [⟨0, 256⟩]
  settings := .replicate 5 StandSettings.powerOn
  run := .idle
  classes := classesPowerOn
  ring := ring
  baseFloors := .replicate 4 16
  alarmEnables := .replicate 16 true
  partOpen := false
  links := links

/-- The blocks around the track at power-on (R50, R68, R94, R111, R127, R144, R160, R175). -/
def Work.powerOn : Work where
  alarms := ⟨[], .replicate 16 ⟨false, 0⟩⟩
  notices := ⟨.replicate 4 ⟨[], []⟩, [], 0, 1, 0⟩
  cues := .replicate 12 none
  track := ⟨[], 1, 0⟩
  station := ⟨.replicate 24 0, .replicate 24 none, SlitterPair.reset⟩
  stands := .replicate 5 StandRec.powerOn
  seq := ⟨[], [], none, false, false⟩
  prop := ⟨[], 1⟩
  sheet := ⟨none, [], [], false⟩
  owed := ⟨false, false⟩

/-- The machine right after power-on reset. The straps and the encoder levels are inputs: here LP0 to LP3 are strapped
in bands 0 to 3 (PLANNER, WET, DRY, VIEW) and every encoder input is low (DESIGN CHOICE, log entries 1 and 2); the
command POWER_ON_RESET takes any others. -/
def State.reset : State where
  pending := []
  env := Env.powerOn ⟨false, false⟩ ⟨false, false⟩ ⟨false, false⟩
    #v[Link.powerOn 0 .planner, Link.powerOn 1 .wet, Link.powerOn 2 .dry, Link.powerOn 3 .view] ⟨[0], 0⟩
  work := Work.powerOn

end Sys2Proof.Machine
end

