-- ==== Sys2Proof/Machine/Ops.lean ====
section
/-! DEFINITION. The operations every block shares: positions and reaches (chapter 2), reel lengths (R27, R28), the
look-ups of stations, marks and orders, and the order of the track (R33). -/

namespace Sys2Proof.Machine

/-! ## Positions (R17, R18) -/

/-- The board odometer b: the odometer of E3 (section 5.2). -/
def Env.b (e : Env) : Word := e.encoders[2].odo

/-- A position just recorded: its far-behind indication is clear (R18). -/
def Pos.at (w : Word) : Pos := ⟨w, false⟩

/-- A position plus a length, formed modulo 2^32: again a position (R17). Only adding 0 keeps the indication, since the
sum is a position of its own (DEDUCED, log entry 9). -/
def Pos.plus (p : Pos) (n : Int) : Pos := ⟨p.val + BitVec.ofInt 32 n, p.far && n == 0⟩

/-- The distance ahead of a position (R17), or the far-behind value (R18). -/
def dist (b : Word) (p : Pos) : Int := if p.far then Config.farBehind else (p.val - b).toInt

/-- The distance ahead of a position now. -/
def Env.ahead (e : Env) (p : Pos) : Int := dist e.b p

/-- The check of R18 on one held position. -/
def Pos.check (b : Word) (p : Pos) : Pos := if dist b p ≤ Config.farBehind then ⟨p.val, true⟩ else p

/-- The passage test of R25. -/
def Env.passed (e : Env) (p : Pos) (reach : Int) : Bool := decide (e.ahead p ≤ reach)

/-! ## Take-up (R20) -/

/-- Medium millimetres to board-equivalent millimetres, at take-up `f`. -/
def conv (f m : Nat) : Nat := m * 4096 / f

/-- Board-equivalent millimetres to medium millimetres, at take-up `f`. -/
def convToMedium (f n : Nat) : Nat := n * f / 4096

/-! ## Reaches and leads (R21 to R24) -/

/-- The encoder whose speed and odometer serve a stand (R24, R28). -/
def standEncoder : Stand → Encoder
  | 0 => 0
  | 1 => 0
  | 2 => 1
  | 3 => 1
  | 4 => 2

/-- The single facer, and bridge, that a stand feeds; none for stand 4. -/
def standBridge : Stand → Option Bridge
  | 0 => some 0
  | 1 => some 0
  | 2 => some 1
  | 3 => some 1
  | 4 => none

/-- Whether a stand carries a medium (stands 1 and 3). -/
def isMedium (s : Stand) : Bool := s == 1 || s == 3

/-- A length of a stand's web in board-equivalent millimetres (R20, R28). -/
def Env.standConv (e : Env) (s : Stand) (m : Nat) : Nat :=
  match standBridge s with
  | some k => if isMedium s then conv e.table.takeUp[k] m else m
  | none => m

/-- The fixed length and loop of a bridge, q_k + F_k. -/
def Env.bridgePath (e : Env) (k : Bridge) : Nat := e.table.fixedLength[k] + e.bridges[k].fill

/-- The splicer reach R_s (R21). -/
def Env.splicerReach (e : Env) (s : Stand) : Int :=
  match standBridge s with
  | some k => ((e.standConv s e.table.path[s] + e.bridgePath k : Nat) : Int)
  | none => ((e.table.path[s] : Nat) : Int)

/-- The reach of a place on a web at a distance (R22). -/
def Env.webReach (e : Env) (web : Web) (d : Nat) : Int :=
  match web with
  | .l1 => ((d + e.bridgePath 0 : Nat) : Int)
  | .m1 => ((conv e.table.takeUp[0] d + e.bridgePath 0 : Nat) : Int)
  | .l2 => ((d + e.bridgePath 1 : Nat) : Int)
  | .m2 => ((conv e.table.takeUp[1] d + e.bridgePath 1 : Nat) : Int)
  | .s1 => (d : Int)
  | .s2 => (d : Int)
  | .l3 => (d : Int)
  | .board => -(d : Int)

/-- The reach of a station (R22). -/
def Env.stationReach (e : Env) (st : Station) : Int := e.webReach st.web st.distance

/-- The lead distance of a stand (R24). -/
def Env.lead (e : Env) (s : Stand) : Nat :=
  e.encoders[standEncoder s].speed * e.settings[s].leadTime / 1000

/-- R_s + lead_s, the reach of the fire conditions (R77) and of the LINE distance (R112). -/
def Env.fireReach (e : Env) (s : Stand) : Int := e.splicerReach s + (e.lead s : Int)

/-! ## Reel length (R27, R28) -/

/-- L_rem of a reel, from its diameter (R27). -/
def Reel.remaining (r : Reel) : Nat :=
  (r.diameter * r.diameter - r.core * r.core) * 804249 / (r.caliper * 1024)

/-- The anchor of a reel that is anchored now on stand `s` (R28). -/
def Env.anchorNow (e : Env) (s : Stand) (r : Reel) : Anchor where
  usable := e.standConv s (r.remaining - e.settings[s].tailReserve)
  odo := e.encoders[standEncoder s].odo
  spent := false

/-- Consumption since the anchor (R28). -/
def Env.consumed (e : Env) (s : Stand) (a : Anchor) : Int := (e.encoders[standEncoder s].odo - a.odo).toInt

/-- The usable length of an anchored reel now (R28). -/
def Env.anchoredLength (e : Env) (s : Stand) (a : Anchor) : Nat :=
  if a.spent then 0
  else if (a.usable : Int) < e.consumed s a then 0
  else ((a.usable : Int) - e.consumed s a).toNat

/-- The usable length of a running reel; none for the unknown reel and for no reel (R73). -/
def Env.usable (e : Env) (s : Stand) (r : Running) : Option Nat :=
  match r with
  | .reel _ a => some (e.anchoredLength s a)
  | .unknown => none
  | .none => none

/-! ## Stations -/

/-- The five indices of the stands, and those of the other numbered units, in increasing order. -/
def allStands : List Stand := [0, 1, 2, 3, 4]
def allPorts : List Port := [0, 1, 2, 3]
def allBridges : List Bridge := [0, 1]
def allEncoders : List Encoder := [0, 1, 2]
def allCues : List CueLine := [0, 1, 2, 3, 4, 5, 6, 7, 8, 9, 10, 11]
def allStations : List StationIx :=
  [0, 1, 2, 3, 4, 5, 6, 7, 8, 9, 10, 11, 12, 13, 14, 15, 16, 17, 18, 19, 20, 21, 22, 23]

/-- The indices of a table that hold a station of a kind, in increasing order. -/
def stationsOfKind (t : Vector (Option Station) 24) (k : StationKind) : List (StationIx × Station) :=
  allStations.filterMap fun i =>
    match t[i] with
    | some st => if st.kind = k then some (i, st) else none
    | none => none

/-- The distance of the first station of a kind in a table. -/
def distanceOfKind (t : Vector (Option Station) 24) (k : StationKind) : Option Nat :=
  (stationsOfKind t k).head?.map fun p => p.2.distance

/-- g_knife, g_gate or g_stacker: the distance of the station of that kind in the table in force, while that table
holds a valid station set (section 4.1). -/
def Env.downstream (e : Env) (k : StationKind) : Option Nat :=
  if e.stationsValid then distanceOfKind e.stations k else none

/-- Whether a position has passed the station of a kind downstream; false while no valid station set is in force. -/
def Env.passedKind (e : Env) (k : StationKind) (p : Pos) : Bool :=
  match e.downstream k with
  | some g => e.passed p (-(g : Int))
  | none => false

/-! ## Ports and roles -/

/-- The lowest-numbered port that holds a role (R55, R147). -/
def Env.portOfRole (e : Env) (r : Role) : Option Port := allPorts.find? fun p => decide (e.links[p].role = r)

/-- The lowest-numbered OPEN port that holds a role (R115). -/
def Env.openPortOfRole (e : Env) (r : Role) : Option Port :=
  allPorts.find? fun p => decide (e.links[p].role = r) && decide (e.links[p].state = .opened)

/-- Entries of the inbound queue that a body of `n` bytes needs (R166). -/
def entriesNeeded (n : Nat) : Nat := 1 + (n + 7) / 8

/-- Free entries of a port's inbound queue (R166). -/
def Link.freeEntries (l : Link) : Nat :=
  Config.inboundEntries - (l.inbound.map fun q => entriesNeeded q.body.length).sum

/-! ## Tags -/

/-- The value after a tag: 65,535 is followed by 1 (R31, R114, R147). -/
def succTag (t : Nat) : Nat := if t ≥ 65535 then 1 else t + 1

/-- The first value at or after a counter that is not in use, among the next `n` values. -/
def firstFree (used : List Nat) : Nat → Nat → Nat
  | 0, t => t
  | n + 1, t => if used.contains t then firstFree used n (succTag t) else t

/-- The tag that a counter gives, where the tags of `used` are held (R31). -/
def assignTag (used : List Nat) (counter : Nat) : Nat := firstFree used (used.length + 1) counter

/-! ## Marks (R32, R33) -/

def MarkBody.kind : MarkBody → MarkKind
  | .change _ _ _ _ => .change
  | .joint _ _ => .joint
  | .defect _ _ => .defect
  | .mismatch _ _ => .mismatch

def Mark.kind (m : Mark) : MarkKind := m.body.kind

/-- Whether a mark's open flag is set (R32). -/
def Mark.isOpen (m : Mark) : Bool :=
  match m.body with
  | .mismatch _ o => o
  | _ => false

/-- The end of a mark, start + span (R32). -/
def Mark.finish (m : Mark) : Pos := m.start.plus m.span

/-- The change state of a mark, if it is a CHANGE. -/
def Mark.changeState? (m : Mark) : Option ChangeState :=
  match m.body with
  | .change _ _ st _ => some st
  | _ => none

/-- The order pair of a mark, if it is a CHANGE. -/
def Mark.pair? (m : Mark) : Option (Nat × Nat) :=
  match m.body with
  | .change i j _ _ => some (i, j)
  | _ => none

/-- The late flag of a mark; clear for a kind that has none (R32). -/
def Mark.lateFlag (m : Mark) : Bool :=
  match m.body with
  | .change _ _ _ l => l
  | _ => false

/-- A PLANNED or PROPOSED CHANGE mark. -/
def Mark.uncommitted (m : Mark) : Bool :=
  m.changeState? == some .planned || m.changeState? == some .proposed

/-- A COMMITTED or ACTIVE CHANGE mark. -/
def Mark.bound (m : Mark) : Bool :=
  m.changeState? == some .committed || m.changeState? == some .active

/-- Whether an acts-on set contains a mark kind (R51). -/
def ActsOn.has (a : ActsOn) : MarkKind → Bool
  | .change => a.change
  | .joint => a.joint
  | .defect => a.defect
  | .mismatch => a.mismatch

/-- The track order: by start, equal starts by entry number (R33). -/
def Mark.before (b : Word) (m n : Mark) : Bool :=
  decide (dist b m.start < dist b n.start) ||
    (decide (dist b m.start = dist b n.start) && decide (m.entry < n.entry))

/-- Places a mark in a list in track order. -/
def insertMark (b : Word) (m : Mark) : List Mark → List Mark
  | [] => [m]
  | n :: rest => if m.before b n then m :: n :: rest else n :: insertMark b m rest

/-- Puts a list of marks in track order. -/
def sortMarks (b : Word) (l : List Mark) : List Mark := l.foldr (insertMark b) []

/-- The mark with a tag. -/
def Track.find (t : Track) (tag : Nat) : Option Mark := t.marks.find? fun m => m.tag == tag

/-- Rewrites the mark with a tag in its place. -/
def Track.update (t : Track) (tag : Nat) (f : Mark → Mark) : Track :=
  { t with marks := t.marks.map fun m => if m.tag = tag then f m else m }

/-- Takes the mark with a tag out of the track. -/
def Track.remove (t : Track) (tag : Nat) : Track :=
  { t with marks := t.marks.filter fun m => m.tag != tag }

/-- DEFECT marks held (R33). -/
def Track.defects (t : Track) : List Mark := t.marks.filter fun m => decide (m.kind = .defect)

/-- The CHANGE marks whose state is COMMITTED or ACTIVE, in track order. -/
def Track.boundChanges (t : Track) : List Mark := t.marks.filter Mark.bound

/-- The CHANGE marks whose state is PLANNED or PROPOSED, in track order. -/
def Track.uncommittedChanges (t : Track) : List Mark := t.marks.filter Mark.uncommitted

/-- The plan window (R103): the CHANGE marks that are PLANNED, PROPOSED or COMMITTED. -/
def Track.window (t : Track) : List Mark :=
  t.marks.filter fun m => m.uncommitted || m.changeState? == some .committed

/-- The change state set, for a CHANGE mark. -/
def Mark.withState (m : Mark) (st : ChangeState) : Mark :=
  match m.body with
  | .change i j _ late => { m with body := .change i j st late }
  | _ => m

/-- The late flag set, for a CHANGE mark (R47). -/
def Mark.setLate (m : Mark) : Mark :=
  match m.body with
  | .change i j st _ => { m with body := .change i j st true }
  | _ => m

/-! ## Orders (chapter 6) -/

/-- Required cuts: ceil(quantity / outs) (section 6.1). -/
def OrderSpec.required (o : OrderSpec) : Nat := (o.quantity + o.outs - 1) / o.outs

/-- Required cuts plus extra cuts plus added cuts (R103, R104, R108). -/
def Order.plannedNow (o : Order) : Nat := o.given.required + o.given.extra + o.added

def Order.tag (o : Order) : Nat := o.given.tag

/-- The live orders: the sequence, then the held list (section 6.2). -/
def Sequencer.live (q : Sequencer) : List Order := q.sequence ++ q.held

/-- The live order with a tag (R96). -/
def Sequencer.find (q : Sequencer) (tag : Nat) : Option Order := q.live.find? fun o => o.tag == tag

/-- Rewrites the live order with a tag. -/
def Sequencer.update (q : Sequencer) (tag : Nat) (f : Order → Order) : Sequencer :=
  { q with
    sequence := q.sequence.map fun o => if o.tag = tag then f o else o
    held := q.held.map fun o => if o.tag = tag then f o else o }

/-- The order after the order with a tag, in the sequence (section 6.2). -/
def successorIn (tag : Nat) : List Order → Option Order
  | [] => none
  | [_] => none
  | o :: p :: rest => if o.tag = tag then some p else successorIn tag (p :: rest)

def Sequencer.successor (q : Sequencer) (tag : Nat) : Option Order := successorIn tag q.sequence

/-- The grade code that an order asks of a stand's web; its webs L1, M1, L2, M2, L3 are those of stands 0 to 4. -/
def OrderSpec.grade (o : OrderSpec) (s : Stand) : Nat := o.grades[s]

/-- The scope of a change between two orders (R102). -/
def specScope (i j : OrderSpec) : Scope :=
  if i.grades ≠ j.grades ∨ i.width ≠ j.width then .line
  else if i.slits ≠ j.slits ∨ i.score ≠ j.score then .dry
  else .knife

/-- The scope of a pair of order tags: LINE for the first change of a run (R102), and for a pair of which an order has
left the queue, which no pair whose scope the part uses has. -/
def Sequencer.scope (q : Sequencer) (i j : Nat) : Scope :=
  if i = 0 then .line
  else
    match q.find i, q.find j with
    | some oi, some oj => specScope oi.given oj.given
    | _, _ => .line

/-- The changing stands of a pair (R112). -/
def changingStands (i j : OrderSpec) : List Stand :=
  if i.width ≠ j.width then allStands else allStands.filter fun s => decide (i.grade s ≠ j.grade s)

/-- The greatest of a list of distances, 0 for none (R112). -/
def greatest (l : List Int) : Int := l.foldl max 0

/-- The LINE distance of a pair (R112). -/
def lineDistance (e : Env) (q : Sequencer) (i j : Nat) : Int :=
  match q.find i, q.find j with
  | some oi, some oj => greatest ((changingStands oi.given oj.given).map e.fireReach) + (e.table.lineMargin : Int)
  | _, _ => (e.table.lineMargin : Int)

/-- The scope distance of a pair under a scope (R112). -/
def scopeDistance (e : Env) (q : Sequencer) (sc : Scope) (i j : Nat) : Int :=
  match sc with
  | .knife => (e.table.dKnife : Int)
  | .dry => (e.table.dDry : Int)
  | .line => lineDistance e q i j

/-- The due distance of a pair, the H of R30 (R112). -/
def dueDistance (e : Env) (q : Sequencer) (i j : Nat) : Int :=
  max (scopeDistance e q (q.scope i j) i j) (e.table.guardDistance : Int)

/-! ## Updates of one item of a table -/

def Work.setStand (w : Work) (s : Stand) (r : StandRec) : Work := { w with stands := w.stands.set s r }
def Work.updStand (w : Work) (s : Stand) (f : StandRec → StandRec) : Work := w.setStand s (f w.stands[s])
def Work.setDesk (w : Work) (p : Port) (d : Desk) : Work :=
  { w with notices := { w.notices with desks := w.notices.desks.set p d } }
def Work.updOrder (w : Work) (tag : Nat) (f : Order → Order) : Work := { w with seq := w.seq.update tag f }
def Work.updTallies (w : Work) (tag : Nat) (f : Tallies → Tallies) : Work :=
  w.updOrder tag fun o => { o with tallies := f o.tallies }
def Work.setRamp (w : Work) (i : StationIx) (r : Option Ramp) : Work :=
  { w with station := { w.station with ramps := w.station.ramps.set i r } }
def Work.setCurrent (w : Work) (i : StationIx) (v : Nat) : Work :=
  { w with station := { w.station with current := w.station.current.set i v } }
def Env.setLink (e : Env) (p : Port) (l : Link) : Env := { e with links := e.links.set p l }
def Env.updLink (e : Env) (p : Port) (f : Link → Link) : Env := e.setLink p (f e.links[p])

end Sys2Proof.Machine
end

