-- ==== Sys2Proof/Machine/Flags.lean ====
section
/-! DEFINITION. The levels, states and flags the part derives: bridge level (R13), reel level (R75), splice phase
(R76), order state (R97), floors, presentability and ATTN (R149), and the alarm summary (R171). -/

namespace Sys2Proof.Machine

/-! ## Bridge level (R13) -/

/-- The new level of a bridge, the rows of R13 in order. -/
def bridgeLevel (low high hyst fill : Nat) (prior : BridgeLevel) : BridgeLevel :=
  if fill < low then .low
  else if fill > high then .high
  else if prior = .low ∧ fill < low + hyst then .low
  else if prior = .high ∧ (fill : Int) > (high : Int) - (hyst : Int) then .high
  else .normal

/-! ## Reel level (R75) -/

/-- The rank of a level, NORMAL highest (R75). -/
def ReelLevel.rank : ReelLevel → Nat
  | .normal => 4
  | .warn => 3
  | .arm => 2
  | .last => 1
  | .empty => 0

/-- The next higher level. -/
def ReelLevel.up : ReelLevel → ReelLevel
  | .empty => .last
  | .last => .arm
  | .arm => .warn
  | .warn => .normal
  | .normal => .normal

/-- The upper bound of a level below NORMAL (R75). -/
def levelBound (c : StandSettings) : ReelLevel → Nat
  | .empty => 0
  | .last => c.last
  | .arm => c.arm
  | .warn => c.warn
  | .normal => c.warn

/-- The raw level of a usable length (R75). -/
def rawLevel (c : StandSettings) (u : Nat) : ReelLevel :=
  if u = 0 then .empty
  else if u ≤ c.last then .last
  else if u ≤ c.arm then .arm
  else if u ≤ c.warn then .warn
  else .normal

/-- The rise of R75, one step at a time towards the raw level, at most `n` steps. -/
def riseLevel (c : StandSettings) (u : Nat) (raw : ReelLevel) : Nat → ReelLevel → ReelLevel
  | 0, l => l
  | n + 1, l =>
    if l.rank < raw.rank ∧ levelBound c l + c.hysteresis < u then riseLevel c u raw n l.up else l

/-- The level that an evaluation gives a running reel (R75). -/
def nextLevel (c : StandSettings) (u : Nat) (held : ReelLevel) : ReelLevel :=
  let raw := rawLevel c u
  if raw.rank ≤ held.rank then raw else riseLevel c u raw 4 held

/-- ARM, LAST or EMPTY: the levels that arm the runout watch (R76, R78). -/
def ReelLevel.armed : ReelLevel → Bool
  | .arm => true
  | .last => true
  | .empty => true
  | .normal => false
  | .warn => false

/-! ## Splice phase (R76) -/

def Phase.isFired : Phase → Bool
  | .fired _ => true
  | _ => false

/-- The phase of a stand re-evaluated (R76). -/
def StandRec.rephase (r : StandRec) : StandRec :=
  if r.phase.isFired then r
  else { r with phase := if r.enable && (r.requirement.isSome || r.level.armed) then .watch else .idle }

/-! ## Order state (R97) -/

/-- The state of the mark with a tag, if the track holds it and it is a CHANGE. -/
def Track.changeState (t : Track) (tag : Option Nat) : Option ChangeState :=
  match tag with
  | some g => (t.find g).bind Mark.changeState?
  | none => none

/-- The state of a live order (R97). DONE is passed through within one event (R109): a done order leaves the queue at
once. -/
def orderState (w : Work) (o : Order) : OrderState :=
  if w.seq.held.any fun h => h.tag == o.tag then .held
  else if o.endCommitted then .committed
  else if w.track.changeState o.endTag = some .planned ∨ w.track.changeState o.endTag = some .proposed then .planned
  else if w.seq.running = some o.tag then .opened
  else .queued

/-! ## Floors and ATTN (R149) -/

/-- The current floor of a port (R149). -/
def currentFloor (e : Env) (w : Work) (p : Port) : Nat :=
  match w.notices.desks[p].taken with
  | n :: _ => n.priority
  | [] => e.baseFloors[p]

/-- The presentable notices of a port's offer queue, oldest first (R149). -/
def presentable (e : Env) (w : Work) (p : Port) : List Notice :=
  w.notices.desks[p].offer.filter fun n => decide (n.priority < currentFloor e w p)

/-- The ATTN line of a port (R149). -/
def attn (e : Env) (w : Work) (p : Port) : Bool :=
  decide (e.links[p].state = .opened) && !(presentable e w p).isEmpty

/-! ## Alarm summary (R171) -/

/-- Set while any sticky flag of the alarm record is set. -/
def AlarmRecord.summary (a : AlarmRecord) : Bool :=
  (a.entries.any fun x => x.flag) || (a.overflow.toList.any fun x => x.flag)

end Sys2Proof.Machine
end

