-- ==== Sys2Proof/Machine/Notices.lean ====
section
/-! DEFINITION. The notice unit (chapter 9) and the alarm record (section 10.7): posting, delivery, the relay walk,
the return list, drops, re-offers, and raising an alarm. -/

namespace Sys2Proof.Machine

/-! ## Numbering of classes and kinds (R164) -/

def NoticeClass.index : NoticeClass → Fin 8
  | .splice => 0
  | .proposal => 1
  | .station => 2
  | .alarm => 3
  | .reel => 4
  | .stack => 5
  | .result => 6
  | .order => 7

def AlarmKind.index : AlarmKind → Fin 16
  | .reverse => 0
  | .bridgeEmpty => 1
  | .bridgeFull => 2
  | .bridgeLow => 3
  | .bridgeHigh => 4
  | .noReadyReel => 5
  | .reelExhausted => 6
  | .spliceFailed => 7
  | .spliceLate => 8
  | .trackFull => 9
  | .defectEscaped => 10
  | .changeStalled => 11
  | .orderShort => 12
  | .strapConflict => 13
  | .noticeLost => 14
  | .cueOverlap => 15

/-- The class of a notice, which its body shows (section 9.1). -/
def NoticeBody.cls : NoticeBody → NoticeClass
  | .splice _ _ _ _ _ => .splice
  | .proposal _ => .proposal
  | .station _ => .station
  | .alarm _ _ _ => .alarm
  | .reel _ _ _ => .reel
  | .stack _ _ _ => .stack
  | .result _ => .result
  | .order _ => .order

/-- Whether a notice is an ALARM notice that reports NOTICE_LOST (R157). -/
def Notice.reportsLoss (n : Notice) : Bool :=
  match n.body with
  | .alarm .noticeLost _ _ => true
  | _ => false

/-! ## Subjects (R172) -/

/-- E1 to E3 as 1 to 3 (DESIGN CHOICE, log entry 15). -/
def Subject.encoder (e : Encoder) : Subject := ⟨.encoder, e.val + 1⟩
def Subject.bridge (k : Bridge) : Subject := ⟨.bridge, k.val + 1⟩
def Subject.stand (s : Stand) : Subject := ⟨.stand, s.val⟩
def Subject.station (i : Nat) : Subject := ⟨.station, i⟩
def Subject.order (t : Nat) : Subject := ⟨.order, t⟩
def Subject.port (p : Port) : Subject := ⟨.port, p.val⟩
def Subject.noticeClass (c : NoticeClass) : Subject := ⟨.noticeClass, c.index.val⟩
def Subject.cueLine (c : CueLine) : Subject := ⟨.cueLine, c.val⟩

/-! ## Directed delivery (R66, R151) -/

/-- Whether a notice is a STATION notice of the same station, mark kind and action (R66). -/
def Notice.matchesStation (b : StationBody) (n : Notice) : Bool :=
  match n.body with
  | .station c => decide (c.station = b.station) && decide (c.markKind = b.markKind) && decide (c.action = b.action)
  | _ => false

/-- The untaken STATION notice of a queue that a body matches (R66). -/
def stationMatch (offer : List Notice) (body : NoticeBody) : Bool :=
  match body with
  | .station b => offer.any (Notice.matchesStation b)
  | _ => false

/-- Replaces the match in place: it keeps its tag and age, and takes the body posted later (R66, R151). -/
def replaceStation (body : NoticeBody) (posted : Nat) : List Notice → List Notice
  | [] => []
  | n :: rest =>
    if stationMatch [n] body then
      (if n.posted < posted then { n with body := body, posted := posted } else n) :: rest
    else n :: replaceStation body posted rest

/-- Appends a notice to a port's offer queue, with a new age. -/
def Work.offerAt (w : Work) (p : Port) (n : Notice) : Work :=
  w.setDesk p { w.notices.desks[p] with offer := w.notices.desks[p].offer ++ [n] }

/-- Whether an untaken match stands at an OPEN destination (R151). -/
def coalesces (e : Env) (w : Work) (dest : Option Port) (body : NoticeBody) : Bool :=
  match dest with
  | some p => decide (e.links[p].state = .opened) && stationMatch w.notices.desks[p].offer body
  | none => false

/-- Coalesces a body into the match at its destination. -/
def coalesce (w : Work) (dest : Option Port) (body : NoticeBody) (posted : Nat) : Work :=
  match dest with
  | some p =>
    w.setDesk p { w.notices.desks[p] with offer := replaceStation body posted w.notices.desks[p].offer }
  | none => w

/-- Directed delivery (R151): the state with the notice placed or coalesced, or none where it goes to the return
list. -/
def tryDirected (e : Env) (n : Notice) (dest : Option Port) (w : Work) : Option Work :=
  match dest with
  | none => none
  | some p =>
    if e.links[p].state ≠ .opened then none
    else if coalesces e w dest n.body then some (coalesce w dest n.body n.posted)
    else if w.notices.desks[p].offer.length < Config.offerLimit then some (w.offerAt p n)
    else none

/-! ## The relay walk (R156) -/

/-- The port after a port in the ring; the first of the list where the port is not in it (R156). -/
def nextInRing (r : Ring) (p : Port) : Port :=
  match r.ports.dropWhile (fun q => q ≠ p) with
  | _ :: q :: _ => q
  | _ => r.ports.headD 0

/-- The first port of a walk at a posting or a re-offer (R156). -/
def firstInRing (r : Ring) (start : Option Port) : Port :=
  match start with
  | some p => if r.ports.contains p then p else r.ports.headD 0
  | none => r.ports.headD 0

/-- Whether a port accepts a relayed notice of a priority (R156). -/
def accepts (e : Env) (w : Work) (priority : Nat) (p : Port) : Bool :=
  decide (e.links[p].state = .opened) && decide (w.notices.desks[p].offer.length < Config.offerLimit) &&
    decide (priority < currentFloor e w p)

/-- The walk (R156), over at most `n` ports: the port that accepts, if any, and the lap flag then. -/
def walk (e : Env) (w : Work) (priority : Nat) : Nat → Bool → Port → Option Port × Bool
  | 0, lap, _ => (none, lap)
  | n + 1, lap, p =>
    if accepts e w priority p then (some p, lap)
    else if p ≠ e.ring.stop then walk e w priority n lap (nextInRing e.ring p)
    else if lap then (none, true)
    else walk e w priority n true (nextInRing e.ring p)

/-- A walk offers a notice at each port of the ring at most twice. -/
def walkBound (r : Ring) : Nat := 2 * r.ports.length

/-! ## The return list (R157) -/

/-- The least urgent of two entries, the later one where they are equal. -/
def lessUrgent (a b : Notice) : Notice := if b.priority < a.priority then a else b

/-- The least urgent entry of a list, and among equals the last (R157). -/
def leastUrgent : List Notice → Option Notice
  | [] => none
  | n :: rest => some (rest.foldl lessUrgent n)

/-- Entry of a notice into the return list, with the notice dropped, if one is (R157). -/
def enterReturn (n : Notice) (w : Work) : Work × Option Notice :=
  let held := w.notices.returned
  if held.length < Config.returnLimit then
    ({ w with notices := { w.notices with returned := held ++ [n] } }, none)
  else
    match leastUrgent held with
    | some d =>
      if n.priority < d.priority then
        ({ w with notices := { w.notices with returned := held.filter (fun x => x.tag != d.tag) ++ [n] } }, some d)
      else (w, some n)
    | none => (w, some n)

/-- A relayed notice walked from a first port: placed, or into the return list (R156). -/
def walkFrom (e : Env) (n : Notice) (start : Option Port) (lap : Bool) (first : Port) (w : Work) :
    Work × Option Notice :=
  match walk e w n.priority (walkBound e.ring) lap first with
  | (some p, l) => (w.offerAt p { n with delivery := .relayed start l }, none)
  | (none, l) => enterReturn { n with delivery := .relayed start l } w

/-- Delivery of a notice at its posting (R151, R156). -/
def place (e : Env) (n : Notice) (w : Work) : Work × Option Notice :=
  match n.delivery with
  | .directed dest =>
    match tryDirected e n dest w with
    | some w' => (w', none)
    | none => enterReturn n w
  | .relayed start lap => walkFrom e n start lap (firstInRing e.ring start) w

/-! ## The alarm record (R172) -/

/-- A count that holds at 255 (R163, R165, R168, R172). -/
def sat255 (n : Nat) : Nat := min (n + 1) 255
/-- A count that holds at 65,535 (R157, R165). -/
def sat65535 (n : Nat) : Nat := min (n + 1) 65535

def AlarmEntry.names (k : AlarmKind) (s : Subject) (x : AlarmEntry) : Bool :=
  decide (x.kind = k) && decide (x.subject = s)

/-- Steps 1 and 2 of R172: the record with the raise logged, and the count after it. -/
def AlarmRecord.log (a : AlarmRecord) (k : AlarmKind) (s : Subject) : AlarmRecord × Nat :=
  match a.entries.find? (AlarmEntry.names k s) with
  | some x =>
    ({ a with entries := a.entries.map fun y =>
        if y.names k s then { y with flag := true, count := sat255 y.count } else y }, sat255 x.count)
  | none =>
    if a.entries.length < Config.alarmLimit then ({ a with entries := a.entries ++ [⟨k, s, true, 1⟩] }, 1)
    else
      let o := a.overflow[k.index]
      ({ a with overflow := a.overflow.set k.index ⟨true, sat255 o.count⟩ }, sat255 o.count)

/-! ## Partial responses (section 7.2) -/

/-- The partial response of the port responder of a role. -/
def Proposal.response (p : Proposal) : Role → Option Partial
  | .dry => p.dry
  | .wet => p.wet
  | .planner => none
  | .view => none

def Proposal.setResponse (p : Proposal) (r : Role) (x : Partial) : Proposal :=
  match r with
  | .dry => { p with dry := some x }
  | .wet => { p with wet := some x }
  | .planner => p
  | .view => p

def Proposal.collecting (p : Proposal) : Bool :=
  match p.status with
  | .collecting _ => true
  | _ => false

/-- R117: a responder's response becomes NOT_READY while it is PENDING and the proposal is COLLECTING. -/
def Proposal.giveUp (r : Role) (p : Proposal) : Proposal :=
  if p.collecting && (p.response r == some .pending) then p.setResponse r .notReady else p

/-- R117 for the proposal with a tag. -/
def Work.giveUp (w : Work) (r : Role) (tag : Nat) : Work :=
  { w with prop := { w.prop with list := w.prop.list.map fun p => if p.tag = tag then p.giveUp r else p } }

/-- R117 for a PROPOSAL notice: its destination's role is the responder. -/
def noticeGivenUp (e : Env) (n : Notice) (w : Work) : Work :=
  match n.body, n.delivery with
  | .proposal b, .directed (some p) => w.giveUp e.links[p].role b.tag
  | _, _ => w

/-! ## Posting (R147) -/

/-- Every notice held (R147). -/
def NoticeUnit.all (u : NoticeUnit) : List Notice :=
  (u.desks.toList.flatMap fun d => d.offer ++ d.taken) ++ u.returned

/-- The delivery of a new notice, from the class table and its source (R147). -/
def deliveryOf (e : Env) (c : NoticeClass) (source : Option Port) : Delivery :=
  match e.classes[c.index].delivery with
  | .bySource => .directed source
  | .directed r => .directed (e.portOfRole r)
  | .relayed r => .relayed (e.portOfRole r) false

/-- A dropped notice is counted and logged (R157), and a PROPOSAL responder given up; with the body of the ALARM
notice that its NOTICE_LOST posts, if it posts one. -/
def recordDrop (e : Env) (d : Notice) (w : Work) : Work × Option NoticeBody :=
  let w1 : Work := { w with notices := { w.notices with dropCount := sat65535 w.notices.dropCount } }
  let s := Subject.noticeClass d.body.cls
  let (a, c) := w1.alarms.log .noticeLost s
  let w2 := noticeGivenUp e d { w1 with alarms := a }
  if d.reportsLoss || !e.alarmEnables[AlarmKind.noticeLost.index] then (w2, none)
  else (w2, some (.alarm .noticeLost s c))

/-- Carries a dropped notice, if there is one, into `recordDrop`. -/
def afterPlace (e : Env) : Work × Option Notice → Work × Option NoticeBody
  | (w, some d) => recordDrop e d w
  | (w, none) => (w, none)

/-- Posts one notice (R147): coalesced into an untaken match (R66), or given a tag and delivered; with the ALARM body
that a drop leaves to be posted. A coalesced notice takes no tag, since R66 looks for the match first (DESIGN CHOICE,
log entry 14). -/
def postOnce (e : Env) (body : NoticeBody) (source : Option Port) (w : Work) : Work × Option NoticeBody :=
  let n := w.notices
  let counted : Work := { w with notices := { n with postCount := n.postCount + 1 } }
  if coalesces e w source body then (coalesce counted source body n.postCount, none)
  else
    let tag := assignTag (n.all.map Notice.tag) n.nextTag
    let notice : Notice :=
      ⟨tag, e.classes[body.cls.index].priority, deliveryOf e body.cls source, body, n.postCount⟩
    let tagged : Work := { w with notices := { n with postCount := n.postCount + 1, nextTag := succTag tag } }
    afterPlace e (place e notice tagged)

/-- Posts a notice and the NOTICE_LOST notices that drops lead to, at most `n` of them (R157). -/
def postChain (e : Env) : Nat → NoticeBody → Option Port → Work → Work
  | 0, body, source, w => (postOnce e body source w).1
  | n + 1, body, source, w =>
    match postOnce e body source w with
    | (w', none) => w'
    | (w', some b) => postChain e n b none w'

/-- Posts a notice. `source` is the destination of a PROPOSAL or STATION notice. -/
def post (e : Env) (body : NoticeBody) (source : Option Port) (w : Work) : Work :=
  postChain e Config.dropBound body source w

/-- Carries on after a placement: a dropped notice is recorded and its NOTICE_LOST posted (R157). -/
def finishPlace (e : Env) (x : Work × Option Notice) : Work :=
  match afterPlace e x with
  | (w, none) => w
  | (w, some b) => post e b none w

/-- Raises an alarm: logged, and posted where its kind is enabled (R172). -/
def raiseAlarm (e : Env) (k : AlarmKind) (s : Subject) (w : Work) : Work :=
  let (a, c) := w.alarms.log k s
  let w1 : Work := { w with alarms := a }
  if e.alarmEnables[k.index] then post e (.alarm k s c) none w1 else w1

/-! ## Re-offer (R158) -/

/-- Puts a notice before the less urgent ones of a list in order of urgency. -/
def insertUrgent (n : Notice) : List Notice → List Notice
  | [] => [n]
  | m :: rest => if m.priority < n.priority then m :: insertUrgent n rest else n :: m :: rest

/-- A list in order of urgency, equal priorities in the order of the list. -/
def byUrgency (l : List Notice) : List Notice := l.foldr insertUrgent []

/-- Takes the notice with a tag off the return list. -/
def Work.unreturn (w : Work) (tag : Nat) : Work :=
  { w with notices := { w.notices with returned := w.notices.returned.filter fun n => n.tag != tag } }

/-- Offers one entry of the return list again (R158). -/
def reofferOne (e : Env) (w : Work) (tag : Nat) : Work :=
  match w.notices.returned.find? (fun n => n.tag == tag) with
  | none => w
  | some n =>
    match n.delivery with
    | .directed dest =>
      match tryDirected e n dest w with
      | some w' => w'.unreturn tag
      | none => w
    | .relayed start _ =>
      match walk e w n.priority (walkBound e.ring) false (firstInRing e.ring start) with
      | (some p, l) => (w.offerAt p { n with delivery := .relayed start l }).unreturn tag
      | (none, l) =>
        { w with notices := { w.notices with returned := w.notices.returned.map fun m =>
            if m.tag = tag then { m with delivery := .relayed start l } else m } }

/-- Re-offers the return list, each entry once in order of urgency (R158). -/
def reoffer (e : Env) (w : Work) : Work :=
  ((byUrgency w.notices.returned).map Notice.tag).foldl (reofferOne e) w

/-- A re-offer where the current floor of a port has risen (R149). -/
def afterFloor (e : Env) (p : Port) (before : Nat) (w : Work) : Work :=
  if before < currentFloor e w p then reoffer e w else w

/-! ## Ends of notices (R116, R119, R125, R153) -/

/-- A PROPOSAL notice of an issue. -/
def Notice.isProposal (tag : Nat) (n : Notice) : Bool :=
  match n.body with
  | .proposal b => b.tag == tag
  | _ => false

/-- Takes the first notice with a property out of a port's taken stack; the floor follows, and a floor rise
re-offers (R149, R153). -/
def finishTaken (e : Env) (p : Port) (which : Notice → Bool) (w : Work) : Work :=
  let d := w.notices.desks[p]
  afterFloor e p (currentFloor e w p) (w.setDesk p { d with taken := d.taken.eraseP which })

/-- Removes the PROPOSAL notice of an issue from a port's offer queue (R116). -/
def dropOffered (p : Port) (tag : Nat) (w : Work) : Work :=
  let d := w.notices.desks[p]
  w.setDesk p { d with offer := d.offer.filter fun n => !n.isProposal tag }

/-- Removes the untaken PROPOSAL notices of an issue everywhere (R119, R125). -/
def removeUntaken (tag : Nat) (w : Work) : Work :=
  let w1 := allPorts.foldl (fun x p => dropOffered p tag x) w
  { w1 with notices := { w1.notices with returned := w1.notices.returned.filter fun n => !n.isProposal tag } }

/-! ## A port going DOWN (R159) -/

/-- Takes the notice with a tag off both queues of a port. -/
def Work.undesk (w : Work) (p : Port) (tag : Nat) : Work :=
  let d := w.notices.desks[p]
  w.setDesk p ⟨d.offer.filter fun n => n.tag != tag, d.taken.filter fun n => n.tag != tag⟩

/-- Gives back one notice of a port that has gone DOWN: it leaves the port, and goes on. The notices still to be given
back are held by the port meanwhile, so that no notice posted on the way takes a tag of theirs (R147). -/
def giveBack (e : Env) (p : Port) (w : Work) (n : Notice) : Work :=
  match n.delivery with
  | .directed _ => finishPlace e (enterReturn n (w.undesk p n.tag))
  | .relayed start lap => finishPlace e (walkFrom e n start lap (nextInRing e.ring p) (w.undesk p n.tag))

/-- Empties a port that has gone DOWN in `e`: its taken stack from the top down, then its offer queue by urgency and
age; then its floor is its base floor, which may be a floor rise (R159, R149). R158 lets a re-offer and an arrival at the
return list be taken in either order; the one re-offer comes after all arrivals (DESIGN CHOICE, log entry 46). -/
def emptyDesk (e : Env) (p : Port) (w : Work) : Work :=
  let d := w.notices.desks[p]
  afterFloor e p (currentFloor e w p) ((d.taken ++ byUrgency d.offer).foldl (giveBack e p) w)

/-! ## Cue pulses (R67) -/

/-- The pulse width in force; 1 ms while the table's is 0 (R67). -/
def pulseWidth (e : Env) : Nat := if e.table.cueWidth = 0 then 1 else e.table.cueWidth

/-- A pulse falls due on a cue line (R67). Each is taken by itself: of two at one evaluation on a line that is high before
both, each raises CUE_OVERLAP (DESIGN CHOICE, log entry 43). -/
def pulse (e : Env) (c : CueLine) (w : Work) : Work :=
  let w1 : Work := { w with cues := w.cues.set c (some (e.now + pulseWidth e)) }
  match w.cues[c] with
  | none => w1
  | some _ => raiseAlarm e .cueOverlap (.cueLine c) w1

end Sys2Proof.Machine
end

