-- ==== Sys2Proof/Machine/Placement.lean ====
section
/-! DEFINITION. Where the boundaries of the change chain lie: the earliest feasible position (R30), placement (R105),
the track's acceptance of a move (R39), the withdrawal of a proposal whose mark goes (R125), and the move of an order
by whole cuts (R107). What an announcement starts (R37, R142) is defined in Machine/Sheets.lean over these, so the
operations here take it as an argument, `announce`. -/

namespace Sys2Proof.Machine

/-! ## Placement (R30, R105) -/

/-- The cut number of the earliest feasible position: the smallest n ≥ 1 with S_i + n × length at least H ahead
(R30), where `k` is H − (S_i − b). -/
def feasibleCut (k : Int) (length : Nat) : Nat :=
  if k ≤ 0 then 1 else max 1 ((k.toNat + length - 1) / length)

/-- A position found for an end mark, and the planned cuts that go with it. -/
structure Placed where
  pos : Pos
  planned : Nat
deriving DecidableEq, Repr

/-- Placement of the end mark of order `o` with beginning order `j` (R105). The sums are taken as distances ahead,
unreduced, so that a boundary beyond the horizon is seen as such (DEDUCED, log entry 10). For an order whose start is
far behind (R18) they are formed from the far-behind value, and the position found is the recorded start plus whole
cuts (DESIGN CHOICE, log entry 38). -/
def placement (e : Env) (q : Sequencer) (o : Order) (j : Nat) : Option Placed :=
  match o.startPos with
  | none => none
  | some s =>
    let len := o.given.length
    let n := feasibleCut (dueDistance e q o.tag j - e.ahead s) len
    let feasible := e.ahead s + (n * len : Nat)
    let candidate := e.ahead s + (o.planned * len : Nat)
    if Config.horizon < feasible then none
    else
      let cuts := if candidate < feasible then n else o.planned
      if Config.horizon < e.ahead s + (cuts * len : Nat) then none
      else some ⟨Pos.at (s.plus (cuts * len : Nat)).val, cuts⟩

/-! ## Moving and removing CHANGE marks (R39) -/

/-- Whether the track accepts a new start for an uncommitted mark (R39). -/
def acceptsMove (e : Env) (t : Track) (p : Pos) : Bool :=
  (t.boundChanges.all fun m => decide (e.ahead m.start < e.ahead p)) && decide (0 < e.ahead p)

/-- A move, if the track accepts it: the mark takes its place by its new start (R39). -/
def Track.move (e : Env) (t : Track) (tag : Nat) (p : Pos) : Option Track :=
  match t.find tag with
  | none => none
  | some m =>
    if m.uncommitted && acceptsMove e t p then
      some { t with marks := insertMark e.b { m with start := p } (t.remove tag).marks }
    else none

/-- Withdraws the proposals of a mark (R125): each record leaves the list, its untaken notices are removed, and a
PROPOSED mark returns to PLANNED. -/
def withdrawFor (changeTag : Nat) (w : Work) : Work :=
  match w.prop.list.find? fun p => p.changeTag == changeTag with
  | none => w
  | some p =>
    let w1 := removeUntaken p.tag
      { w with prop := { w.prop with list := w.prop.list.filter fun x => x.changeTag != changeTag } }
    { w1 with
      track := w1.track.update changeTag fun m =>
        if m.changeState? = some .proposed then m.withState .planned else m
      owed := { w1.owed with due := true } }

/-- Clears what the orders of a removed mark's pair keep of it. -/
def Work.unlink (w : Work) (i j : Nat) : Work :=
  (w.updOrder i fun o => { o with endTag := none }).updOrder j fun o => { o with startTag := none, startPos := none }

/-- Removes an uncommitted CHANGE mark from the track (R39, R104, R107), with its proposal (R125), and announces the
departure (R37). -/
def removeChange (announce : Work → Work) (w : Work) (tag : Nat) : Work :=
  match w.track.find tag with
  | none => w
  | some m =>
    match m.pair? with
    | none => w
    | some (i, j) =>
      if m.uncommitted then
        let w1 := (withdrawFor tag w).unlink i j
        announce { w1 with track := w1.track.remove tag, owed := ⟨true, true⟩ }
      else w

/-- Removes marks, given in chain order, each departure announced as it is made (R37, R104, R107). Their proposals are
withdrawn first, the youngest first (R125); the marks then go in chain order, so that a recompute between two removals
sees no order whose end has been left without its start (DESIGN CHOICE, log entry 39). -/
def removeChanges (announce : Work → Work) (tags : List Nat) (w : Work) : Work :=
  tags.foldl (removeChange announce) (tags.reverse.foldl (fun x g => withdrawFor g x) w)

/-- The uncommitted CHANGE marks from the mark with a tag on, in track order. -/
def marksFrom (t : Track) (tag : Nat) : List Nat :=
  (t.uncommittedChanges.map Mark.tag).dropWhile fun g => g ≠ tag

/-! ## The move of an order (R107) -/

/-- Marks placed again: how many the track has moved, and those from the first on that found no position. -/
structure Moves where
  work : Work
  moved : Nat
  unplaced : List Nat
deriving DecidableEq, Repr

/-- A mark moved to a position found for it, where the track accepts the move: its orders take the planned cuts and the
start (R105, R107, steps 1 and 3). -/
def moveTo (e : Env) (g i j : Nat) (p : Placed) (w : Work) : Option Work :=
  (Track.move e w.track g p.pos).map fun t =>
    ({ w with track := t, owed := { w.owed with due := true } }.updOrder i
      fun x => { x with planned := p.planned }).updOrder j fun x => { x with startPos := some p.pos }

/-- Places marks again, in chain order, up to the first that finds no position (R107, steps 1 and 2). -/
def placeMarks (e : Env) : List Nat → Nat → Work → Moves
  | [], n, w => ⟨w, n, []⟩
  | g :: rest, n, w =>
    match (w.track.find g).bind Mark.pair? with
    | none => placeMarks e rest n w
    | some (i, j) =>
      match w.seq.find i with
      | none => placeMarks e rest n w
      | some o =>
        match placement e w.seq o j with
        | none => ⟨{ w with seq := { w.seq with noPlace := true } }, n, g :: rest⟩
        | some p =>
          match moveTo e g i j p w with
          | none => placeMarks e rest n w
          | some w1 => placeMarks e rest (n + 1) w1

/-- Places marks again, and announces what that did to the track: the removal of the mark that found no position and of
every mark after it, and each move (R107, steps 3 and 4). The marks of one report move together: their moves are
announced one by one when all stand at their new positions, since "every later uncommitted boundary keeps its own
planned cuts and moves with the start it follows" (DEDUCED, log entry 11). -/
def placeAll (e : Env) (announce : Work → Work) (tags : List Nat) (w : Work) : Work :=
  let x := placeMarks e tags 0 w
  announce^[x.moved] (removeChanges announce x.unplaced x.work)

/-- What the sequencer answers to a move (R107). -/
inductive MoveAnswer where
  | moved
  | kept
  | refused
deriving DecidableEq, Repr

/-- A move of order `i` by `c` cuts (R107): refused where its end mark is COMMITTED or ACTIVE; kept in its added cuts
where it has none; otherwise its end mark and every later uncommitted mark are placed again. -/
def moveOrder (e : Env) (announce : Work → Work) (i c : Nat) (w : Work) : Work × MoveAnswer :=
  match w.seq.find i with
  | none => (w, .kept)
  | some o =>
    match o.endTag with
    | none => (w.updOrder i (fun x => { x with added := x.added + c }), .kept)
    | some g =>
      match w.track.changeState (some g) with
      | some .planned | some .proposed =>
        let w1 := w.updOrder i fun x => { x with added := x.added + c, planned := x.planned + c }
        (placeAll e announce (marksFrom w.track g) w1, .moved)
      | _ => (w, .refused)

end Sys2Proof.Machine
end

