-- ==== Sys2Proof/Machine/Sheets.lean ====
section
/-! DEFINITION. The sheet unit (chapter 8): what a mark covers, the forecast and its recompute, the flips an announcement
makes, cuts and the schedule switch, the gate, the stacker, and completion. -/

namespace Sys2Proof.Machine

/-! ## Extents and overlap (R32, section 8.2) -/

/-- A stretch of board by distances ahead, from `lo` up to but not including `hi`; no `hi` means without end. -/
structure Extent where
  lo : Int
  hi : Option Int
deriving DecidableEq, Repr

/-- Two stretches share a position. -/
def Extent.overlaps (x y : Extent) : Bool :=
  let lo := max x.lo y.lo
  (match x.hi with
    | some h => decide (lo < h)
    | none => true) &&
  (match y.hi with
    | some h => decide (lo < h)
    | none => true)

/-- What a reject mark covers (R32); none for a CHANGE mark, which covers no board. -/
def markExtent (e : Env) (m : Mark) : Option Extent :=
  match m.body with
  | .change _ _ _ _ => none
  | .mismatch _ true => some ⟨e.ahead m.start, none⟩
  | .mismatch _ false => some ⟨e.ahead m.start, some (e.ahead m.finish)⟩
  | .joint _ _ => some ⟨e.ahead m.start, some (e.ahead m.finish)⟩
  | .defect _ _ => some ⟨e.ahead m.start, some (e.ahead m.finish)⟩

/-- What the forecast takes a reject mark to cover (R141): an open MISMATCH ends where its stand's next joint can
reach. -/
def forecastExtent (e : Env) (m : Mark) : Option Extent :=
  match m.body with
  | .mismatch s true => some ⟨e.ahead m.start, some (e.fireReach s)⟩
  | _ => markExtent e m

/-- The stretch between two positions. -/
def between (e : Env) (p q : Pos) : Extent := ⟨e.ahead p, some (e.ahead q)⟩

/-- A sheet's extent (section 8.2). -/
def Sheet.extent (e : Env) (x : Sheet) : Extent := between e x.start (x.start.plus x.length)

/-- Whether a stretch overlaps a mark. -/
def hits (e : Env) (x : Extent) (m : Mark) : Bool :=
  match markExtent e m with
  | some y => x.overlaps y
  | none => false

/-- The cause a mark gives (R131). -/
def causeOf (m : Mark) : Option Cause :=
  match m.body with
  | .change _ _ _ _ => none
  | .joint s _ => some ⟨.joint, s.val, m.tag⟩
  | .defect _ c => some ⟨.defect, c, m.tag⟩
  | .mismatch s _ => some ⟨.mismatch, s.val, m.tag⟩

/-! ## Forecast (R141) -/

/-- Cut number n of an order that begins at `s` covers from cut boundary n − 1 to cut boundary n. -/
def cutExtent (e : Env) (s : Pos) (len n : Nat) : Extent :=
  between e (s.plus ((n - 1) * len : Nat)) (s.plus (n * len : Nat))

/-- How many of `k` cuts, the first of number `n`, overlap none of some stretches. -/
def cleanCuts (e : Env) (covered : List Extent) (s : Pos) (len : Nat) : Nat → Nat → Nat
  | 0, _ => 0
  | k + 1, n =>
    (if covered.any (cutExtent e s len n).overlaps then 0 else 1) + cleanCuts e covered s len k (n + 1)

/-- N_i: the cuts from an order's start to its end mark (R141). For a start that is far behind (R18) the difference is formed
from the far-behind value (DESIGN CHOICE, log entry 38). -/
def cutsTo (e : Env) (s finish : Pos) (len : Nat) : Nat := (e.ahead finish - e.ahead s).toNat / len

/-- The GOOD records of an order not yet at the gate (R141). -/
def goodInList (u : SheetUnit) (tag : Nat) : Nat :=
  (u.sheets.filter fun x => x.order == tag && x.cause.isNone && !x.gatePassed).length

/-- The forecast of an order with its start position and end mark (R141). -/
def forecastWith (e : Env) (w : Work) (o : Order) (s : Pos) (endMark : Mark) : Nat :=
  let n := cutsTo e s endMark.start o.given.length
  let unmade :=
    if o.tallies.endPos.isSome then 0
    else cleanCuts e (w.track.marks.filterMap (forecastExtent e)) s o.given.length (n - o.tallies.cuts)
      (o.tallies.cuts + 1)
  o.tallies.good + goodInList w.sheet o.tag + unmade

/-- The end mark of an order, if the track holds it. -/
def Work.endMark (w : Work) (o : Order) : Option Mark := o.endTag.bind w.track.find

/-- The forecast of an order, where R141 computes one. -/
def forecast (e : Env) (w : Work) (o : Order) : Option Nat :=
  match o.startPos, w.endMark o with
  | some s, some m => some (forecastWith e w o s m)
  | _, _ => none

/-! ## Recompute (R142, R143) -/

/-- ORDER_SHORT for an order, once (R143). -/
def raiseShort (e : Env) (tag : Nat) (w : Work) : Work :=
  match w.seq.find tag with
  | none => w
  | some o =>
    if o.tallies.short then w
    else raiseAlarm e .orderShort (.order tag) (w.updTallies tag fun t => { t with short := true })

/-- The recompute of orders, in sequence order (R142). A deficit report is taken by the sequencer before the next order;
the track announces what it does, and each announcement starts a recompute of its own, `again`. -/
def recomputePass (e : Env) (again : Work → Work) : List Nat → Work → Work
  | [], w => w
  | tag :: rest, w =>
    match (w.seq.find tag).bind fun o => (forecast e w o).map fun f => (o, f) with
    | none => recomputePass e again rest w
    | some (o, f) =>
      let w1 := w.updTallies tag fun t => { t with forecast := f }
      if o.given.required ≤ f then recomputePass e again rest w1
      else
        match moveOrder e again tag (o.given.required - f) w1 with
        | (w2, .refused) => recomputePass e again rest (raiseShort e tag w2)
        | (w2, .moved) => recomputePass e again rest w2
        | (w2, .kept) => recomputePass e again rest w2

/-- Recomputes within recomputes, to a depth of at most `n` (R142). -/
def recomputeWithin (e : Env) : Nat → Work → Work
  | 0, w => w
  | n + 1, w => recomputePass e (recomputeWithin e n) (w.seq.sequence.map Order.tag) w

/-- The recompute of the forecast (R142); the depth is above what can occur (log entry 12). -/
def recompute (e : Env) (w : Work) : Work := recomputeWithin e Config.recomputeBound w

/-! ## Announcements (R37, R132) -/

/-- Flips one record to REJECT under a mark (R132). -/
def flipSheet (e : Env) (m : Mark) (x : Sheet) : Sheet :=
  if !x.gatePassed && x.cause.isNone && hits e (x.extent e) m then { x with cause := causeOf m } else x

/-- An announcement that gives a mark a new extent: flips, then a recompute (R132, R142). -/
def announceExtent (e : Env) (m : Mark) (w : Work) : Work :=
  recompute e { w with sheet := { w.sheet with sheets := w.sheet.sheets.map (flipSheet e m) } }

/-- An announcement of a departure or a move: a recompute (R142). -/
def announce (e : Env) (w : Work) : Work := recompute e w

/-- A move of an order with its announcements (R107, R37). -/
def moveAndAnnounce (e : Env) (i c : Nat) (w : Work) : Work := (moveOrder e (announce e) i c w).1

/-! ## Cuts (R129, R131) -/

/-- The end of the next cut of the schedule. -/
def Schedule.nextEnd (c : Schedule) : Pos := c.start.plus (((c.cuts + 1) * c.length : Nat) : Int)

/-- Whether a position does not lie after the committed end of an order (R129, fourth condition). -/
def withinEnd (e : Env) (w : Work) (order : Nat) (p : Pos) : Bool :=
  match (w.seq.find order).bind w.endMark with
  | some m => !m.bound || decide (e.ahead p ≤ e.ahead m.start)
  | none => true

/-- Whether the next cut of a schedule is due (R129), where it is also to lie at or before `limit` if one is given
(R128, step 1). -/
def cutDue (e : Env) (w : Work) (limit : Option Pos) (c : Schedule) : Bool :=
  e.passedKind .knife c.nextEnd && withinEnd e w c.order c.nextEnd &&
    (match limit with
      | some t => decide (e.ahead c.nextEnd ≤ e.ahead t)
      | none => true)

/-- The cause of a sheet at its entry: that of the first mark in track order that overlaps it (R131). -/
def entryCause (e : Env) (w : Work) (x : Extent) : Option Cause := (w.track.marks.find? (hits e x)).bind causeOf

/-- Makes the next cut of a schedule: cue, count, record (R129). -/
def makeCut (e : Env) (c : Schedule) (w : Work) : Work :=
  let w1 := (pulse e 5 w).updTallies c.order fun t => { t with cuts := t.cuts + 1 }
  let s := c.start.plus ((c.cuts * c.length : Nat) : Int)
  let x : Sheet := ⟨c.order, c.cuts + 1, s, c.length, c.outs, entryCause e w1 (between e s c.nextEnd), false⟩
  { w1 with sheet := { w1.sheet with schedule := some { c with cuts := c.cuts + 1 }, sheets := w1.sheet.sheets ++ [x] } }

/-- Makes the due cuts of the schedule, at most `n` (R129). -/
def makeCuts (e : Env) (limit : Option Pos) : Nat → Work → Work
  | 0, w => w
  | n + 1, w =>
    match w.sheet.schedule with
    | none => w
    | some c => if cutDue e w limit c then makeCuts e limit n (makeCut e c w) else w

/-- How many cut ends of a schedule have passed the knife. -/
def cutsPassed (e : Env) (c : Schedule) : Nat :=
  match e.downstream .knife with
  | none => 0
  | some g =>
    let d := -(g : Int) - e.ahead c.nextEnd
    if d < 0 then 0 else d.toNat / c.length + 1

/-- The cut test of R129. -/
def cutTest (e : Env) (limit : Option Pos) (w : Work) : Work :=
  match w.sheet.schedule with
  | none => w
  | some c => makeCuts e limit (cutsPassed e c) w

/-! ## The switch (R128) -/

/-- Steps 1 to 5 of R128, for a mark at `t` with order pair (i, j) and late flag. -/
def switchSchedule (e : Env) (t : Pos) (i j : Nat) (late : Bool) (w : Work) : Work :=
  let atKnife := w.sheet.schedule.any fun c => c.order == i
  let w1 :=
    if atKnife then
      let x := (cutTest e (some t) w).updTallies i fun y => { y with endPos := some t }
      { x with sheet := { x.sheet with schedule := none } }
    else w
  let w2 := if late then
      let x := w1.updTallies j fun y => { y with lateChange := true }
      if i = 0 then x else x.updTallies i fun y => { y with lateChange := true }
    else w1
  let w3 := if i = 0 then pulse e 5 w2 else w2
  match w3.seq.find j with
  | none => { w3 with sheet := { w3.sheet with schedule := none } }
  | some o =>
    let w4 := w3.updTallies j fun y => { y with startAtKnife := some t }
    cutTest e none
      { w4 with sheet := { w4.sheet with schedule := some ⟨j, t, o.given.length, o.given.outs, 0⟩ } }

/-! ## The gate (R133, R134) -/

/-- Adds a cut to a defect causes list (R134). -/
def bumpCause (code : Nat) : List (Nat × Nat) → List (Nat × Nat)
  | [] => []
  | (c, n) :: rest => if c = code then (c, n + 1) :: rest else (c, n) :: bumpCause code rest

/-- The tallies of a DEFECT cause (R134). -/
def Tallies.addCause (t : Tallies) (code : Nat) : Tallies :=
  if t.causes.any (fun p => p.1 == code) then { t with causes := bumpCause code t.causes }
  else if t.causes.length < Config.causeLimit then { t with causes := t.causes ++ [(code, 1)] }
  else { t with otherCauses := t.otherCauses + 1 }

/-- The tallies of a gate passage (R134). -/
def Tallies.atGate (t : Tallies) (c : Option Cause) : Tallies :=
  match c with
  | none => { t with good := t.good + 1 }
  | some x =>
    match x.kind with
    | .joint => { t with rejectJoint := t.rejectJoint + 1 }
    | .mismatch => { t with rejectMismatch := t.rejectMismatch + 1 }
    | .defect => Tallies.addCause { t with rejectDefect := t.rejectDefect + 1 } x.source

/-- A sheet of an order by its cut index. -/
def Sheet.isCut (order cut : Nat) (x : Sheet) : Bool := x.order == order && x.cut == cut

/-- Sets the gate-passed flag of a record (R133, step 1). -/
def Sheet.passGate (x y : Sheet) : Sheet :=
  if y.isCut x.order x.cut then { y with gatePassed := true } else y

/-- A gate passage (R133), and the recompute it starts (R142). -/
def gatePassage (e : Env) (x : Sheet) (w : Work) : Work :=
  let w1 : Work := { w with sheet := { w.sheet with sheets := w.sheet.sheets.map (Sheet.passGate x) } }
  let w2 := if x.cause.isSome then pulse e 6 w1 else w1
  recompute e (w2.updTallies x.order fun t => t.atGate x.cause)

/-! ## The stacker and completion (R136 to R139) -/

/-- Closes the current stack of an order (R136, R137). -/
def closeStack (e : Env) (order : Nat) (w : Work) : Work :=
  match w.seq.find order with
  | none => w
  | some o =>
    let t := o.tallies
    post e (.stack order (t.stacksClosed + 1) t.currentStack) none
      (w.updTallies order fun y => { y with stacksClosed := y.stacksClosed + 1, currentStack := 0 })

/-- The completion record of an order (R138). -/
def completionOf (o : Order) : Completion where
  order := o.tag
  start := (o.tallies.startAtKnife.map Pos.val).getD 0#32
  finish := (o.tallies.endPos.map Pos.val).getD 0#32
  cuts := o.tallies.cuts
  good := o.tallies.good
  rejectJoint := o.tallies.rejectJoint
  rejectDefect := o.tallies.rejectDefect
  rejectMismatch := o.tallies.rejectMismatch
  causes := o.tallies.causes
  otherCauses := o.tallies.otherCauses
  goodSheets := o.tallies.goodSheets
  shortfall := o.given.quantity - o.tallies.goodSheets
  overrun := o.tallies.goodSheets - o.given.quantity
  stacksClosed := o.tallies.stacksClosed
  deferrals := o.deferrals
  added := o.added
  lateChange := o.tallies.lateChange
  short := o.tallies.short

/-- Writes a completion record to the log (R139). -/
def writeLog (r : Completion) (u : SheetUnit) : SheetUnit :=
  if u.log.length < Config.logLimit then { u with log := u.log ++ [r] }
  else { u with log := u.log.drop 1 ++ [r], logOverwrite := true }

/-- Completion of an order (R137, R109). -/
def completeOrder (e : Env) (order : Nat) (w : Work) : Work :=
  match w.seq.find order with
  | none => w
  | some o =>
    let w1 := if 0 < o.tallies.currentStack then closeStack e order w else w
    let o1 := (w1.seq.find order).getD o
    let w2 : Work := { w1 with sheet := writeLog (completionOf o1) w1.sheet }
    let w3 := post e (.order order) none w2
    { w3 with seq := { w3.seq with sequence := w3.seq.sequence.filter fun x => x.tag != order } }

/-- The completion test of R137. -/
def completionTest (e : Env) (order : Nat) (w : Work) : Work :=
  match w.seq.find order with
  | none => w
  | some o =>
    if o.tallies.endPos.isSome && !(w.sheet.sheets.any fun x => x.order == order) then completeOrder e order w else w

/-- A departure at the stacker (R136). -/
def departure (e : Env) (x : Sheet) (w : Work) : Work :=
  let w1 : Work := { w with sheet := { w.sheet with sheets := w.sheet.sheets.filter fun y => !y.isCut x.order x.cut } }
  let w2 :=
    if x.cause.isSome then w1
    else
      let y := w1.updTallies x.order fun t =>
        { t with goodSheets := t.goodSheets + x.outs, currentStack := t.currentStack + x.outs }
      match y.seq.find x.order with
      | some o => if o.given.stackSize ≤ o.tallies.currentStack then closeStack e x.order y else y
      | none => y
  completionTest e x.order w2

/-- The gate and stacker tests of one record (R135). -/
def gateAndStacker (e : Env) (w : Work) (x : Sheet) : Work :=
  let w1 :=
    match w.sheet.sheets.find? (Sheet.isCut x.order x.cut) with
    | some y => if !y.gatePassed && e.passedKind .gate y.start then gatePassage e y w else w
    | none => w
  match w1.sheet.sheets.find? (Sheet.isCut x.order x.cut) with
  | some y => if e.passedKind .stacker (y.start.plus y.length) then departure e y w1 else w1
  | none => w1

/-- The sheet unit's tests at an advance of E3 (R135). -/
def sheetAdvance (e : Env) (w : Work) : Work :=
  cutTest e none (w.sheet.sheets.foldl (gateAndStacker e) w)

end Sys2Proof.Machine
end

