-- ==== Sys2Proof/Machine/Passage.lean ====
section
/-! DEFINITION. The station unit at a passage (chapter 4): mark notices, setpoint ramps, the knife changeover and the
slitter swap. -/

namespace Sys2Proof.Machine

/-! ## Notices and cues of a station (R55, R58) -/

/-- Posts a STATION notice of a station to its owner; none where the owner role is NONE (R55). -/
def postStation (e : Env) (st : Station) (b : StationBody) (w : Work) : Work :=
  match st.owner with
  | none => w
  | some r => post e (.station b) (e.portOfRole r) w

/-- CUE7 to CUE11. -/
def stationCue (c : Fin 5) : CueLine := ⟨c.val + 7, by omega⟩

/-- Pulses the cue line of a station, if it has one. -/
def pulseStation (e : Env) (st : Station) (w : Work) : Work :=
  match st.cue with
  | none => w
  | some c => pulse e (stationCue c) w

/-- A mark notice (R58): BEGIN or END with the current value, late clear; the cue pulses whoever owns the station. -/
def markNotice (e : Env) (i : StationIx) (st : Station) (m : Mark) (action : StationAction) (w : Work) : Work :=
  pulseStation e st
    (postStation e st ⟨i, m.tag, m.kind, action, none, w.station.current[i], false, none, none⟩ w)

/-! ## Ramps (R59 to R62) -/

/-- The point of step `k` of a ramp: start + distance_k. -/
def Ramp.point (r : Ramp) (s : ProfileStep) : Pos := r.start.plus s.distance

/-- Whether a step is due (R60), and its point before a new change where one is given (R62). -/
def stepDue (e : Env) (st : Station) (r : Ramp) (before : Option Pos) (s : ProfileStep) : Bool :=
  e.passed (r.point s) (e.stationReach st) &&
    (match before with
      | some t => decide (e.ahead (r.point s) < e.ahead t)
      | none => true)

/-- The highest step at or after the next step that is due. -/
def highestDue (e : Env) (st : Station) (r : Ramp) (before : Option Pos) : Option (Nat × ProfileStep) :=
  (r.steps.zipIdx.filter fun p => decide (r.nextStep ≤ p.2) && stepDue e st r before p.1).getLast?.map
    fun p => (p.2, p.1)

/-- old + trunc((new − old) × fraction / 256) (R60). -/
def rampValue (oldValue newValue fraction : Nat) : Nat :=
  ((oldValue : Int) + Int.tdiv (((newValue : Int) - (oldValue : Int)) * (fraction : Int)) 256).toNat

/-- Delivers step `k` of the ramp of a station (R60). -/
def deliverStep (e : Env) (i : StationIx) (st : Station) (r : Ramp) (k : Nat) (s : ProfileStep) (late : Bool)
    (w : Work) : Work :=
  let v := rampValue r.oldValue r.newValue s.fraction
  let w1 := w.setCurrent i v
  let w2 := postStation e st ⟨i, r.changeTag, .change, .step, some k, v, late, some r.order, none⟩ w1
  let w3 := pulseStation e st w2
  w3.setRamp i (if k + 1 = r.steps.length then none else some { r with nextStep := k + 1 })

/-- The begin test of R44. -/
def beginDue (e : Env) (i : StationIx) (st : Station) (m : Mark) : Bool :=
  !m.beginPassed[i.val] && e.passed m.start (e.stationReach st)

/-- The start of the first change whose begin at a station is due and still to be handed on: of a ramp in flight or just
created, the steps that R62 delivers are those before it. -/
def pendingBegin (e : Env) (i : StationIx) (w : Work) : Option Pos :=
  match e.stations[i] with
  | some st =>
    if st.actsOn.change then (w.track.boundChanges.find? (beginDue e i st)).map Mark.start else none
  | none => none

/-- The step test of a station's ramp (R60). `created` marks the evaluation that created the record. -/
def rampTest (e : Env) (before : Option Pos) (created : Bool) (w : Work) (i : StationIx) : Work :=
  match e.stations[i], w.station.ramps[i] with
  | some st, some r =>
    match highestDue e st r before with
    | some (k, s) => deliverStep e i st r k s (created && r.late) w
    | none => w
  | _, _ => w

/-- Ends the ramp in flight at a station as a new change begins there (R61, R62). -/
def endRamp (e : Env) (i : StationIx) (t : Pos) (w : Work) : Work :=
  (rampTest e (some t) false w i).setRamp i none

/-- The recipe value of the order that begins at a station; 65,535 where it has left the queue (R59). -/
def recipeValue (e : Env) (w : Work) (i : StationIx) (order : Nat) : Nat :=
  match w.seq.find order with
  | some o => if h : o.given.recipe < 32 then e.recipes[o.given.recipe][i] else 65535
  | none => 65535

/-- A setpoint changeover (R59). The test that creates the record takes only the steps before a further change whose begin
is due at this evaluation too (R62). -/
def changeover (e : Env) (i : StationIx) (st : Station) (m : Mark) (order : Nat) (late : Bool) (w : Work) : Work :=
  let v := recipeValue e w i order
  let w1 := endRamp e i m.start w
  let begin_ : StationBody := ⟨i, m.tag, .change, .begins, none, v, late, some order, none⟩
  if v = 65535 then postStation e st begin_ w1
  else
    let r : Ramp := ⟨w1.station.current[i], v, e.profiles[st.profile], 0, m.tag, m.start, late, order⟩
    rampTest e (pendingBegin e i w) true (postStation e st begin_ (w1.setRamp i (some r))) i

/-! ## Knife (R63) -/

/-- A knife changeover (R63). The value of the notice is the sheet length of the order that begins. -/
def knifeChangeover (e : Env) (i : StationIx) (st : Station) (m : Mark) (ending order : Nat) (late : Bool) (w : Work) :
    Work :=
  let len := ((w.seq.find order).map fun o => o.given.length).getD 0
  let w1 := pulseStation e st
    (postStation e st ⟨i, m.tag, .change, .begins, none, len, late, some order, none⟩ w)
  switchSchedule e m.start ending order m.lateFlag w1

/-! ## Slitter pair (R64) -/

def Slitter.other : Slitter → Slitter
  | .a => .b
  | .b => .a

def SlitterPair.loaded (p : SlitterPair) : Slitter → Option Nat
  | .a => p.loadedA
  | .b => p.loadedB

def SlitterPair.confirmed (p : SlitterPair) : Slitter → Bool
  | .a => p.confirmedA
  | .b => p.confirmedB

/-- The pair after a swap (R64, steps 1 and 2). -/
def SlitterPair.swap (p : SlitterPair) : SlitterPair :=
  match p.active with
  | .a => { p with active := .b, confirmedA := false }
  | .b => { p with active := .a, confirmedB := false }

/-- Whether a CHANGE mark is a swapping change (R64). -/
def swapping (w : Work) (i j : Nat) : Bool := i == 0 || w.seq.scope i j != .knife

/-- The indices of the two SLITTER stations; the lower is slitter A. -/
def slitterStations (e : Env) : List StationIx := (stationsOfKind e.stations .slitter).map Prod.fst

/-- Whether a mark has the begin-passed flag of a SLITTER station set (R64). -/
def swapped (e : Env) (m : Mark) : Bool := (slitterStations e).any fun i => m.beginPassed[i.val]

/-- The setup-match flag (R64). -/
def setupMatch (p : SlitterPair) (order : Nat) : Bool :=
  (p.loaded p.active == some order) && p.confirmed p.active

/-- A CHANGE begin at a SLITTER station (R64). -/
def slitterChange (e : Env) (i : StationIx) (st : Station) (m : Mark) (ending order : Nat) (late : Bool) (w : Work) :
    Work :=
  if !swapping w ending order then w
  else if (slitterStations e).any fun k => k != i && m.beginPassed[k.val] then w
  else
    let p := w.station.slitters.swap
    let w1 : Work := { w with station := { w.station with slitters := p } }
    let value := match p.active with
      | .a => 0
      | .b => 1
    pulseStation e st
      (postStation e st ⟨i, m.tag, .change, .begins, none, value, late, some order,
        some ⟨p.loaded p.active, setupMatch p order⟩⟩ w1)

/-! ## A passage (R58) -/

/-- A CHANGE begin passage (R58). -/
def changeBegin (e : Env) (i : StationIx) (st : Station) (m : Mark) (ending order : Nat) (late : Bool) (w : Work) :
    Work :=
  match st.kind with
  | .preheat => changeover e i st m order late w
  | .glue => changeover e i st m order late w
  | .heat => changeover e i st m order late w
  | .generic => changeover e i st m order late w
  | .slitter => slitterChange e i st m ending order late w
  | .knife => knifeChangeover e i st m ending order late w
  | .gate => w
  | .stacker => w
  | .inspect => w

/-- A begin passage handed to the station unit (R45, R58). -/
def beginPassage (e : Env) (i : StationIx) (st : Station) (m : Mark) (late : Bool) (w : Work) : Work :=
  match m.pair? with
  | some (ending, order) => changeBegin e i st m ending order late w
  | none => markNotice e i st m .begins w

end Sys2Proof.Machine
end

