-- ==== Sys2Proof/Machine/Track.lean ====
section
/-! DEFINITION. The track's own work (chapter 3): entry of marks and merges at a full track (R34 to R36), the closing of
a MISMATCH (R40), the passage engine (R43 to R45, R47, R48) and retirement (R49). -/

namespace Sys2Proof.Machine

/-! ## The points of the line (R45) -/

/-- A point: a station, or the datum (none). -/
abbrev LinePoint := Option StationIx

/-- A point with its reach, and its rank among points of equal reach: station index, then the datum (DESIGN CHOICE,
log entry 8). -/
structure RankedPoint where
  reach : Int
  rank : Nat
  point : LinePoint
deriving DecidableEq, Repr

/-- Whether a point comes before another: the greater reach first (R45). -/
def RankedPoint.before (x y : RankedPoint) : Bool :=
  decide (y.reach < x.reach) || (decide (x.reach = y.reach) && decide (x.rank < y.rank))

def insertPoint (x : RankedPoint) : List RankedPoint → List RankedPoint
  | [] => [x]
  | y :: rest => if x.before y then x :: y :: rest else y :: insertPoint x rest

/-- The stations of the table in force and the datum, in decreasing order of reach (R45). -/
def linePoints (e : Env) : List LinePoint :=
  let stations := allStations.filterMap fun i => (e.stations[i]).map fun st =>
    (⟨e.stationReach st, i.val, some i⟩ : RankedPoint)
  ((⟨0, 24, none⟩ :: stations).foldr insertPoint []).map RankedPoint.point

/-! ## Passage of one mark (R44, R47) -/

/-- The mark with an entry number. -/
def Track.byEntry (t : Track) (n : Nat) : Option Mark := t.marks.find? fun m => m.entry == n

/-- Sets one flag of a passage set. -/
def setFlag (f : BitVec 24) (i : StationIx) : BitVec 24 := f ||| BitVec.twoPow 24 i.val

/-- The end test of R44. -/
def endDue (e : Env) (i : StationIx) (st : Station) (m : Mark) : Bool :=
  st.wantsEnd && !m.isOpen && decide (m.kind ≠ .change) && !m.endPassed[i.val] &&
    e.passed m.finish (e.stationReach st)

/-- The begin action of a mark at a station, if it is due: the flag is set, then the passage is handed on (R44). At a
commit it is late, and sets the mark's late flag (R47). -/
def beginAt (e : Env) (commit : Bool) (i : StationIx) (st : Station) (m : Mark) (w : Work) : Work :=
  if beginDue e i st m then
    let m1 : Mark := { m with beginPassed := setFlag m.beginPassed i }
    let m2 := if commit then m1.setLate else m1
    beginPassage e i st m2 commit { w with track := w.track.update m.tag fun _ => m2 }
  else w

/-- The end action of a mark at a station, if it is due (R44). -/
def endAt (e : Env) (i : StationIx) (st : Station) (m : Mark) (w : Work) : Work :=
  if endDue e i st m then
    let m1 : Mark := { m with endPassed := setFlag m.endPassed i }
    markNotice e i st m1 .ends { w with track := w.track.update m.tag fun _ => m1 }
  else w

/-- A mark at a station: begin before end (R44, R45). -/
def passStation (e : Env) (commit : Bool) (entry : Nat) (i : StationIx) (w : Work) : Work :=
  match e.stations[i], w.track.byEntry entry with
  | some st, some m =>
    if st.actsOn.has m.kind && !m.uncommitted then
      let w1 := beginAt e commit i st m w
      match w1.track.byEntry entry with
      | some m1 => endAt e i st m1 w1
      | none => w1
    else w
  | _, _ => w

/-- A mark at the datum (R46): a COMMITTED change becomes ACTIVE, and its arrival is reported to `arrive`. -/
def passDatum (e : Env) (arrive : Mark → Work → Work) (entry : Nat) (w : Work) : Work :=
  match w.track.byEntry entry with
  | none => w
  | some m =>
    if (m.changeState? == some .committed) && e.passed m.start 0 then
      let m1 := m.withState .active
      arrive m1 { w with track := w.track.update m.tag fun _ => m1 }
    else w

/-- A mark at a point. -/
def passPoint (e : Env) (arrive : Mark → Work → Work) (commit : Bool) (entry : Nat) (w : Work) : LinePoint → Work
  | some i => passStation e commit entry i w
  | none => passDatum e arrive entry w

/-- A mark at every point, in decreasing order of reach (R45). -/
def passMark (e : Env) (arrive : Mark → Work → Work) (commit : Bool) (w : Work) (entry : Nat) : Work :=
  (linePoints e).foldl (passPoint e arrive commit entry) w

/-! ## Retirement (R49) -/

/-- Whether a mark retires (R49). `except` is the entry number of a mark evaluated at its own entry or close. -/
def retires (e : Env) (w : Work) (except : Option Nat) (m : Mark) : Bool :=
  !m.isOpen && e.passedKind .stacker m.finish && except != some m.entry &&
    (match m.pair? with
      | none => true
      | some (_, j) =>
        !(allStands.any fun s => (w.stands[s].requirement.map Requirement.changeTag) == some m.tag) &&
          w.seq.running != some j)

/-- Retires the marks that R49 lets go. -/
def retireMarks (e : Env) (except : Option Nat) (w : Work) : Work :=
  if w.track.marks.any (retires e w except) then
    { w with
      track := { w.track with marks := w.track.marks.filter fun m => !retires e w except m }
      owed := { w.owed with extend := true } }
  else w

/-! ## Evaluations (R43) -/

/-- The ramp steps of a station at an evaluation (R60, R62). -/
def rampSteps (e : Env) (w : Work) (i : StationIx) : Work := rampTest e (pendingBegin e i w) false w i

/-- An evaluation of some marks: their passages, the ramp steps by station index (R60; DESIGN CHOICE, log entry 36), then
retirement (R49). -/
def evaluate (e : Env) (arrive : Mark → Work → Work) (commit : Bool) (entries : List Nat) (except : Option Nat)
    (w : Work) : Work :=
  let w1 := entries.foldl (passMark e arrive commit) w
  let w2 := allStations.foldl (rampSteps e) w1
  retireMarks e except w2

/-- What an evaluation reports arrivals to where no CHANGE mark can arrive. -/
def noArrival (_ : Mark) (w : Work) : Work := w

/-- The evaluation of one mark at its entry or close (R34, R40). -/
def evaluateOne (e : Env) (entry : Nat) (w : Work) : Work := evaluate e noArrival false [entry] (some entry) w

/-! ## Entry (R34, R36) -/

/-- DEFECT marks whose start has not passed the gate, in track order (R35, R36). -/
def mergeCandidates (e : Env) (t : Track) : List Mark := t.defects.filter fun m => !e.passedKind .gate m.start

/-- The gap between two extents, the first starting first (R35). -/
def gapAfter (finish start : Int) : Int := max 0 (start - finish)

/-- A pair of consecutive candidates and its gap. -/
structure MergePair where
  gap : Int
  first : Mark
  second : Mark
deriving DecidableEq, Repr

/-- The consecutive pairs of a list of candidates (R36). -/
def mergePairs (e : Env) : List Mark → List MergePair
  | m :: n :: rest => ⟨gapAfter (e.ahead m.finish) (e.ahead n.start), m, n⟩ :: mergePairs e (n :: rest)
  | _ => []

/-- The pair with the smallest gap, the first among equals (R36). -/
def closestPair (l : List MergePair) : Option MergePair :=
  match l with
  | [] => none
  | p :: rest => some (rest.foldl (fun best q => if q.gap < best.gap then q else best) p)

/-- A mark with its span set to reach the later of two ends (R35, R36). -/
def Mark.reachTo (e : Env) (m : Mark) (other : Int) : Mark :=
  { m with span := (max (e.ahead m.finish) other - e.ahead m.start).toNat }

/-- Puts a new mark into a track that has room (R31, R33, R34). -/
def Track.put (e : Env) (t : Track) (body : MarkBody) (start : Pos) (span : Nat) (begins ends : BitVec 24) : Track :=
  let tag := assignTag (t.marks.map Mark.tag) t.nextTag
  { marks := insertMark e.b ⟨tag, body, start, span, begins, ends, t.entryCount⟩ t.marks
    nextTag := succTag tag
    entryCount := t.entryCount + 1 }

/-- The TRACK_FULL subject of a mark that is not recorded (R36). -/
def fullSubject : MarkBody → Subject
  | .joint s _ => .stand s
  | .mismatch s _ => .stand s
  | .change _ j _ _ => .order j
  | .defect i _ => .station i

/-- The mark a `put` has entered. -/
def Track.newest (t : Track) : Option Mark := t.byEntry (t.entryCount - 1)

/-- Frees an entry of a full track by merging two DEFECT marks (R36): the survivor's change of span is announced, then the
departure of the later mark (R37). None where fewer than two candidates exist. -/
def freeEntry (e : Env) (w : Work) : Option Work :=
  match closestPair (mergePairs e (mergeCandidates e w.track)) with
  | none => none
  | some p =>
    let survivor := p.first.reachTo e (e.ahead p.second.finish)
    let w1 := announceExtent e survivor { w with track := w.track.update p.first.tag fun _ => survivor }
    some (announce e
      { w1 with track := w1.track.remove p.second.tag, owed := { w1.owed with extend := true } })

/-- A track with room for one more mark, where it has room or can free it (R34, R36). -/
def makeRoom (e : Env) (w : Work) : Option Work :=
  if w.track.marks.length < Config.trackLimit then some w else freeEntry e w

/-- Enters a new mark in a track that has room for it (R34); it is announced by the caller. -/
def recordMark (e : Env) (body : MarkBody) (start : Pos) (span : Nat) (w : Work) : Work × Option Mark :=
  let t := w.track.put e body start span 0 0
  ({ w with track := t }, t.newest)

/-- Hands a CHANGE, JOINT or MISMATCH mark to the track (R34, R36): with the mark, if it was recorded. -/
def handIn (e : Env) (body : MarkBody) (start : Pos) (span : Nat) (w : Work) : Work × Option Mark :=
  match makeRoom e w with
  | some w1 => recordMark e body start span w1
  | none => (raiseAlarm e .trackFull (fullSubject body) w, none)

/-- Enters a JOINT or MISMATCH mark: announced, and evaluated for passage (R34, R37); with its tag, if it was recorded.
R37 lets either be taken first; here, as wherever a mark enters or closes, the announcement is (DESIGN CHOICE, log
entry 42). -/
def enterMark (e : Env) (body : MarkBody) (start : Pos) (span : Nat) (w : Work) : Work × Option Nat :=
  match handIn e body start span w with
  | (w1, some m) => (evaluateOne e m.entry (announceExtent e m w1), some m.tag)
  | (w1, none) => (w1, none)

/-! ## Closing a MISMATCH (R40) -/

/-- Closes an open MISMATCH at a position (R40): announced, then evaluated (log entry 42); a tag that names none changes
nothing. For a start that is far behind (R18) the span is formed from the far-behind value (DESIGN CHOICE, log entry
38). -/
def closeMismatch (e : Env) (tag : Nat) (p : Pos) (w : Work) : Work :=
  match w.track.find tag with
  | none => w
  | some m =>
    match m.body with
    | .mismatch s true =>
      let m1 : Mark := { m with body := .mismatch s false, span := (e.ahead p - e.ahead m.start).toNat }
      evaluateOne e m.entry (announceExtent e m1 { w with track := w.track.update tag fun _ => m1 })
    | _ => w

/-! ## DEFECT marks (R35) -/

/-- What became of a reported span (R42). -/
inductive Disposition where
  | recorded | merged | none | dropped
deriving DecidableEq, Repr

/-- The gap between an arriving span and a candidate (R35). -/
def defectGap (e : Env) (start finish : Int) (m : Mark) : Int :=
  if start < e.ahead m.start then gapAfter finish (e.ahead m.start) else gapAfter (e.ahead m.finish) start

/-- The candidate with the smallest gap, the earlier in track order among equals (R35). -/
def mergeTarget (e : Env) (start finish : Int) (l : List Mark) : Option Mark :=
  match l with
  | [] => none
  | m :: rest =>
    some (rest.foldl (fun best n => if defectGap e start finish n < defectGap e start finish best then n else best) m)

/-- Hands the remaining span of a defect to the track (R35), each change announced as it is made (R37): the state, the tag
of the mark that now holds it or 0, and the disposition. -/
def enterDefect (e : Env) (station cause : Nat) (start : Pos) (span : Nat) (w : Work) : Work × Nat × Disposition :=
  if w.track.defects.length < Config.defectLimit ∧ w.track.marks.length < Config.trackLimit then
    let t := w.track.put e (.defect station cause) start span 0 0
    let w1 : Work := { w with track := t }
    match t.newest with
    | some m => (evaluateOne e m.entry (announceExtent e m w1), m.tag, .recorded)
    | none => (w1, 0, .recorded)
  else
    let lo := e.ahead start
    let hi := e.ahead (start.plus span)
    match mergeTarget e lo hi (mergeCandidates e w.track) with
    | none => (raiseAlarm e .trackFull (.station station) w, 0, .dropped)
    | some m =>
      if e.ahead m.start ≤ lo then
        let m1 := m.reachTo e hi
        (announceExtent e m1 { w with track := w.track.update m.tag fun _ => m1 }, m.tag, .merged)
      else
        let w1 := announce e { w with track := w.track.remove m.tag, owed := { w.owed with extend := true } }
        let t := w1.track.put e m.body start ((max hi (e.ahead m.finish) - lo).toNat) m.beginPassed m.endPassed
        let w2 : Work := { w1 with track := t }
        match t.newest with
        | some n => (evaluateOne e n.entry (announceExtent e n w2), n.tag, .merged)
        | none => (w2, 0, .merged)

/-! ## A new station set (R48) -/

/-- The flags that a mark takes against a new table (R48): set where the test of R44 holds, without any action. -/
def Mark.freshFlags (e : Env) (m : Mark) : Mark :=
  let clean : Mark := { m with beginPassed := 0, endPassed := 0 }
  if m.uncommitted then clean
  else
    allStations.foldl (fun x i =>
      match e.stations[i] with
      | none => x
      | some st =>
        if st.actsOn.has m.kind then
          { x with
            beginPassed := if beginDue e i st clean then setFlag x.beginPassed i else x.beginPassed
            endPassed := if endDue e i st clean then setFlag x.endPassed i else x.endPassed }
        else x) clean

end Sys2Proof.Machine
end

