-- ==== Sys2Proof/Machine/Chain.lean ====
section
/-! DEFINITION. The change chain (chapter 6): extension (R103), re-planning (R104), the hold of a refused order (R106),
and the sequencer's part of an arrival (R98). -/

namespace Sys2Proof.Machine

/-- The order whose end mark extension creates next, with its successor (R103). -/
def toExtend (w : Work) : Option (Order × Order) :=
  let fromRunning := w.seq.sequence.dropWhile fun o => some o.tag != w.seq.running
  match fromRunning.find? fun o =>
      o.startPos.isSome && o.endTag.isNone && !o.endCommitted && (w.seq.successor o.tag).isSome with
  | none => none
  | some o => (w.seq.successor o.tag).map fun j => (o, j)

/-- Links a new end mark to the orders of its pair (R103). -/
def Work.link (w : Work) (i j : Nat) (m : Mark) : Work :=
  (w.updOrder i fun o => { o with endTag := some m.tag }).updOrder j fun o =>
    { o with startTag := some m.tag, startPos := some m.start }

/-- Creates end marks one at a time, in at most `n` rounds (R103). Where the track is full a round frees an entry (R36), and
the next places the mark afresh: the merge is announced (R37) and may have moved the order's start (DESIGN CHOICE, log
entry 31). A mark that left the track before a refusal is no reason to try again after it. -/
def extendLoop (e : Env) : Nat → Work → Work
  | 0, w => w
  | n + 1, w =>
    match toExtend w with
    | none => w
    | some (i, j) =>
      if w.track.window.length < Config.planWindow then
        let i1 : Order := { i with planned := i.plannedNow }
        match placement e w.seq i1 j.tag with
        | none =>
          let w1 := w.updOrder i.tag fun o => { o with planned := o.plannedNow }
          { w1 with seq := { w1.seq with noPlace := true } }
        | some p =>
          let w1 := w.updOrder i.tag fun o => { o with planned := p.planned }
          if w.track.marks.length < Config.trackLimit then
            match recordMark e (.change i.tag j.tag .planned false) p.pos 0 w1 with
            | (w2, none) => w2
            | (w2, some m) =>
              let w3 := announceExtent e m (w2.link i.tag j.tag m)
              extendLoop e n (evaluateOne e m.entry { w3 with owed := { w3.owed with due := true } })
          else
            match freeEntry e w1 with
            | some w2 => extendLoop e n w2
            | none =>
              let w2 := raiseAlarm e .trackFull (.order j.tag) w1
              { w2 with
                seq := { w2.seq with trackRefused := true }
                owed := { w2.owed with extend := false } }
      else w

/-- Extends the chain (R103); the two indications are of this attempt, and an attempt is what clears them: a placement that
succeeds in a move (R107) leaves them as they are (DESIGN CHOICE, log entry 45). -/
def extendChain (e : Env) (w : Work) : Work :=
  extendLoop e Config.orderLimit
    { w with
      seq := { w.seq with noPlace := false, trackRefused := false }
      owed := { w.owed with extend := false } }

/-- Re-leads a mark to a new beginning order (R39, R104): the order it led to keeps nothing of it. -/
def relead (g k : Nat) (w : Work) : Work :=
  match w.track.find g with
  | none => w
  | some m =>
    match m.body with
    | .change i j st late =>
      let w1 := w.updOrder j fun o => { o with startTag := none, startPos := none }
      { w1.updOrder k (fun o => { o with startTag := some g, startPos := some m.start }) with
        track := w1.track.update g fun x => { x with body := .change i k st late }
        owed := { w1.owed with due := true } }
    | _ => w

/-- Places a re-led mark afresh from its order's planned cuts (R104, step 3); removed where no position is found. -/
def placeAfresh (e : Env) (g : Nat) (w : Work) : Work :=
  match (w.track.find g).bind Mark.pair? with
  | none => w
  | some (i, _) => placeAll e (announce e) [g] (w.updOrder i fun o => { o with planned := o.plannedNow })

/-- The uncommitted CHANGE marks after mark `g` removed, each announced (R104, step 1). -/
def removeLater (e : Env) (g : Nat) (w : Work) : Work := removeChanges (announce e) ((marksFrom w.track g).drop 1) w

/-- Mark `g` led to order `k` and placed afresh, and the chain extended (R104, steps 2 to 4). -/
def leadTo (e : Env) (g k : Nat) (w : Work) : Work := extendChain e (placeAfresh e g (relead g k w))

/-- The chain re-planned from mark `g`, which now leads to order `k` (R104). -/
def replan (e : Env) (g k : Nat) (w : Work) : Work := leadTo e g k (removeLater e g w)

/-- The order taken off the chain and put at the end of the held list (R106, step 1). -/
def holdOrder (j : Nat) (w : Work) : Work :=
  match w.seq.sequence.find? fun o => o.tag == j with
  | none => w
  | some o =>
    let h : Order := { o with startPos := none, startTag := none, endTag := none, endCommitted := false }
    { w with seq := { w.seq with
      sequence := w.seq.sequence.filter fun x => x.tag != j
      held := w.seq.held ++ [h] } }

/-- The end mark of an order removed, if it has one, and announced (R100, R106). -/
def removeEnd (e : Env) (o : Option Order) (w : Work) : Work :=
  match o.bind Order.endTag with
  | some t => removeChange (announce e) w t
  | none => w

/-- The sequencer's part of a refusal of mark `g`, whose order pair is (i, j) (R106). -/
def refusalHold (e : Env) (g j : Nat) (w : Work) : Work :=
  let w1 := removeEnd e (w.seq.find j) (holdOrder j w)
  match w.seq.successor j with
  | some k => replan e g k.tag w1
  | none => extendChain e (removeChange (announce e) w1 g)

/-- The sequencer's part of an arrival: the order that begins becomes the running order (R98). -/
def runOrder (e : Env) (j : Nat) (w : Work) : Work :=
  let w1 : Work := { w with seq := { w.seq with running := some j } }
  extendChain e (w1.updOrder j fun o => { o with runningFlag := true })

end Sys2Proof.Machine
end

