-- ==== Sys2Proof/Machine/Stands.lean ====
section
/-! DEFINITION. The stand unit (chapter 5): suiting (R69), levels (R75), the splice watch and the fire (R76 to R80),
confirmation and failure (R83 to R87), grade requirements (R88) and the mismatch principle (R89 to R92); and the
arrival of a change at the datum, which the sequencer and the stands share. -/

namespace Sys2Proof.Machine

/-! ## Suiting (R69) -/

/-- A reel of a grade and width, where the grade is known. -/
def Reel.suits (r : Reel) (grade width : Nat) : Bool := r.grade == grade && r.grade != 0 && r.width == width

/-- Whether a reel suits a live order for a stand; none suits an order that has left the queue. -/
def reelSuits (w : Work) (s : Stand) (r : Reel) (order : Nat) : Bool :=
  match w.seq.find order with
  | some o => r.suits (o.given.grade s) o.given.width
  | none => false

/-- Whether the running reel suits an order; the unknown reel and no reel suit none. -/
def runningSuits (w : Work) (s : Stand) (r : Running) (order : Nat) : Bool :=
  match r with
  | .reel x _ => reelSuits w s x order
  | .unknown => false
  | .none => false

/-- Whether a running reel suits a grade requirement. -/
def runningMeets (r : Running) (q : Requirement) : Bool :=
  match r with
  | .reel x _ => x.suits q.grade q.width
  | .unknown => false
  | .none => false

/-- The order at a board position (R69). -/
def orderAt (e : Env) (w : Work) (p : Pos) : Option Nat :=
  match (w.track.boundChanges.filter fun m => decide (e.ahead m.start ≤ e.ahead p)).getLast? with
  | some m => m.pair?.map Prod.snd
  | none => match e.run with
    | .running => w.seq.running
    | .idle => none

/-- Whether the order at a position is suited by a running reel; false where there is none. -/
def suitsAt (e : Env) (w : Work) (s : Stand) (r : Running) (p : Pos) : Bool :=
  match orderAt e w p with
  | some o => runningSuits w s r o
  | none => false

/-! ## Levels (R75) -/

/-- Sets a level: a change posts a REEL notice, may raise NO_READY_REEL and REEL_EXHAUSTED, and re-evaluates the phase
(R75, R76). -/
def setLevel (e : Env) (s : Stand) (l : ReelLevel) (u : Nat) (w : Work) : Work :=
  let r := w.stands[s]
  if l = r.level then w
  else
    let w1 := post e (.reel s l u) none (w.setStand s { r with level := l }.rephase)
    let w2 := if l.armed && r.ready.isNone then raiseAlarm e .noReadyReel (.stand s) w1 else w1
    if l = .empty then raiseAlarm e .reelExhausted (.stand s) w2 else w2

/-- Evaluates the level of a stand; `fresh` where a reel has just become the running reel (R75). -/
def evalLevel (e : Env) (s : Stand) (fresh : Bool) (w : Work) : Work :=
  let r := w.stands[s]
  match e.usable s r.running with
  | none => setLevel e s .normal 0 w
  | some u => setLevel e s (if fresh then rawLevel e.settings[s] u else nextLevel e.settings[s] u r.level) u w

/-- Notes that the consumption has exceeded the anchor (R28). -/
def noteSpent (e : Env) (s : Stand) (r : StandRec) : StandRec :=
  match r.running with
  | .reel x a =>
    if !a.spent && decide ((a.usable : Int) < e.consumed s a) then { r with running := .reel x { a with spent := true } }
    else r
  | .unknown => r
  | .none => r

/-! ## The fire (R77 to R80) -/

/-- Whether the stand's ready reel suits its grade requirement. -/
def StandRec.readyMeets (r : StandRec) : Bool :=
  match r.requirement, r.ready with
  | some q, some x => x.suits q.grade q.width
  | _, _ => false

/-- The grade condition (R77). -/
def gradeHolds (e : Env) (s : Stand) (r : StandRec) : Bool :=
  r.readyMeets &&
    (match r.requirement with
      | some q => e.passed q.aim (e.fireReach s)
      | none => false)

/-- The runout condition (R78). -/
def runoutHolds (e : Env) (s : Stand) (r : StandRec) : Bool :=
  r.level.armed && r.ready.isSome &&
    (match e.usable s r.running with
      | some u => decide (u ≤ e.lead s + e.settings[s].runoutMargin)
      | none => false)

/-- The fire snapshot (R79, step 1). -/
def snapshotNow (e : Env) (s : Stand) (r : StandRec) : Snapshot where
  b := e.b
  reach := e.splicerReach s
  lead := e.lead s
  kind := if r.readyMeets then .grade else .runout
  deadline := e.now + e.settings[s].timeout

/-- The estimated joint: b_fire + R_fire + lead_fire (R82). -/
def Snapshot.estimate (x : Snapshot) : Word := x.b + BitVec.ofInt 32 (x.reach + (x.lead : Int))

/-- CUE0 to CUE4. -/
def standCue (s : Stand) : CueLine := ⟨s.val, by omega⟩

/-- The body of the SPLICE notice (R79, step 4). -/
def spliceBody (s : Stand) (r : StandRec) (x : Snapshot) : NoticeBody :=
  let reel := (r.ready.map Reel.id).getD 0
  match x.kind, r.requirement with
  | .grade, some q => .splice s .grade reel q.aim.val q.changeTag
  | k, _ => .splice s k reel x.estimate 0

/-- The fire of a stand (R79); it closes a late-report window (R84). -/
def fire (e : Env) (s : Stand) (w : Work) : Work :=
  let r := w.stands[s]
  let x := snapshotNow e s r
  let w1 := w.setStand s { r with phase := .fired x, lateWindow := none }
  post e (spliceBody s r x) none (pulse e (standCue s) w1)

/-- The evaluation of the fire conditions of a stand in WATCH (R76, R79); `sudden` after one of the events of R80,
where a grade condition already holding makes the fire late. -/
def evalFire (e : Env) (sudden : Bool) (s : Stand) (w : Work) : Work :=
  let r := w.stands[s]
  if r.phase = .watch then
    if gradeHolds e s r then
      let w1 := fire e s w
      if sudden then raiseAlarm e .spliceLate (.stand s) w1 else w1
    else if runoutHolds e s r then fire e s w
    else w
  else w

/-- The fire evaluation of every stand (R76). -/
def evalFires (e : Env) (w : Work) : Work := allStands.foldl (fun x s => evalFire e false s x) w

/-- The stand unit at an advance of an encoder: levels of the stands it consumes for, then every fire condition (R73,
R76). That all levels come before all fire conditions is a DESIGN CHOICE (log entry 36). -/
def standAdvance (e : Env) (k : Encoder) (w : Work) : Work :=
  evalFires e ((allStands.filter fun s => standEncoder s == k).foldl
    (fun x s => evalLevel e s false (x.updStand s (noteSpent e s))) w)

/-! ## The requirement rule (R88) -/

/-- The regions of the COMMITTED and ACTIVE marks, each with the start of the next. -/
def regions : List Mark → List (Mark × Option Pos)
  | [] => []
  | [m] => [(m, none)]
  | m :: n :: rest => (m, some n.start) :: regions (n :: rest)

/-- Whether a region still holds board that a joint made now could reach. -/
def counts (e : Env) (s : Stand) (x : Mark × Option Pos) : Bool :=
  match x.2 with
  | some p => decide (e.splicerReach s < e.ahead p)
  | none => true

/-- Whether a region's order is not suited by the running reel. -/
def unsuitedRegion (w : Work) (s : Stand) (r : Running) (x : Mark × Option Pos) : Bool :=
  match x.1.pair? with
  | some (_, j) => !runningSuits w s r j
  | none => false

/-- The requirement that the first unsuited counting region gives. -/
def newRequirement (e : Env) (w : Work) (s : Stand) : Option Requirement :=
  match (regions w.track.boundChanges).find? fun x => counts e s x && unsuitedRegion w s w.stands[s].running x with
  | none => none
  | some (m, _) =>
    match m.pair?.bind fun p => w.seq.find p.2 with
    | none => none
    | some o => some ⟨m.tag, Pos.at (m.start.plus (-(e.table.aimOffset : Int))).val, o.given.grade s, o.given.width⟩

/-- The requirement rule (R88), with the evaluation that follows a creation (R80). -/
def requirementRule (e : Env) (s : Stand) (w : Work) : Work :=
  if w.stands[s].requirement.isSome then w
  else
    match newRequirement e w s with
    | none => w
    | some q => evalFire e true s (w.updStand s fun r => { r with requirement := some q }.rephase)

/-- The requirement rule on every stand (R88, R121). -/
def requirementRules (e : Env) (w : Work) : Work := allStands.foldl (fun x s => requirementRule e s x) w

/-! ## The mismatch principle at a joint (R89 to R91) -/

/-- A joint being dealt with: its position, the end of its JOINT mark, and the reel before it. -/
structure JointCase where
  pos : Pos
  finish : Pos
  old : Running
deriving DecidableEq, Repr

/-- The position of the change that a requirement names (R88: the aim plus the aim offset where the mark is gone). -/
def Requirement.change (e : Env) (w : Work) (q : Requirement) : Pos :=
  match w.track.find q.changeTag with
  | some m => m.start
  | none => q.aim.plus e.table.aimOffset

/-- Where R89 closes an open mark, if it does. -/
def settlePoint (e : Env) (s : Stand) (c : JointCase) (open_ : Mark) (w : Work) : Option Pos :=
  match w.track.boundChanges.find? fun m =>
      decide (e.ahead open_.start < e.ahead m.start) && decide (e.ahead m.start ≤ e.ahead c.pos) &&
        (match m.pair? with
          | some (_, j) => runningSuits w s c.old j
          | none => false) with
  | some m => some m.start
  | none => if suitsAt e w s w.stands[s].running c.pos then some c.finish else none

/-- R89: settles an open mismatch; with whether it closed one. -/
def settleOpen (e : Env) (s : Stand) (c : JointCase) (w : Work) : Work × Bool :=
  match w.stands[s].openMismatch with
  | none => (w, false)
  | some tag =>
    match w.track.find tag with
    | none => (w, false)
    | some m =>
      match settlePoint e s c m w with
      | none => (w, false)
      | some p => ((closeMismatch e tag p w).updStand s fun r => { r with openMismatch := none }, true)

/-- Hands in a closed MISMATCH from one position to another; its span is formed as a close forms it (log entry 38). -/
def enterClosed (e : Env) (s : Stand) (start finish : Pos) (w : Work) : Work :=
  (enterMark e (.mismatch s false) (Pos.at start.val) (e.ahead finish - e.ahead start).toNat w).1

/-- The closed span of R90, if it asks for one, for a requirement of a change at `t`. -/
def closedSpan (e : Env) (s : Stand) (c : JointCase) (closed : Bool) (t : Pos) (w : Work) : Option (Pos × Pos) :=
  if e.ahead c.pos < e.ahead t then
    if (orderAt e w c.pos).isSome && !suitsAt e w s w.stands[s].running c.pos then some (c.pos, t) else none
  else if closed then none
  else some (t, c.finish)

/-- R90: tests the grade requirement; with whether a closed mark was handed in. The requirement is cleared last, so that
the change it names stays in the track while the mark enters (R49). -/
def testRequirement (e : Env) (s : Stand) (c : JointCase) (closed : Bool) (w : Work) : Work × Bool :=
  match w.stands[s].requirement with
  | none => (w, false)
  | some q =>
    if runningMeets w.stands[s].running q then
      let span := closedSpan e s c closed (q.change e w) w
      let w1 := match span with
        | some x => enterClosed e s x.1 x.2 w
        | none => w
      (w1.updStand s fun x => { x with requirement := none }, span.isSome)
    else (w, false)

/-- Opens a MISMATCH at a position; the stand records its tag where the track records it (R91 to R93). -/
def openAt (e : Env) (s : Stand) (start : Pos) (w : Work) : Work :=
  match enterMark e (.mismatch s true) (Pos.at start.val) 0 w with
  | (w1, some tag) => w1.updStand s fun r => { r with openMismatch := some tag }
  | (w1, none) => w1

/-- R91: opens a span for an unsuited joint. -/
def openUnsuited (e : Env) (s : Stand) (c : JointCase) (handed : Bool) (w : Work) : Work :=
  let r := w.stands[s]
  if (orderAt e w c.pos).isSome && !suitsAt e w s r.running c.pos && r.openMismatch.isNone && !handed then
    let start := match r.requirement with
      | some q => if e.ahead (q.change e w) ≤ e.ahead c.pos then q.change e w else c.pos
      | none => c.pos
    openAt e s start w
  else w

/-- The mismatch principle at a joint: R89, R90, R91 in order. -/
def mismatchAtJoint (e : Env) (s : Stand) (c : JointCase) (w : Work) : Work :=
  let (w1, closed) := settleOpen e s c w
  let (w2, handed) := testRequirement e s c closed w1
  openUnsuited e s c handed w2

/-! ## Joints (R83, R84, R87) -/

/-- The half-width of a JOINT mark: the half-span, widened by the tolerance for an estimated joint (R83). -/
def jointHalf (c : StandSettings) (estimated : Bool) : Nat := c.halfSpan + (if estimated then c.tolerance else 0)

/-- Hands in the JOINT mark of a joint at `j` (R83, step 1). -/
def enterJoint (e : Env) (s : Stand) (j : Word) (estimated : Bool) (w : Work) : Work × Option Nat :=
  let half := jointHalf e.settings[s] estimated
  enterMark e (.joint s estimated) (Pos.at ((Pos.at j).plus (-(half : Int))).val) (2 * half) w

/-- The reels at a joint (R83, step 2; R87): the ready reel, or the unknown reel, becomes the running reel. -/
def swapReels (e : Env) (s : Stand) (j : Word) (w : Work) : Work :=
  evalLevel e s true (w.updStand s fun r =>
    { r with
      running := match r.ready with
        | some x => .reel x (e.anchorNow s x)
        | none => .unknown
      ready := none
      feedStart := some (Pos.at j) })

/-- Steps 1 to 5 of R83 at a joint at `j`; with the tag of the JOINT mark, if it was recorded. An unplanned joint
takes the same steps (R87). -/
def makeJoint (e : Env) (s : Stand) (j : Word) (estimated : Bool) (w : Work) : Work × Option Nat :=
  let old := w.stands[s].running
  let (w1, tag) := enterJoint e s j estimated w
  let w2 := swapReels e s j w1
  let finish := Pos.at ((Pos.at j).plus (jointHalf e.settings[s] estimated : Nat)).val
  let w3 := mismatchAtJoint e s ⟨Pos.at j, finish, old⟩ w2
  let w4 := requirementRule e s w3
  (w4.updStand s fun r => { r with phase := .idle }.rephase, tag)

/-- A failed splice (R85). -/
def failSplice (e : Env) (s : Stand) (w : Work) : Work :=
  raiseAlarm e .spliceFailed (.stand s) (w.updStand s fun r => { r with enable := false, phase := .idle })

/-! ## Arrival at the datum (R46, R92) -/

/-- A stand at the arrival of the change at `t` that begins order `j` (R92). -/
def standArrival (e : Env) (t : Pos) (j : Nat) (w : Work) (s : Stand) : Work :=
  let r := w.stands[s]
  let dealt := match r.feedStart with
    | some f => decide (e.ahead t < e.ahead f)
    | none => false
  if dealt then w
  else
    let w1 :=
      if runningSuits w s r.running j then
        match r.openMismatch with
        | some tag => (closeMismatch e tag t w).updStand s fun x => { x with openMismatch := none }
        | none => w
      else if r.openMismatch.isNone then openAt e s t w
      else w
    requirementRule e s w1

/-- The arrival of a CHANGE mark at the datum: the sequencer with its extension, then the stands (R46, R92, R98). Either
may act first; that the sequencer does is a DESIGN CHOICE (log entry 42). -/
def arrive (e : Env) (m : Mark) (w : Work) : Work :=
  match m.pair? with
  | none => w
  | some (_, j) => allStands.foldl (standArrival e m.start j) (runOrder e j w)

end Sys2Proof.Machine
end

