-- ==== Sys2Proof/Machine/Proposals.lean ====
section
/-! DEFINITION. The proposal unit (chapter 7): issue (R114, R115), the internal responder (R118), the combined result
(R119), results taking effect (R120 to R124), withdrawal (R125), the guard (R126), the due test (R113); and `settle`,
which does what an event owes. -/

namespace Sys2Proof.Machine

/-- Rewrites the proposal record with a tag. -/
def Work.updProposal (w : Work) (tag : Nat) (f : Proposal → Proposal) : Work :=
  { w with prop := { w.prop with list := w.prop.list.map fun p => if p.tag = tag then f p else p } }

/-- Takes the record with a tag off the list; an outstanding proposal has ended (R113). -/
def Work.endProposal (w : Work) (tag : Nat) : Work :=
  { w with
    prop := { w.prop with list := w.prop.list.filter fun p => p.tag != tag }
    owed := { w.owed with due := true } }

/-- The record with a proposal tag. -/
def Work.proposal (w : Work) (tag : Nat) : Option Proposal := w.prop.list.find? fun p => p.tag == tag

/-- The order pair of a proposed mark. -/
def Work.pairOf (w : Work) (changeTag : Nat) : Option (Nat × Nat) := (w.track.find changeTag).bind Mark.pair?

/-! ## Issue (R114, R115) -/

/-- Whether a scope has a port responder of a role (R115). -/
def responds (sc : Scope) (r : Role) : Bool :=
  match sc, r with
  | .dry, .dry => true
  | .line, .dry => true
  | .line, .wet => true
  | _, _ => false

/-- The partial response a port responder starts with (R115). -/
def firstResponse (e : Env) (sc : Scope) (r : Role) : Option Partial :=
  if responds sc r then some (if (e.openPortOfRole r).isSome then .pending else .notReady) else none

/-- The internal responder's partial response at an issue (R115). -/
def firstInternal : Scope → Option Partial
  | .knife => none
  | .dry => some .pending
  | .line => some .pending

/-- Posts the PROPOSAL notice of an issue to an OPEN port that holds a role (R115). -/
def postProposal (e : Env) (tag changeTag : Nat) (sc : Scope) (w : Work) (r : Role) : Work :=
  if responds sc r then
    match e.openPortOfRole r, w.track.find changeTag, w.pairOf changeTag with
    | some p, some m, some (i, j) => post e (.proposal ⟨tag, changeTag, sc, i, j, m.start.val⟩) (some p) w
    | _, _, _ => w
  else w

/-- Issues a record under a new tag and a scope: fresh responders and deadline (R114, R115). The DRY port's notice is posted
before the WET port's (DESIGN CHOICE, log entry 44). -/
def issue (e : Env) (old : Nat) (sc : Scope) (w : Work) : Work :=
  match w.proposal old with
  | none => w
  | some p =>
    let tag := assignTag (w.prop.list.map Proposal.tag) w.prop.nextTag
    let p1 : Proposal :=
      { p with
        tag := tag
        scope := sc
        status := .collecting (e.now + e.table.responseTimeout)
        internal := firstInternal sc
        dry := firstResponse e sc .dry
        wet := firstResponse e sc .wet }
    let w1 := w.updProposal old fun _ => p1
    let w2 : Work := { w1 with prop := { w1.prop with nextTag := succTag tag } }
    [Role.dry, Role.wet].foldl (postProposal e tag p.changeTag sc) w2

/-- A PLANNED mark becomes PROPOSED, where every CHANGE mark before it is no longer PLANNED (R38). -/
def proposeMark (changeTag : Nat) (t : Track) : Track :=
  if ((t.marks.takeWhile fun m => m.tag != changeTag).all fun m => m.changeState? != some .planned) then
    t.update changeTag fun m => if m.changeState? = some .planned then m.withState .proposed else m
  else t

/-- A first issue for a mark (R114). The record is entered with tag 0, which no issue assigns, and issued at once. -/
def firstIssue (e : Env) (m : Mark) (w : Work) : Work :=
  match m.pair? with
  | none => w
  | some (i, j) =>
    let sc := w.seq.scope i j
    let p : Proposal := ⟨0, m.tag, sc, .collecting 0, none, none, none, 0⟩
    issue e 0 sc
      { w with
        prop := { w.prop with list := w.prop.list ++ [p] }
        track := proposeMark m.tag w.track }

/-! ## The internal responder (R118) -/

/-- The slitter check: the idle slitter is loaded for the beginning order and confirmed. -/
def slitterReady (w : Work) (j : Nat) : Bool :=
  let p := w.station.slitters
  let idle := p.active.other
  (p.loaded idle == some j) && p.confirmed idle

/-- The stand check on one stand. -/
def standReady (e : Env) (w : Work) (m : Mark) (j : Nat) (s : Stand) : Bool :=
  let r := w.stands[s]
  runningSuits w s r.running j ||
    (r.enable && (r.ready.any fun x => reelSuits w s x j) && r.requirement.isNone &&
      decide (e.fireReach s < e.ahead (m.start.plus (-(e.table.aimOffset : Int)))))

/-- Whether a LINE pair needs the slitter check: its orders differ in slit widths or score code. -/
def slitsDiffer (w : Work) (i j : Nat) : Bool :=
  match w.seq.find i, w.seq.find j with
  | some oi, some oj => oi.given.slits != oj.given.slits || oi.given.score != oj.given.score
  | _, _ => false

/-- The internal responder's answer (R118). -/
def internalAnswer (e : Env) (w : Work) (p : Proposal) : Option Partial :=
  match p.scope, w.track.find p.changeTag, w.pairOf p.changeTag with
  | .knife, _, _ => none
  | .dry, _, some (_, j) => some (if slitterReady w j then .ready else .notReady)
  | .line, some m, some (i, j) =>
    some (if (!slitsDiffer w i j || slitterReady w j) && allStands.all (standReady e w m j) then .ready else .notReady)
  | _, _, _ => some .notReady

/-! ## The combined result (R119) -/

/-- The first row of R119 that applies. -/
def combined (sc : Scope) (l : List Partial) : Result :=
  match sc with
  | .knife => .committed
  | .dry =>
    if l.contains .refuse then .refused
    else if l.contains .widen then .widened
    else if l.contains .notReady then .deferred
    else .committed
  | .line =>
    if l.contains .refuse then .refused
    else if l.contains .notReady || l.contains .widen then .deferred
    else .committed

/-- Whether every port response is other than PENDING (R118, R119). -/
def Proposal.complete (p : Proposal) : Bool :=
  p.collecting && p.dry != some .pending && p.wet != some .pending

/-- At the deadline a PENDING response counts as NOT_READY (R119). -/
def atDeadline : Option Partial → Option Partial
  | some .pending => some .notReady
  | x => x

/-- Posts the RESULT notice of a proposal (R119). -/
def postResult (e : Env) (p : Proposal) (r : Result) (count : Nat) (stalled : Bool) (w : Work) : Work :=
  match w.pairOf p.changeTag with
  | none => w
  | some (i, j) => post e (.result ⟨p.tag, p.changeTag, i, j, r, count, stalled⟩) none w

/-- Forms the combined result of a COLLECTING proposal (R119); a WIDENED one is re-issued at once (R123). -/
def formResult (e : Env) (p : Proposal) (w : Work) : Work :=
  let q : Proposal :=
    { p with internal := internalAnswer e w p, dry := atDeadline p.dry, wet := atDeadline p.wet }
  let r := combined p.scope (q.internal.toList ++ q.dry.toList ++ q.wet.toList)
  let count := if r = .deferred then p.deferrals + 1 else p.deferrals
  let w1 := removeUntaken p.tag (w.updProposal p.tag fun _ => { q with status := .decided r false })
  let w2 := postResult e p r count false w1
  if r = .widened then issue e p.tag .line w2 else w2

/-! ## Results taking effect (R120 to R124) -/

/-- Withdraws the records younger than the one of a mark, youngest first (R125). -/
def withdrawYounger (changeTag : Nat) (w : Work) : Work :=
  (((w.prop.list.map Proposal.changeTag).dropWhile fun g => g ≠ changeTag).drop 1).reverse.foldl
    (fun x g => withdrawFor g x) w

/-- A PROPOSED mark becomes COMMITTED, where every CHANGE mark before it is (R38). -/
def acceptsCommit (t : Track) (m : Mark) : Bool :=
  (m.changeState? == some .proposed) &&
    ((t.marks.takeWhile fun x => x.tag != m.tag).all fun x => !x.uncommitted)

/-- A commit of a mark, and its evaluation (R121 step 1, R47). -/
def commitMark (e : Env) (changeTag : Nat) (w : Work) : Work :=
  match w.track.find changeTag with
  | none => w
  | some m =>
    if acceptsCommit w.track m then
      evaluate e (arrive e) true [m.entry] (some m.entry)
        { w with track := w.track.update changeTag fun x => x.withState .committed }
    else w

/-- R121. -/
def effectCommitted (e : Env) (p : Proposal) (w : Work) : Work :=
  let pair := w.pairOf p.changeTag
  let w1 := commitMark e p.changeTag w
  let w2 := match pair with
    | some (i, _) => w1.updOrder i fun o => { o with endCommitted := true }
    | none => w1
  (requirementRules e w2).endProposal p.tag

/-- R124. -/
def effectRefused (e : Env) (p : Proposal) (w : Work) : Work :=
  let w1 := withdrawYounger p.changeTag w
  let w2 : Work := { w1 with track := w1.track.update p.changeTag fun m =>
    (if m.changeState? = some .proposed then m.withState .planned else m) }
  let w3 := w2.endProposal p.tag
  match w3.pairOf p.changeTag with
  | some (_, j) => refusalHold e p.changeTag j w3
  | none => w3

/-- A refusal by the deferral limit (R122 step 3, R126 step 3). -/
def stall (e : Env) (p : Proposal) (count : Nat) (w : Work) : Work :=
  match w.pairOf p.changeTag with
  | none => w
  | some (_, j) =>
    let w1 := raiseAlarm e .changeStalled (.order j)
      (removeUntaken p.tag (w.updProposal p.tag fun x => { x with status := .decided .refused true }))
    effectRefused e p (postResult e p .refused count true w1)

/-- One deferral counted in the ending order and in the record of a mark (R122, R126). -/
def countDeferral (i changeTag : Nat) (w : Work) : Work :=
  let w1 := w.updOrder i fun o => { o with deferrals := o.deferrals + 1 }
  { w1 with prop := { w1.prop with list := w1.prop.list.map fun x =>
    (if x.changeTag = changeTag then { x with deferrals := x.deferrals + 1 } else x) } }

/-- R122. -/
def effectDeferred (e : Env) (p : Proposal) (w : Work) : Work :=
  match w.pairOf p.changeTag with
  | none => w.endProposal p.tag
  | some (i, _) =>
    let w1 := countDeferral i p.changeTag (withdrawYounger p.changeTag w)
    if e.table.deferralLimit < p.deferrals + 1 then stall e p (p.deferrals + 1) w1
    else
      let retry := Pos.at ((Pos.at e.b).plus e.table.retryDistance).val
      moveAndAnnounce e i 1 (w1.updProposal p.tag fun x => { x with status := .waiting retry })

/-- Whether a proposal's result takes effect when it comes first in the list (R120). -/
def Proposal.effective (p : Proposal) : Bool :=
  match p.status with
  | .decided .committed _ => true
  | .decided .deferred _ => true
  | .decided .refused _ => true
  | .decided .widened _ => false
  | .collecting _ => false
  | .waiting _ => false

/-- The first record, if DECIDED, takes effect (R120). -/
def takeEffect (e : Env) (w : Work) : Option Work :=
  match w.prop.list with
  | [] => none
  | p :: _ =>
    match p.status with
    | .decided .committed _ => some (effectCommitted e p w)
    | .decided .deferred _ => some (effectDeferred e p w)
    | .decided .refused _ => some (effectRefused e p w)
    | .decided .widened _ => none
    | .collecting _ => none
    | .waiting _ => none

/-! ## Guard and due test (R113, R126) -/

/-- The guard on one mark (R126). -/
def guardMark (e : Env) (w : Work) (g : Nat) : Work :=
  match w.track.find g with
  | none => w
  | some m =>
    match m.pair? with
    | none => w
    | some (i, _) =>
      if m.uncommitted && decide (e.ahead m.start < (e.table.guardDistance : Int)) then
        let w1 := countDeferral i g (moveAndAnnounce e i 1 w)
        match w1.prop.list.find? fun x => x.changeTag == g with
        | some p => if e.table.deferralLimit < p.deferrals then stall e p p.deferrals w1 else w1
        | none => w1
      else w

/-- The guard on every uncommitted mark, in track order (R126). -/
def guardAll (e : Env) (w : Work) : Work := (w.track.uncommittedChanges.map Mark.tag).foldl (guardMark e) w

/-- Re-issues a WAITING record whose retry position has passed the datum (R122). -/
def retryWaiting (e : Env) (w : Work) : Work :=
  match w.prop.list.find? fun p => match p.status with
      | .waiting r => e.passed r 0
      | _ => false with
  | some p => issue e p.tag p.scope w
  | none => w

/-- The PLANNED marks, in track order. -/
def Track.plannedChanges (t : Track) : List Mark := t.marks.filter fun m => m.changeState? == some .planned

/-- Whether a PLANNED mark lies within its due distance. -/
def isDue (e : Env) (w : Work) (m : Mark) : Bool :=
  match m.pair? with
  | some (i, j) => decide (e.ahead m.start ≤ dueDistance e w.seq i j)
  | none => false

/-- The mark a proposal falls due for (R113): the first PLANNED one, whichever made the test hold. -/
def dueMark (e : Env) (w : Work) : Option Mark :=
  if e.run = .running ∧ w.prop.list.length < Config.proposalLimit ∧
      (w.prop.list.all fun p => match p.status with
        | .waiting _ => false
        | _ => true) = true ∧
      w.track.plannedChanges.any (isDue e w) = true then
    w.track.plannedChanges.head?
  else none

/-- Whether a result is to be formed or to take effect at once (R119, R120). -/
def unsettled (w : Work) : Bool :=
  w.prop.list.any Proposal.complete || w.prop.list.head?.any Proposal.effective

/-- Makes the due test owed. -/
def Work.oweDue (w : Work) : Work := { w with owed := { w.owed with due := true } }

/-- One evaluation of R113: the guard, the retry, then one issue if the test holds; it is then owed again, so that as
many are issued as the test allows. Where the guard or the retry completes a set of responses (a re-issue whose port
responders are NOT_READY at once, R115), its result is formed and takes effect first (R119, R120), and the test is made
on what that leaves. -/
def dueTest (e : Env) (w : Work) : Work :=
  let w1 := retryWaiting e (guardAll e { w with owed := { w.owed with due := false } })
  if unsettled w1 then w1.oweDue
  else
    match dueMark e w1 with
    | some m => (firstIssue e m w1).oweDue
    | none => w1

/-! ## Settling -/

/-- One round of the work an event owes, in this order: the first record takes effect if it is decided (R120: at once),
the first complete result is formed, a departure lets the chain be extended, the due test is made. Where several marks
have left the track, one extension follows them all (both DESIGN CHOICE, log entry 7). -/
def settleRound (e : Env) (w : Work) : Option Work :=
  match takeEffect e w with
  | some w1 => some w1
  | none =>
    match w.prop.list.find? Proposal.complete with
    | some p => some (formResult e p w)
    | none =>
      if w.owed.extend then
        some (if w.seq.trackRefused then extendChain e w else { w with owed := { w.owed with extend := false } })
      else if w.owed.due then some (dueTest e w)
      else none

/-- Rounds until nothing is owed, at most `n`. -/
def settleLoop (e : Env) : Nat → Work → Work
  | 0, w => w
  | n + 1, w =>
    match settleRound e w with
    | some w1 => settleLoop e n w1
    | none => w

def settle (e : Env) (w : Work) : Work := settleLoop e Config.settleBound w

/-- Makes the due test owed, and settles (R113). -/
def proposalTest (e : Env) (w : Work) : Work := settle e w.oweDue

end Sys2Proof.Machine
end

