-- ==== Sys2Proof/Machine/Odometer.lean ====
section
/-! DEFINITION. The odometer unit (chapter 1) and the commands that the machine itself sends: encoder edges, the speed
period, and the timed events (R6 to R13, R18, R67, R82, R84, R119, R158). A timed command is the event that its end
time is reached, so it brings the time base up to that end time where it stands before it (DESIGN CHOICE, log
entry 4). -/

namespace Sys2Proof.Machine

/-! ## Bridges (R11 to R13) -/

/-- Sets the fill of a bridge, clamped into 0 to F_max_k, with the arrival alarms of R12; the level is evaluated where
the fill changes or `always` asks for it (R13, R5, R14). -/
def setFill (e : Env) (k : Bridge) (value : Int) (always : Bool) (w : Work) : Env × Work :=
  let old := e.bridges[k]
  let top := e.table.fillMax[k]
  let fill := min value.toNat top
  let moved := fill != old.fill
  let level :=
    if moved || always then
      bridgeLevel e.table.lowThreshold[k] e.table.highThreshold[k] e.table.levelHysteresis[k] fill old.level
    else old.level
  let e1 : Env := { e with bridges := e.bridges.set k ⟨fill, level⟩ }
  let w1 := if moved && fill == 0 then raiseAlarm e1 .bridgeEmpty (.bridge k) w else w
  let w2 := if moved && fill == top then raiseAlarm e1 .bridgeFull (.bridge k) w1 else w1
  let w3 := if level != old.level && level == .low then raiseAlarm e1 .bridgeLow (.bridge k) w2 else w2
  let w4 := if level != old.level && level == .high then raiseAlarm e1 .bridgeHigh (.bridge k) w3 else w3
  (e1, w4)

/-- The change of a bridge fill that an advance of `n` on an encoder makes (R11). -/
def fillShift (c : Encoder) (k : Bridge) (n : Nat) : Int :=
  match c with
  | 0 => if k = 0 then n else 0
  | 1 => if k = 1 then n else 0
  | 2 => -(n : Int)

/-- The fills at an advance (R11). -/
def shiftFills (c : Encoder) (n : Nat) (x : Env × Work) (k : Bridge) : Env × Work :=
  setFill x.1 k ((x.1.bridges[k].fill : Int) + fillShift c k n) false x.2

/-! ## The far-behind check (R18) -/

def Order.checkFar (b : Word) (o : Order) : Order :=
  { o with
    startPos := o.startPos.map (Pos.check b)
    tallies := { o.tallies with
      startAtKnife := o.tallies.startAtKnife.map (Pos.check b)
      endPos := o.tallies.endPos.map (Pos.check b) } }

def StandRec.checkFar (b : Word) (r : StandRec) : StandRec :=
  { r with
    feedStart := r.feedStart.map (Pos.check b)
    requirement := r.requirement.map fun q => { q with aim := q.aim.check b } }

def Proposal.checkFar (b : Word) (p : Proposal) : Proposal :=
  match p.status with
  | .waiting r => { p with status := .waiting (r.check b) }
  | .collecting _ => p
  | .decided _ _ => p

/-- Applies a function to the items of a list of stations or stands that a table holds. -/
def mapStands (f : StandRec → StandRec) (v : Vector StandRec 5) : Vector StandRec 5 :=
  #v[f v[0], f v[1], f v[2], f v[3], f v[4]]

/-- The check of every held position at a board advance (R18); the track is put in order again, since positions that
become far behind compare as equal. -/
def Work.checkFar (b : Word) (w : Work) : Work :=
  { w with
    track := { w.track with
      marks := sortMarks b (w.track.marks.map fun m => { m with start := m.start.check b }) }
    station := { w.station with
      ramps := allStations.foldl (fun v i =>
        match v[i] with
        | some r => v.set i (some { r with start := r.start.check b })
        | none => v) w.station.ramps }
    stands := mapStands (StandRec.checkFar b) w.stands
    seq := { w.seq with
      sequence := w.seq.sequence.map (Order.checkFar b)
      held := w.seq.held.map (Order.checkFar b) }
    prop := { w.prop with list := w.prop.list.map (Proposal.checkFar b) }
    sheet := { w.sheet with
      schedule := w.sheet.schedule.map fun c => { c with start := c.start.check b }
      sheets := w.sheet.sheets.map fun x => { x with start := x.start.check b } } }

/-! ## Odometer advance (R9) -/

/-- The evaluation of every mark, in track order (R43, R45). -/
def evaluateAll (e : Env) (w : Work) : Work :=
  evaluate e (arrive e) false (w.track.marks.map Mark.entry) none w

/-- The environment and work after the fills of an advance of `n` millimetres on encoder `c` (R9, R11). Where both fills
change, bridge 1 is taken whole, with its alarms and level, before bridge 2 (DESIGN CHOICE, log entry 6). -/
def advanceFills (e : Env) (c : Encoder) (n : Nat) (w : Work) : Env × Work :=
  let r := e.encoders[c]
  let e1 : Env := { e with encoders := e.encoders.set c { r with odo := r.odo + BitVec.ofNat 32 n } }
  allBridges.foldl (shiftFills c n) (e1, w)

/-- The blocks that wait on positions, in the order in which R9 lists them (DESIGN CHOICE, log entry 6). -/
def advanceBlocks (e : Env) (c : Encoder) (w : Work) : Work :=
  let w1 := if c = 2 then w.checkFar e.b else w
  let w2 := evaluateAll e w1
  let w3 := if c = 2 && w2.seq.noPlace then extendChain e w2 else w2
  let w4 := proposalTest e (standAdvance e c w3)
  if c = 2 then settle e (sheetAdvance e w4) else w4

/-- One odometer advance of `n` millimetres (R9). -/
def advance (e : Env) (c : Encoder) (n : Nat) (w : Work) : Env × Work :=
  let (e1, w1) := advanceFills e c n w
  (e1, advanceBlocks e1 c w1)

/-! ## Counts (R6 to R8) -/

/-- What a change of level on a pair is (R6). -/
inductive Edge where
  | forward | reverse | undirected | unchanged
deriving DecidableEq, Repr

/-- The place of a pair of levels in the forward phase order, EkA leading EkB. -/
def quadPhase : QuadLevels → Nat
  | ⟨false, false⟩ => 0
  | ⟨true, false⟩ => 1
  | ⟨true, true⟩ => 2
  | ⟨false, true⟩ => 3

/-- Decodes a change of levels (R6). -/
def decodeEdge (before after : QuadLevels) : Edge :=
  match (quadPhase after + 4 - quadPhase before) % 4 with
  | 0 => .unchanged
  | 1 => .forward
  | 2 => .undirected
  | _ => .reverse

/-- An encoder after a forward count of pitch `p`, its odometer apart, and the millimetres it advances (R7). -/
def forwardCount (p : Nat) (r : EncoderRec) : EncoderRec × Nat :=
  if p ≤ r.debt then ({ r with debt := r.debt - p }, 0)
  else
    let residue := r.residue + (p - r.debt)
    ({ r with debt := 0, residue := residue % Config.unitsPerMm }, residue / Config.unitsPerMm)

/-- An encoder after a reverse count of pitch `p`, and whether the debt has arrived at the clamp (R8). -/
def reverseCount (p : Nat) (r : EncoderRec) : EncoderRec × Bool :=
  let debt := min (r.debt + p) Config.debtClamp
  ({ r with debt := debt }, decide (r.debt < Config.debtClamp) && decide (debt = Config.debtClamp))

/-- The encoder table with one encoder replaced. -/
def Env.setEncoder (e : Env) (c : Encoder) (r : EncoderRec) : Env := { e with encoders := e.encoders.set c r }

/-- One count taken whole (R6): at pitch 0 it takes no distance. -/
def count (e : Env) (c : Encoder) (edge : Edge) (w : Work) : Env × Work :=
  let p := e.table.pitch[c]
  if p = 0 then (e, w)
  else
    match edge with
    | .forward =>
      let (r, n) := forwardCount p e.encoders[c]
      if n = 0 then (e.setEncoder c r, w) else advance (e.setEncoder c r) c n w
    | .reverse =>
      let (r, arrived) := reverseCount p e.encoders[c]
      let e1 := e.setEncoder c r
      (e1, if arrived then raiseAlarm e1 .reverse (.encoder c) w else w)
    | .undirected => (e, w)
    | .unchanged => (e, w)

/-- A state with its two parts replaced, and what the event owes done. -/
def State.finish (s : State) (x : Env × Work) : State := { s with env := x.1, work := settle x.1 x.2 }

/-- QUADRATURE_EDGE (R6): the decoder takes the levels as its reference, and the change is counted. -/
def quadratureStep (c : Encoder) (levels : QuadLevels) (s : State) : State :=
  let r := s.env.encoders[c]
  let e := s.env.setEncoder c { r with levels := levels }
  s.finish (count e c (decodeEdge r.levels levels) s.work)

def execQuadratureEdge (c : Encoder) (levels : QuadLevels) (s : State) : Host.Outcome State Fault Refusal :=
  .next (quadratureStep c levels s)

/-! ## Speed (R10) -/

/-- An encoder at a period close (R10). -/
def EncoderRec.close (r : EncoderRec) : EncoderRec :=
  let history := r.history.drop 1 ++ [(r.odo - r.lastClose).toInt.toNat]
  { r with lastClose := r.odo, history := history, speed := min (5 * history.sum) Config.speedClamp }

/-- The time base brought up to an end time (log entry 4). -/
def Env.reach (e : Env) (t : Nat) : Env := { e with now := max e.now t }

/-- The environment at a period close of every encoder. -/
def closePeriod (e : Env) : Env :=
  { e.reach e.nextClose with
    nextClose := e.nextClose + Config.speedPeriod
    encoders := #v[e.encoders[0].close, e.encoders[1].close, e.encoders[2].close] }

/-- SPEED_PERIOD_CLOSE (R10): then the fire conditions (R76) and after them the due test (R113), in the order of an
advance (DESIGN CHOICE, log entry 6). -/
def execSpeedPeriodClose (s : State) : Host.Outcome State Fault Refusal :=
  let e := closePeriod s.env
  .next { s with env := e, work := proposalTest e (evalFires e s.work) }

/-! ## Timed events -/

/-- CUE_PULSE_END (R67): the line goes low. A line that is low has no end time. -/
def execCuePulseEnd (c : CueLine) (s : State) : Host.Outcome State Fault Refusal :=
  match s.work.cues[c] with
  | none => .next s
  | some t => .next { s with env := s.env.reach t, work := { s.work with cues := s.work.cues.set c none } }

/-- The expiry of the confirm deadline of a FIRED stand (R82). -/
def confirmExpiry (e : Env) (s : Stand) (x : Snapshot) (w : Work) : Work :=
  match e.settings[s].mode with
  | .sensor => failSplice e s w
  | .timed => (makeJoint e s x.estimate true w).1
  | .sensorOrTimed =>
    (makeJoint e s x.estimate true w).1.updStand s fun r =>
      { r with lateWindow := some (e.now + e.settings[s].timeout) }

/-- CONFIRM_DEADLINE_EXPIRY (R82). A stand that is not FIRED has no deadline. -/
def execConfirmDeadlineExpiry (k : Stand) (s : State) : Host.Outcome State Fault Refusal :=
  match s.work.stands[k].phase with
  | .fired x =>
    let e := s.env.reach x.deadline
    .next (s.finish (e, confirmExpiry e k x s.work))
  | .idle => .next s
  | .watch => .next s

/-- LATE_REPORT_WINDOW_END (R84). -/
def execLateReportWindowEnd (k : Stand) (s : State) : Host.Outcome State Fault Refusal :=
  match s.work.stands[k].lateWindow with
  | none => .next s
  | some t =>
    .next { s with env := s.env.reach t, work := s.work.updStand k fun r => { r with lateWindow := none } }

/-- PROPOSAL_DEADLINE_EXPIRY (R119). A record that is not COLLECTING has no deadline (section 7.3). -/
def execProposalDeadlineExpiry (tag : Nat) (s : State) : Host.Outcome State Fault Refusal :=
  match s.work.proposal tag with
  | none => .next s
  | some p =>
    match p.status with
    | .collecting t =>
      let e := s.env.reach t
      .next (s.finish (e, formResult e p s.work))
    | .decided _ _ => .next s
    | .waiting _ => .next s

/-- REOFFER_TIMER_EXPIRY (R158): the interval is read afresh to set the next expiry. -/
def execReofferTimerExpiry (s : State) : Host.Outcome State Fault Refusal :=
  let e : Env := { s.env.reach s.env.reofferAt with reofferAt := s.env.reofferAt + s.env.table.reofferInterval }
  .next (s.finish (e, reoffer e s.work))

end Sys2Proof.Machine
end

