-- ==== Sys2Proof/Machine/Operands.lean ====
section
/-! DEFINITION. The byte layouts of the volume: numbers, flags, lists and optional fields (R164), the CRC and the two
frames (R162, R163), the request kinds (R164), the permissions (section 10.3), and the fields of every request body.
A body parser answers none where the bytes are not exactly the fields of the request's rule; the request is then
answered RANGE (DESIGN CHOICE, log entry 13). -/

namespace Sys2Proof.Machine

/-! ## Writing fields (R164) -/

/-- A number in `n` bytes, most significant first; a negative one in two's complement. -/
def putInt : Nat → Int → List Byte
  | 0, _ => []
  | n + 1, v => BitVec.ofInt 8 (v / (256 ^ n : Nat)) :: putInt n v

def putNat (n v : Nat) : List Byte := putInt n (v : Int)

def putFlag (b : Bool) : List Byte := [if b then 1 else 0]
def putWord (w : Word) : List Byte := putNat 4 w.toNat
def putPos (p : Pos) : List Byte := putWord p.val

/-- An optional field: a byte of presence, then the value where it is present. -/
def putOpt {α : Type} (f : α → List Byte) : Option α → List Byte
  | none => [0]
  | some x => 1 :: f x

/-- A list: its number of entries, then the entries. -/
def putList {α : Type} (f : α → List Byte) (l : List α) : List Byte := putNat 1 l.length ++ l.flatMap f

/-- A set of 24 flags: bit 0 of the first byte stands for index 0. -/
def putSet24 (s : BitVec 24) : List Byte := [s.extractLsb' 0 8, s.extractLsb' 8 8, s.extractLsb' 16 8]

/-! ## Reading fields (R164) -/

/-- An unsigned number of `n` bytes, most significant first. -/
def getNat : Nat → List Byte → Option (Nat × List Byte)
  | 0, bs => some (0, bs)
  | _ + 1, [] => none
  | n + 1, b :: bs =>
    match getNat n bs with
    | some (v, rest) => some (b.toNat * 256 ^ n + v, rest)
    | none => none

/-- A field that is set or clear. -/
def getFlag (bs : List Byte) : Option (Bool × List Byte) :=
  match getNat 1 bs with
  | some (0, rest) => some (false, rest)
  | some (1, rest) => some (true, rest)
  | _ => none

/-- `k` entries of a list. -/
def getMany {α : Type} (f : List Byte → Option (α × List Byte)) : Nat → List Byte → Option (List α × List Byte)
  | 0, bs => some ([], bs)
  | k + 1, bs =>
    match f bs with
    | none => none
    | some (x, rest) =>
      match getMany f k rest with
      | some (l, rest') => some (x :: l, rest')
      | none => none

/-- A list preceded by its number of entries. -/
def getList {α : Type} (f : List Byte → Option (α × List Byte)) (bs : List Byte) : Option (List α × List Byte) :=
  match getNat 1 bs with
  | some (k, rest) => getMany f k rest
  | none => none

/-- Entries up to the end of the body, at most `n`. -/
def getAll {α : Type} (f : List Byte → Option (α × List Byte)) : Nat → List Byte → Option (List α)
  | _, [] => some []
  | 0, _ :: _ => none
  | n + 1, bs =>
    match f bs with
    | none => none
    | some (x, rest) => (getAll f n rest).map (x :: ·)

/-- A body that is exactly the fields a parser reads. -/
def exact {α : Type} (x : Option (α × List Byte)) : Option α :=
  match x with
  | some (v, []) => some v
  | _ => none

/-- A body of one number. -/
def getOne (n : Nat) (bs : List Byte) : Option Nat := exact (getNat n bs)

/-- A body of numbers of given widths, in order. -/
def getNats : List Nat → List Byte → Option (List Nat × List Byte)
  | [], bs => some ([], bs)
  | n :: ns, bs =>
    match getNat n bs with
    | none => none
    | some (v, rest) =>
      match getNats ns rest with
      | some (l, rest') => some (v :: l, rest')
      | none => none

/-! ## CRC and frames (R162, R163) -/

/-- One bit of the CRC with generator x^16 + x^12 + x^5 + 1. -/
def crcBit (c : BitVec 16) : BitVec 16 := if c.msb then (c <<< 1) ^^^ 0x1021#16 else c <<< 1

/-- One byte, its most significant bit first. -/
def crcByte (c : BitVec 16) (b : Byte) : BitVec 16 :=
  crcBit (crcBit (crcBit (crcBit (crcBit (crcBit (crcBit (crcBit (c ^^^ ((b.setWidth 16) <<< 8)))))))))

/-- The CRC-16 of R162: starting value 0xFFFF, no final inversion. -/
def crc16 (bs : List Byte) : BitVec 16 := bs.foldl crcByte 0xFFFF#16

/-- The two CRC bytes, high byte first. -/
def crcBytes (bs : List Byte) : List Byte := [(crc16 bs).extractLsb' 8 8, (crc16 bs).extractLsb' 0 8]

/-- A valid request frame, by its fields. -/
structure Frame where
  kind : Byte
  tag : Byte
  post : Bool
  body : List Byte
deriving DecidableEq, Repr

/-- A request frame as a controller sends it (R162). -/
def writeRequest (kind tag flags : Byte) (body : List Byte) : List Byte :=
  let covered := kind :: tag :: flags :: BitVec.ofNat 8 body.length :: body
  0xD3#8 :: covered ++ crcBytes covered

/-- A received frame, if it is valid (R163): sync, length at most 120, exactly 7 + n bytes, and its CRC. -/
def readFrame (bytes : List Byte) : Option Frame :=
  match bytes with
  | sync :: kind :: tag :: flags :: len :: rest =>
    let n := len.toNat
    if sync = 0xD3#8 ∧ n ≤ Config.bodyLimit ∧ rest.length = n + 2 ∧
        rest.drop n = crcBytes (kind :: tag :: flags :: len :: rest.take n) then
      some ⟨kind, tag, flags.getLsbD 0, rest.take n⟩
    else none
  | _ => none

/-- The values of the response codes (section 10.2). -/
def Code.value : Code → Byte
  | .ok => 0x00
  | .accepted => 0x01
  | .retry => 0x02
  | .hold => 0x03
  | .denied => 0x04
  | .range => 0x05
  | .state => 0x06
  | .busy => 0x07
  | .full => 0x08
  | .unknown => 0x09
  | .empty => 0x0A
  | .tagInUse => 0x0B

/-- A response frame (R162). -/
def writeFrame (tag : Byte) (code : Code) (body : List Byte) : List Byte :=
  let covered := tag :: code.value :: BitVec.ofNat 8 body.length :: body
  0x3D#8 :: covered ++ crcBytes covered

/-! ## Request kinds (R164) and permissions (section 10.3) -/

/-- The kind byte of a request (R164). -/
def Request.kind : Request → Byte
  | .status => 0x01
  | .read => 0x02
  | .peek => 0x03
  | .take => 0x04
  | .done => 0x05
  | .floor => 0x06
  | .lineTable => 0x10
  | .stationSet => 0x11
  | .recipeSet => 0x12
  | .profileSet => 0x13
  | .classSet => 0x14
  | .relaySet => 0x15
  | .alarmEnable => 0x16
  | .alarmClear => 0x17
  | .openPart => 0x18
  | .start => 0x20
  | .orderAdd => 0x21
  | .orderWithdraw => 0x22
  | .orderRelease => 0x23
  | .lineReset => 0x24
  | .logTake => 0x25
  | .standSet => 0x30
  | .reelLoad => 0x31
  | .reelRemove => 0x32
  | .diameter => 0x33
  | .joint => 0x34
  | .spliceFail => 0x35
  | .standEnable => 0x36
  | .bridgeSet => 0x37
  | .respond => 0x40
  | .setupDone => 0x41
  | .defect => 0x42

/-- Every request. -/
def allRequests : List Request :=
  [.status, .read, .peek, .take, .done, .floor, .lineTable, .stationSet, .recipeSet, .profileSet, .classSet, .relaySet,
   .alarmEnable, .alarmClear, .openPart, .start, .orderAdd, .orderWithdraw, .orderRelease, .lineReset, .logTake,
   .standSet, .reelLoad, .reelRemove, .diameter, .joint, .spliceFail, .standEnable, .bridgeSet, .respond, .setupDone,
   .defect]

/-- The request that a kind byte names (R164). -/
def Request.ofKind (b : Byte) : Option Request := allRequests.find? fun r => r.kind == b

/-- The roles that may send a request (section 10.3). -/
def Request.permitted (r : Request) (role : Role) : Bool :=
  match r with
  | .status | .read | .peek | .take | .done | .floor => true
  | .lineTable | .stationSet | .recipeSet | .profileSet | .classSet | .relaySet | .alarmEnable | .alarmClear
  | .openPart | .start | .orderAdd | .orderWithdraw | .orderRelease | .lineReset | .logTake => role == .planner
  | .standSet => role == .planner || role == .wet
  | .reelLoad | .reelRemove | .diameter | .joint | .spliceFail | .standEnable | .bridgeSet => role == .wet
  | .respond => role == .wet || role == .dry
  | .setupDone => role == .dry
  | .defect => role == .wet || role == .dry || role == .view

/-- Whether a request of a role is accepted while the part is in HOLD (section 10.3, R170). -/
def Request.inHold (r : Request) (role : Role) : Bool :=
  match r with
  | .status | .read => true
  | .lineTable | .stationSet | .recipeSet | .profileSet | .classSet | .relaySet | .alarmEnable | .alarmClear
  | .openPart => true
  | .standSet => role == .planner
  | .peek | .take | .done | .floor | .start | .orderAdd | .orderWithdraw | .orderRelease | .lineReset | .logTake
  | .reelLoad | .reelRemove | .diameter | .joint | .spliceFail | .standEnable | .bridgeSet | .respond | .setupDone
  | .defect => false

/-- The reads of section 10.3, which are never posted (R167). -/
def Request.isRead : Request → Bool
  | .status | .read | .peek | .take | .logTake => true
  | _ => false

/-! ## Named values (R164) -/

def roleOf : Nat → Option Role
  | 0 => some .planner
  | 1 => some .wet
  | 2 => some .dry
  | 3 => some .view
  | _ => none

def Role.num : Role → Nat
  | .planner => 0
  | .wet => 1
  | .dry => 2
  | .view => 3

def webOf : Nat → Option Web
  | 0 => some .l1
  | 1 => some .m1
  | 2 => some .l2
  | 3 => some .m2
  | 4 => some .l3
  | 5 => some .s1
  | 6 => some .s2
  | 7 => some .board
  | _ => none

def Web.num : Web → Nat
  | .l1 => 0
  | .m1 => 1
  | .l2 => 2
  | .m2 => 3
  | .l3 => 4
  | .s1 => 5
  | .s2 => 6
  | .board => 7

def stationKindOf : Nat → Option StationKind
  | 0 => some .preheat
  | 1 => some .glue
  | 2 => some .heat
  | 3 => some .slitter
  | 4 => some .knife
  | 5 => some .gate
  | 6 => some .stacker
  | 7 => some .inspect
  | 8 => some .generic
  | _ => none

def StationKind.num : StationKind → Nat
  | .preheat => 0
  | .glue => 1
  | .heat => 2
  | .slitter => 3
  | .knife => 4
  | .gate => 5
  | .stacker => 6
  | .inspect => 7
  | .generic => 8

def confirmModeOf : Nat → Option ConfirmMode
  | 0 => some .sensor
  | 1 => some .timed
  | 2 => some .sensorOrTimed
  | _ => none

def ConfirmMode.num : ConfirmMode → Nat
  | .sensor => 0
  | .timed => 1
  | .sensorOrTimed => 2

def classOf : Nat → Option NoticeClass
  | 0 => some .splice
  | 1 => some .proposal
  | 2 => some .station
  | 3 => some .alarm
  | 4 => some .reel
  | 5 => some .stack
  | 6 => some .result
  | 7 => some .order
  | _ => none

/-- Every alarm kind, in the order of R172. -/
def allAlarmKinds : List AlarmKind :=
  [.reverse, .bridgeEmpty, .bridgeFull, .bridgeLow, .bridgeHigh, .noReadyReel, .reelExhausted, .spliceFailed,
   .spliceLate, .trackFull, .defectEscaped, .changeStalled, .orderShort, .strapConflict, .noticeLost, .cueOverlap]

def alarmKindOf (n : Nat) : Option AlarmKind := allAlarmKinds[n]?

def SubjectType.num : SubjectType → Nat
  | .encoder => 0
  | .bridge => 1
  | .stand => 2
  | .station => 3
  | .order => 4
  | .port => 5
  | .noticeClass => 6
  | .cueLine => 7

def subjectTypeOf : Nat → Option SubjectType
  | 0 => some .encoder
  | 1 => some .bridge
  | 2 => some .stand
  | 3 => some .station
  | 4 => some .order
  | 5 => some .port
  | 6 => some .noticeClass
  | 7 => some .cueLine
  | _ => none

/-- The four answers of RESPOND, numbered in the order of R116. -/
def answerOf : Nat → Option Partial
  | 0 => some .ready
  | 1 => some .notReady
  | 2 => some .refuse
  | 3 => some .widen
  | _ => none

/-- A stand, a station index, a port, a bridge by its number 1 or 2, and an encoder by the number in its name, 1 to 3
(DESIGN CHOICE, log entry 15). -/
def standOf (n : Nat) : Option Stand := if h : n < 5 then some ⟨n, h⟩ else none
def stationOf (n : Nat) : Option StationIx := if h : n < 24 then some ⟨n, h⟩ else none
def portOf (n : Nat) : Option Port := if h : n < 4 then some ⟨n, h⟩ else none
def bridgeOf : Nat → Option Bridge
  | 1 => some 0
  | 2 => some 1
  | _ => none
def encoderOf : Nat → Option Encoder
  | 1 => some 0
  | 2 => some 1
  | 3 => some 2
  | _ => none

/-! ## Request bodies -/

/-- One setting of LINE_TABLE: a field number (R164), and a value. -/
structure TableSetting where
  field : Nat
  value : Nat
deriving DecidableEq, Repr

/-- The width in bytes of each of the 34 numbered fields of the line table, in the order of section 1.1: path 0 to 4,
fixed length 1 and 2, take-up, limit, low threshold, high threshold, hysteresis, pitch E1 to E3, then the single
fields. -/
def tableWidths : List Nat :=
  [2, 2, 2, 2, 2, 3, 3, 2, 2, 3, 3, 3, 3, 3, 3, 2, 2, 3, 3, 3, 2, 2, 1, 3, 2, 3, 3, 3, 3, 2, 1, 2, 2, 1]

/-- One setting of a list in which each field number has its own width (LINE_TABLE, STAND_SET). -/
def getSetting (widths : List Nat) (bs : List Byte) : Option (TableSetting × List Byte) :=
  match getNat 1 bs with
  | none => none
  | some (f, rest) =>
    match widths[f]? with
    | none => none
    | some n => (getNat n rest).map fun x => (⟨f, x.1⟩, x.2)

/-- The settings of a LINE_TABLE or STAND_SET body, which run to its end. -/
def getSettings (widths : List Nat) (bs : List Byte) : Option (List TableSetting) :=
  getAll (getSetting widths) bs.length bs

/-- The widths of the eleven settings of a stand (section 5.1.3). -/
def standWidths : List Nat := [2, 2, 2, 1, 2, 3, 3, 3, 3, 3, 3]

/-- An entry of STATION_SET before its values are checked: EMPTY, or the eight fields of R51. -/
structure RawStation where
  index : Nat
  fields : Option (List Nat)
deriving DecidableEq, Repr

/-- Kind, web, distance, owner, cue line, acts-on set, wants-end, profile. -/
def stationWidths : List Nat := [1, 1, 3, 1, 1, 1, 1, 1]

def getStation (bs : List Byte) : Option (RawStation × List Byte) :=
  match getNat 1 bs with
  | none => none
  | some (i, 255#8 :: rest) => some (⟨i, none⟩, rest)
  | some (i, rest) => (getNats stationWidths rest).map fun x => (⟨i, some x.1⟩, x.2)

/-- A STATION_SET body: the settings and the apply flag (R52). -/
def getStationSet (bs : List Byte) : Option (List RawStation × Bool) :=
  match getList getStation bs with
  | none => none
  | some (l, rest) => (exact (getFlag rest)).map fun f => (l, f)

/-- A RECIPE_SET body: recipe, station and value of each setting (R56). -/
def getRecipeSet (bs : List Byte) : Option (List (List Nat)) := exact (getList (getNats [1, 1, 2]) bs)

/-- A PROFILE_SET body: the profile and its steps (R57). -/
def getProfileSet (bs : List Byte) : Option (Nat × List ProfileStep) :=
  match getNat 1 bs with
  | none => none
  | some (p, rest) =>
    (exact (getList (getNats [3, 2]) rest)).map fun l =>
      (p, l.map fun x => ⟨x.headD 0, (x.drop 1).headD 0⟩)

/-- A CLASS_SET body: class, priority, and a delivery where one is given: directed 0 or relayed 1, with a role
(R148). -/
def getClassSet (bs : List Byte) : Option (Nat × Nat × Option (Nat × Nat)) :=
  match getNats [1, 1, 1] bs with
  | some ([c, p, 0], []) => some (c, p, none)
  | some ([c, p, 1], rest) =>
    match getNats [1, 1] rest with
    | some ([k, r], []) => some (c, p, some (k, r))
    | _ => none
  | _ => none

/-- A RELAY_SET body: the ports and the stop (R155). -/
def getRelaySet (bs : List Byte) : Option (List Nat × Nat) :=
  match getList (getNat 1) bs with
  | some (l, rest) => (getOne 1 rest).map fun s => (l, s)
  | none => none

/-- A subject: its type byte and its value in 2 bytes (R164). -/
def getSubject (bs : List Byte) : Option ((Nat × Nat) × List Byte) :=
  match getNats [1, 2] bs with
  | some ([t, v], rest) => some ((t, v), rest)
  | _ => none

/-- What ALARM_CLEAR names (R174). -/
inductive ClearTarget where
  | one (kind : Nat) (subjectType value : Nat)
  | kind (kind : Nat)
  | every
deriving DecidableEq, Repr

def getAlarmClear (bs : List Byte) : Option ClearTarget :=
  match getNat 1 bs with
  | some (0, rest) =>
    match getNats [1, 1, 2] rest with
    | some ([k, t, v], []) => some (.one k t v)
    | _ => none
  | some (1, rest) => (getOne 1 rest).map .kind
  | some (2, []) => some .every
  | _ => none

/-- An ORDER_ADD placement (R99). -/
inductive OrderPlace where
  | tail
  | before (tag : Nat)
deriving DecidableEq, Repr

/-- The given fields of an order as they stand in a body (section 6.1, R99). -/
def getOrder (bs : List Byte) : Option (OrderSpec × List Byte) :=
  match getNats [2, 1, 1, 1, 1, 1, 2, 1, 2, 1] bs with
  | some ([tag, g0, g1, g2, g3, g4, width, recipe, length, outs], r1) =>
    match getList (getNat 2) r1 with
    | none => none
    | some (slits, r2) =>
      match getNats [1, 3, 1, 2] r2 with
      | some ([score, quantity, extra, stackSize], r3) =>
        some (⟨tag, #v[g0, g1, g2, g3, g4], width, recipe, length, outs, slits, score, quantity, extra, stackSize⟩, r3)
      | _ => none
  | _ => none

def getOrderAdd (bs : List Byte) : Option (OrderSpec × OrderPlace) :=
  match getOrder bs with
  | none => none
  | some (o, rest) =>
    match getNat 1 rest with
    | some (0, []) => some (o, .tail)
    | some (1, r) => (getOne 2 r).map fun x => (o, .before x)
    | _ => none

/-- A STATUS body: empty, or a clear flag (R171). -/
def getStatus (bs : List Byte) : Option Bool :=
  match bs with
  | [] => some false
  | _ => exact (getFlag bs)

end Sys2Proof.Machine
end

