-- ==== Sys2Proof/Machine/Ports.lean ====
section
/-! DEFINITION. The port unit (chapter 10): straps and power-on (R161, R175), the arrival of frames and requests (R163
to R167), response frames (R162, R167), the port timeout (R169), how a queued request is applied and answered (R166 to
R168), and the time base's own events on an empty command queue. -/

namespace Sys2Proof.Machine

/-! ## Power-on reset (R161, R175) -/

/-- The band of a strap (R161). -/
def Strap.band : Strap → Fin 8
  | .isOpen => 7
  | .meets t => t
  | .meetsNone => 0

/-- The strapped role of a band (R161). -/
def bandRole (band : Fin 8) : Role :=
  match band.val % 4 with
  | 0 => .planner
  | 1 => .wet
  | 2 => .dry
  | _ => .view

/-- The role that a port takes, given those that lower-numbered ports hold (R161). -/
def takeRole (held : List Role) (strapped : Role) : Role :=
  if strapped = .view ∨ strapped ∉ held then strapped else .view

/-- The roles of the ports in port order (R161). -/
def assignRoles : List Role → List Role → List Role
  | _, [] => []
  | held, r :: rest => takeRole held r :: assignRoles (held ++ [takeRole held r]) rest

/-- The bands of the four straps, in port order. -/
def Straps.bands (x : Straps) : Vector (Fin 8) 4 :=
  #v[Strap.band x.lp0, Strap.band x.lp1, Strap.band x.lp2, Strap.band x.lp3]

/-- The role of a port (R161). -/
def Straps.role (x : Straps) (p : Port) : Role :=
  ((assignRoles [] ((Straps.bands x).toList.map bandRole))[p.val]?).getD .view

/-- The four links at power-on. -/
def Straps.links (x : Straps) : Vector Link 4 :=
  #v[Link.powerOn (Straps.bands x)[0] (Straps.role x 0), Link.powerOn (Straps.bands x)[1] (Straps.role x 1),
     Link.powerOn (Straps.bands x)[2] (Straps.role x 2), Link.powerOn (Straps.bands x)[3] (Straps.role x 3)]

/-- The relay ring at power-on (R155). -/
def Straps.ring (x : Straps) : Ring :=
  let p := (allPorts.find? fun p => decide (bandRole (Straps.bands x)[p] = .planner)).getD 0
  ⟨[p], p⟩

/-- The ports whose strapped role was refused (R161). -/
def Straps.conflicts (x : Straps) : List Port :=
  allPorts.filter fun p => decide (Straps.role x p ≠ bandRole (Straps.bands x)[p])

/-- POWER_ON_RESET (R161, R175): every block takes its power-on values, and the conflicts are raised into the cleared
record. The commands that wait outside the part still wait (DESIGN CHOICE, log entry 5). -/
def execPowerOnReset (x : Straps) (e1 e2 e3 : QuadLevels) (s : State) : Host.Outcome State Fault Refusal :=
  let e := Env.powerOn e1 e2 e3 (Straps.links x) (Straps.ring x)
  .next (s.finish (e, (Straps.conflicts x).foldl (fun w p => raiseAlarm e .strapConflict (.port p) w) Work.powerOn))

/-! ## Arrival (R163, R165, R169) -/

/-- A discarded frame (R163). -/
def Link.frameError (l : Link) : Link := { l with frameErrors := sat255 l.frameErrors, frameErrorFlag := true }

/-- A response decided, or a place kept for one that is not known yet (R167). -/
def Link.reserve (l : Link) (tag : Byte) (content : Option (Code × List Byte)) : Link :=
  { l with slots := l.slots ++ [⟨tag, content⟩] }

/-- A response without a body. -/
def Link.answerAt (l : Link) (tag : Byte) (c : Code) : Link := l.reserve tag (some (c, []))

/-- A request queued (R166); a posted one is answered ACCEPTED (R167). -/
def Link.enqueue (l : Link) (r : Request) (f : Frame) : Link :=
  let posted := f.post && !r.isRead
  { l.reserve f.tag (if posted then some (.accepted, []) else none) with
    inbound := l.inbound ++ [⟨r, f.tag, posted, f.body⟩] }

/-- The checks of R165, in their order. -/
def Link.receive (l : Link) (partOpen : Bool) (f : Frame) : Link :=
  if Config.outstandingLimit ≤ l.slots.length then { l with overruns := sat255 l.overruns }
  else
    match Request.ofKind f.kind with
    | none => l.answerAt f.tag .range
    | some r =>
      if !r.permitted l.role then l.answerAt f.tag .denied
      else if !partOpen && !r.inHold l.role then l.answerAt f.tag .hold
      else if l.freeEntries < entriesNeeded f.body.length then
        { l.answerAt f.tag .retry with retries := sat65535 l.retries }
      else l.enqueue r f

/-- The timeout timer restarted (R169). -/
def Link.restart (l : Link) (now : Nat) : Link := { l with timer := some (now + l.timeout) }

/-- What any valid frame does to the port's state (R169): an OPEN port's timer restarts, and a DOWN port becomes OPEN,
which re-offers the return list. -/
def validArrival (e : Env) (p : Port) (w : Work) : Env × Work :=
  match e.links[p].state with
  | .hold => (e, w)
  | .opened => (e.updLink p fun l => l.restart e.now, w)
  | .down =>
    let e1 := e.updLink p fun l => { l.restart e.now with state := .opened }
    (e1, reoffer e1 w)

/-- A received frame on a port that is framed (R163, R165). -/
def frameArrival (e : Env) (p : Port) (bytes : List Byte) (w : Work) : Env × Work :=
  match readFrame bytes with
  | none => (e.updLink p Link.frameError, w)
  | some f =>
    let x := validArrival e p w
    (x.1.updLink p fun l => l.receive x.1.partOpen f, x.2)

/-- RECEIVED_FRAME (R163, R165). The bytes before the first gap after power-on are discarded without counting (R175); a
frame of no bytes is none. -/
def execReceivedFrame (p : Port) (gapBefore : Bool) (bytes : List Byte) (s : State) : Host.Outcome State Fault Refusal :=
  let e := s.env.updLink p fun l => { l with framed := true }
  if bytes = [] then .next s
  else if !s.env.links[p].framed && !gapBefore then .next { s with env := e }
  else .next (s.finish (frameArrival e p bytes s.work))

/-! ## Responses (R162, R167) -/

/-- The oldest response of a port sent, if its content is known (R167). -/
def Link.sendOldest (l : Link) : Link :=
  match l.slots with
  | ⟨tag, some (c, body)⟩ :: rest => { l with slots := rest, sent := writeFrame tag c body }
  | _ => l

/-- RESPONSE_FRAME (R162, R167): the request is no longer outstanding (R165). -/
def execResponseFrame (p : Port) (s : State) : Host.Outcome State Fault Refusal :=
  .next { s with env := s.env.updLink p Link.sendOldest }

/-! ## Timeout (R169, R159) -/

/-- R117 for every proposal, at a timeout of a role's port. -/
def Work.giveUpAll (w : Work) (r : Role) : Work :=
  { w with prop := { w.prop with list := w.prop.list.map (Proposal.giveUp r) } }

/-- A port goes DOWN (R169). -/
def portDown (e : Env) (p : Port) (w : Work) : Env × Work :=
  let e1 := e.updLink p fun l => { l with state := .down, timer := none }
  (e1, (emptyDesk e1 p w).giveUpAll e.links[p].role)

/-- PORT_TIMEOUT (R169). A port that is not OPEN has no timer running. -/
def execPortTimeout (p : Port) (s : State) : Host.Outcome State Fault Refusal :=
  match s.env.links[p].state, s.env.links[p].timer with
  | .opened, some t => .next (s.finish (portDown (s.env.reach t) p s.work))
  | _, _ => .next s

/-! ## Applying a queued request (R166 to R168) -/

/-- A code and body for a request, with the state it leaves. -/
structure Answer where
  code : Code
  body : List Byte
  env : Env
  work : Work
deriving DecidableEq, Repr

/-- An answer that changes nothing. -/
def refuse (c : Code) (e : Env) (w : Work) : Answer := ⟨c, [], e, w⟩

/-- OK without a body. -/
def answerOk (e : Env) (w : Work) : Answer := ⟨.ok, [], e, w⟩

/-- Gives the oldest response not yet known its content: that of the request applied, since the requests of one port
are applied in arrival order (R166, R167). -/
def fillSlot (c : Code) (body : List Byte) : List Slot → List Slot
  | [] => []
  | x :: rest => if x.content.isNone then { x with content := some (c, body) } :: rest else x :: fillSlot c body rest

/-- The outcome of an applied request at its port: a waited one is answered, and a posted one whose outcome is not OK is
recorded (R167, R168). -/
def Link.conclude (l : Link) (q : Queued) (c : Code) (body : List Byte) : Link :=
  if !q.posted then { l with slots := fillSlot c body l.slots }
  else if c = .ok then l
  else { l with lastError := some ⟨c, q.request, q.tag⟩, postedErrors := sat255 l.postedErrors }

/-- Applies the request at the head of a port's inbound queue, as one event (R166): its entries are given back, it is
applied, what it owes is done, and it is answered. A queue whose head is no such request is left as it is. -/
def applyHead (p : Port) (r : Request) (f : Env → Work → List Byte → Answer) (s : State) : State :=
  match s.env.links[p].inbound with
  | [] => s
  | q :: rest =>
    if q.request = r then
      let a := f (s.env.updLink p fun l => { l with inbound := rest }) s.work q.body
      { s with
        env := a.env.updLink p fun l => l.conclude q a.code a.body
        work := settle a.env a.work }
    else s

/-! ## The time base (log entry 3) -/

/-- A command where an end time has been reached. -/
def dueAt (now : Nat) (t : Option Nat) (i : Instr) : List Instr :=
  match t with
  | some x => if x ≤ now then [i] else []
  | none => []

/-- The confirm deadline of a stand, while it is FIRED. -/
def Phase.deadline? : Phase → Option Nat
  | .fired x => some x.deadline
  | _ => none

/-- The deadline of a proposal, while it is COLLECTING. -/
def Proposal.deadline? (p : Proposal) : Option Nat :=
  match p.status with
  | .collecting t => some t
  | _ => none

/-- The timed commands whose end times the time base has reached, in a fixed order (DESIGN CHOICE, log entry 3). -/
def dueEvents (e : Env) (w : Work) : List Instr :=
  (allCues.flatMap fun c => dueAt e.now w.cues[c] (.cuePulseEnd c)) ++
  (allStands.flatMap fun k => dueAt e.now w.stands[k].phase.deadline? (.confirmDeadlineExpiry k)) ++
  (allStands.flatMap fun k => dueAt e.now w.stands[k].lateWindow (.lateReportWindowEnd k)) ++
  (w.prop.list.flatMap fun p => dueAt e.now p.deadline? (.proposalDeadlineExpiry p.tag)) ++
  dueAt e.now (some e.reofferAt) .reofferTimerExpiry ++
  (allPorts.flatMap fun p => dueAt e.now e.links[p].timer (.portTimeout p)) ++
  dueAt e.now (some e.nextClose) .speedPeriodClose

/-- A millisecond of the time base passes: the commands whose end times it reaches wait in the queue (DESIGN CHOICE, log
entry 3). -/
def tick (s : State) : State :=
  let e : Env := { s.env with now := s.env.now + 1 }
  { s with pending := s.pending ++ dueEvents e s.work, env := e }

end Sys2Proof.Machine
end

