-- ==== Sys2Proof/Machine/Records.lean ====
section
/-! DEFINITION. The bytes of the records that responses carry (R164): each record with the fields of its field table in
the order of its rows, a field that may be absent preceded by its presence byte. Where a field's range is not stated
(a count that only rises), it takes 4 bytes (DESIGN CHOICE, log entry 15). -/

namespace Sys2Proof.Machine

/-! ## Named values -/

def MarkKind.num : MarkKind → Nat
  | .change => 0
  | .joint => 1
  | .defect => 2
  | .mismatch => 3

def ChangeState.num : ChangeState → Nat
  | .planned => 0
  | .proposed => 1
  | .committed => 2
  | .active => 3

def BridgeLevel.num : BridgeLevel → Nat
  | .low => 0
  | .normal => 1
  | .high => 2

def ReelLevel.num : ReelLevel → Nat
  | .normal => 0
  | .warn => 1
  | .arm => 2
  | .last => 3
  | .empty => 4

def FireKind.num : FireKind → Nat
  | .grade => 0
  | .runout => 1

/-- QUEUED, PLANNED, COMMITTED, OPEN, HELD, DONE, as the field table of section 6.1 lists the states; R97's table has them in
another order (DESIGN CHOICE, log entry 15). -/
def OrderState.num : OrderState → Nat
  | .queued => 0
  | .planned => 1
  | .committed => 2
  | .opened => 3
  | .held => 4
  | .done => 5

/-- KNIFE, DRY, LINE, as section 7.2 and R112 list the scopes; R102's table has them the other way round (DESIGN CHOICE, log
entry 15). -/
def Scope.num : Scope → Nat
  | .knife => 0
  | .dry => 1
  | .line => 2

def Partial.num : Partial → Nat
  | .pending => 0
  | .ready => 1
  | .notReady => 2
  | .refuse => 3
  | .widen => 4

/-- COMMITTED, DEFERRED, REFUSED in the order of section 7.2; WIDENED, which R119 adds, after them (log entry 15). -/
def Result.num : Result → Nat
  | .committed => 0
  | .deferred => 1
  | .refused => 2
  | .widened => 3

def StationAction.num : StationAction → Nat
  | .begins => 0
  | .ends => 1
  | .step => 2

def Slitter.num : Slitter → Nat
  | .a => 0
  | .b => 1

def PortState.num : PortState → Nat
  | .hold => 0
  | .opened => 1
  | .down => 2

def RunState.num : RunState → Nat
  | .idle => 0
  | .running => 1

def RejectKind.num : RejectKind → Nat
  | .joint => 0
  | .defect => 1
  | .mismatch => 2

def Disposition.num : Disposition → Nat
  | .recorded => 0
  | .merged => 1
  | .none => 2
  | .dropped => 3

def Phase.num : Phase → Nat
  | .idle => 0
  | .watch => 1
  | .fired _ => 2

def Status.num : Status → Nat
  | .collecting _ => 0
  | .decided _ _ => 1
  | .waiting _ => 2

/-- An order tag that may be none. -/
def putTag : Option Nat → List Byte := putOpt (putNat 2)

/-! ## Line and stations -/

def LineTable.fields (t : LineTable) : List Nat :=
  t.path.toList ++ t.fixedLength.toList ++ t.takeUp.toList ++ t.fillMax.toList ++ t.lowThreshold.toList ++
  t.highThreshold.toList ++ t.levelHysteresis.toList ++ t.pitch.toList ++
  [t.minSheet, t.maxWidth, t.minTrim, t.minOrder, t.aimOffset, t.guardDistance, t.dKnife, t.dDry, t.lineMargin,
   t.retryDistance, t.deferralLimit, t.responseTimeout, t.reofferInterval, t.cueWidth]

/-- Owner role NONE, PLANNER, WET, DRY, VIEW (R51). -/
def putOwner (r : Option Role) : List Byte :=
  putNat 1 (match r with
    | none => 0
    | some x => x.num + 1)

/-- Cue line NONE, CUE7 to CUE11 (R51). -/
def putCue (c : Option (Fin 5)) : List Byte :=
  putNat 1 (match c with
    | none => 0
    | some x => x.val + 1)

/-- A subset of CHANGE, JOINT, DEFECT, MISMATCH (R51, R164). -/
def putActsOn (a : ActsOn) : List Byte :=
  putNat 1 ((if a.change then 1 else 0) + (if a.joint then 2 else 0) + (if a.defect then 4 else 0) +
    (if a.mismatch then 8 else 0))

/-- An entry of the station table; kind 255 stands for EMPTY (R164). -/
def putStation (st : Option Station) : List Byte :=
  match st with
  | none => [255]
  | some x => putNat 1 x.kind.num ++ putNat 1 x.web.num ++ putNat 3 x.distance ++ putOwner x.owner ++ putCue x.cue ++
      putActsOn x.actsOn ++ putFlag x.wantsEnd ++ putNat 1 x.profile.val

def putStep (s : ProfileStep) : List Byte := putNat 3 s.distance ++ putNat 2 s.fraction

def putRamp (r : Ramp) : List Byte :=
  putNat 2 r.oldValue ++ putNat 2 r.newValue ++ putList putStep r.steps ++ putNat 1 r.nextStep ++ putNat 2 r.changeTag ++
  putPos r.start ++ putFlag r.late

def putSlitters (p : SlitterPair) : List Byte :=
  putNat 1 p.active.num ++ putTag p.loadedA ++ putTag p.loadedB ++ putFlag p.confirmedA ++ putFlag p.confirmedB

/-! ## Marks -/

/-- A mark record (section 3.1): one presence byte for each row of the field table that has kinds, so one for station and
cause together, and one for the order pair (DESIGN CHOICE, log entry 15). -/
def putMark (m : Mark) : List Byte :=
  let head := putNat 2 m.tag ++ putNat 1 m.kind.num ++ putPos m.start ++ putNat 4 m.span
  let own := match m.body with
    | .change i j st late => [0, 0, 0, 0, 1] ++ putNat 2 i ++ putNat 2 j ++ 1 :: putNat 1 st.num ++ 1 :: putFlag late
    | .joint s est => 0 :: 1 :: putFlag est ++ 1 :: putNat 1 s.val ++ [0, 0, 0, 0]
    | .defect i c => [0, 0, 0, 1] ++ putNat 1 i ++ putNat 1 c ++ [0, 0, 0]
    | .mismatch s o => 1 :: putFlag o ++ 0 :: 1 :: putNat 1 s.val ++ [0, 0, 0, 0]
  head ++ own ++ putSet24 m.beginPassed ++ putSet24 m.endPassed

/-! ## Stands -/

def putReel (r : Reel) (a : Option Anchor) : List Byte :=
  putNat 4 r.id ++ putNat 1 r.grade ++ putNat 2 r.width ++ putNat 2 r.caliper ++ putNat 1 r.core ++ putNat 2 r.diameter ++
  putOpt (fun x => putNat 4 x.usable ++ putWord x.odo) a

/-- The running reel: 0 none, 1 a reel record, 2 the unknown reel, for which R164 has no presence byte (DESIGN CHOICE, log
entry 15). -/
def putRunning : Running → List Byte
  | .none => [0]
  | .reel r a => 1 :: putReel r (some a)
  | .unknown => [2]

def putSnapshot (x : Snapshot) : List Byte :=
  putWord x.b ++ putInt 3 x.reach ++ putNat 3 x.lead ++ putNat 1 x.kind.num ++ putNat 4 x.deadline

def putRequirement (q : Requirement) : List Byte :=
  putNat 2 q.changeTag ++ putPos q.aim ++ putNat 1 q.grade ++ putNat 2 q.width

def putStandRec (r : StandRec) : List Byte :=
  putRunning r.running ++ putOpt (fun x => putReel x none) r.ready ++ putOpt putPos r.feedStart ++ putNat 1 r.level.num ++
  putFlag r.enable ++ putNat 1 r.phase.num ++
  putOpt putSnapshot (match r.phase with
    | .fired x => some x
    | _ => none) ++
  putOpt putRequirement r.requirement ++ putTag r.openMismatch ++ putOpt (putNat 4) r.lateWindow

def putSettings (c : StandSettings) : List Byte :=
  putNat 2 c.leadTime ++ putNat 2 c.halfSpan ++ putNat 2 c.tolerance ++ putNat 1 c.mode.num ++ putNat 2 c.timeout ++
  putNat 3 c.tailReserve ++ putNat 3 c.warn ++ putNat 3 c.arm ++ putNat 3 c.last ++ putNat 3 c.hysteresis ++
  putNat 3 c.runoutMargin

/-! ## Orders, proposals, sheets -/

/-- A defect causes list with its other-causes count (R134). -/
def putCauses (l : List (Nat × Nat)) (other : Nat) : List Byte :=
  putList (fun p => putNat 1 p.1 ++ putNat 4 p.2) l ++ putNat 4 other

def putTallies (t : Tallies) : List Byte :=
  putNat 4 t.cuts ++ putNat 4 t.good ++ putNat 4 t.rejectJoint ++ putNat 4 t.rejectDefect ++ putNat 4 t.rejectMismatch ++
  putCauses t.causes t.otherCauses ++ putNat 4 t.goodSheets ++ putNat 4 t.stacksClosed ++ putNat 2 t.currentStack ++
  putOpt putPos t.startAtKnife ++ putOpt putPos t.endPos ++ putFlag t.lateChange ++ putNat 4 t.forecast ++ putFlag t.short

def putOrder (w : Work) (o : Order) : List Byte :=
  let g := o.given
  putNat 2 g.tag ++ g.grades.toList.flatMap (putNat 1) ++ putNat 2 g.width ++ putNat 1 g.recipe ++ putNat 2 g.length ++
  putNat 1 g.outs ++ putList (putNat 2) g.slits ++ putNat 1 g.score ++ putNat 3 g.quantity ++ putNat 1 g.extra ++
  putNat 2 g.stackSize ++ putNat 1 (orderState w o).num ++ putFlag o.runningFlag ++ putNat 3 g.required ++
  putNat 4 o.added ++ putNat 4 o.planned ++ putOpt putPos o.startPos ++ putTag o.startTag ++ putTag o.endTag ++
  putFlag o.endCommitted ++ putNat 4 o.deferrals ++ putTallies o.tallies

/-- The responders of a proposal, each with its partial response: internal 0, DRY 1, WET 2. -/
def putResponders (p : Proposal) : List Byte :=
  let one (n : Nat) (x : Option Partial) : List (Nat × Partial) := x.toList.map fun y => (n, y)
  putList (fun (x : Nat × Partial) => putNat 1 x.1 ++ putNat 1 x.2.num)
    (one 0 p.internal ++ one 1 p.dry ++ one 2 p.wet)

def putProposal (p : Proposal) : List Byte :=
  putNat 2 p.tag ++ putNat 2 p.changeTag ++ putNat 1 p.scope.num ++ putNat 1 p.status.num ++ putResponders p ++
  putOpt (putNat 4) (match p.status with
    | .collecting t => some t
    | _ => none) ++
  putOpt (fun (r : Result) => putNat 1 r.num) (match p.status with
    | .decided r _ => some r
    | _ => none) ++
  putNat 1 p.deferrals ++
  putOpt putPos (match p.status with
    | .waiting r => some r
    | _ => none)

/-- The cut schedule (R145): an empty one is the absent byte alone, with no start, length, outs or cuts made (DESIGN CHOICE,
log entry 15). -/
def putSchedule (c : Option Schedule) : List Byte :=
  putOpt (fun x => putNat 2 x.order ++ putPos x.start ++ putNat 2 x.length ++ putNat 1 x.outs ++ putNat 4 x.cuts) c

/-- A sheet record; GOOD is 0 and REJECT is 1. -/
def putSheet (x : Sheet) : List Byte :=
  putNat 2 x.order ++ putNat 4 x.cut ++ putPos x.start ++ putNat 2 x.length ++ putNat 1 x.outs ++
  putFlag x.cause.isSome ++ putOpt (fun c => putNat 1 c.kind.num) x.cause ++ putOpt (fun c => putNat 1 c.source) x.cause ++
  putOpt (fun c => putNat 2 c.mark) x.cause ++ putFlag x.gatePassed

def putCompletion (r : Completion) : List Byte :=
  putNat 2 r.order ++ putWord r.start ++ putWord r.finish ++ putNat 4 r.cuts ++ putNat 4 r.good ++ putNat 4 r.rejectJoint ++
  putNat 4 r.rejectDefect ++ putNat 4 r.rejectMismatch ++ putCauses r.causes r.otherCauses ++ putNat 4 r.goodSheets ++
  putNat 3 r.shortfall ++ putNat 4 r.overrun ++ putNat 4 r.stacksClosed ++ putNat 4 r.deferrals ++ putNat 4 r.added ++
  putFlag r.lateChange ++ putFlag r.short

/-! ## Notices -/

def putSubject (s : Subject) : List Byte := putNat 1 s.type.num ++ putNat 2 s.value

/-- The number of the block that raises an alarm kind, in the order of section 4.1 (log entry 15). -/
def alarmBlock : AlarmKind → Nat
  | .reverse | .bridgeEmpty | .bridgeFull | .bridgeLow | .bridgeHigh => 0
  | .trackFull | .defectEscaped => 2
  | .cueOverlap => 3
  | .noReadyReel | .reelExhausted | .spliceFailed | .spliceLate => 4
  | .changeStalled => 6
  | .orderShort => 7
  | .noticeLost => 8
  | .strapConflict => 9

/-- The source of a notice: the posting block by the order of section 4.1, and the subject its body names, as stand,
station, order, proposal or alarm kind with its number (section 9.1). -/
def putSource (b : NoticeBody) : List Byte :=
  match b with
  | .splice s _ _ _ _ => putNat 1 4 ++ putNat 1 0 ++ putNat 2 s.val
  | .reel s _ _ => putNat 1 4 ++ putNat 1 0 ++ putNat 2 s.val
  | .station x => putNat 1 3 ++ putNat 1 1 ++ putNat 2 x.station.val
  | .stack o _ _ => putNat 1 7 ++ putNat 1 2 ++ putNat 2 o
  | .order o => putNat 1 7 ++ putNat 1 2 ++ putNat 2 o
  | .proposal x => putNat 1 6 ++ putNat 1 3 ++ putNat 2 x.tag
  | .result x => putNat 1 6 ++ putNat 1 3 ++ putNat 2 x.tag
  | .alarm k _ _ => putNat 1 (alarmBlock k) ++ putNat 1 4 ++ putNat 2 k.index.val

/-- The body of a notice (section 9.1 and the chapter of its class). In a STATION notice the row of loaded order and setup
match has one presence byte, and the loaded order another within it, since a slitter may have none loaded (DESIGN
CHOICE, log entry 15). -/
def putBody (b : NoticeBody) : List Byte :=
  match b with
  | .splice s k reel aim tag => putNat 1 s.val ++ putNat 1 k.num ++ putNat 4 reel ++ putWord aim ++ putNat 2 tag
  | .proposal x =>
    putNat 2 x.tag ++ putNat 2 x.changeTag ++ putNat 1 x.scope.num ++ putNat 2 x.ending ++ putNat 2 x.beginning ++
      putWord x.start
  | .station x =>
    putNat 1 x.station.val ++ putNat 2 x.markTag ++ putNat 1 x.markKind.num ++ putNat 1 x.action.num ++
      putOpt (putNat 1) x.step ++ putNat 2 x.value ++ putFlag x.late ++ putTag x.order ++
      putOpt (fun y => putTag y.loaded ++ putFlag y.setupMatch) x.swap
  | .alarm k s c => putNat 1 k.index.val ++ putSubject s ++ putNat 1 c
  | .reel s l u => putNat 1 s.val ++ putNat 1 l.num ++ putNat 4 u
  | .stack o n k => putNat 2 o ++ putNat 4 n ++ putNat 2 k
  | .result x =>
    putNat 2 x.tag ++ putNat 2 x.changeTag ++ putNat 2 x.ending ++ putNat 2 x.beginning ++ putNat 1 x.result.num ++
      putNat 1 x.deferrals ++ putFlag x.stalled
  | .order o => putNat 2 o

/-- Tag, class, priority, source and body: what TAKE and PEEK carry of a notice (R152). -/
def putTaken (n : Notice) : List Byte :=
  putNat 2 n.tag ++ putNat 1 n.body.cls.index.val ++ putNat 1 n.priority ++ putSource n.body ++ putBody n.body

def putPort (p : Option Port) : List Byte := putOpt (fun x : Port => putNat 1 x.val) p

/-- A notice record (section 9.1): directed 0 or relayed 1, and the lap flag of a relayed one. -/
def putNotice (n : Notice) : List Byte :=
  putNat 2 n.tag ++ putNat 1 n.body.cls.index.val ++ putNat 1 n.priority ++
  (match n.delivery with
    | .directed d => 0 :: putPort d ++ [0]
    | .relayed s lap => 1 :: putPort s ++ 1 :: putFlag lap) ++
  putSource n.body ++ putBody n.body

/-- A class-table entry: priority, directed 0 or relayed 1, and its role; a delivery taken from the source has none. -/
def putClassEntry (c : ClassEntry) : List Byte :=
  putNat 1 c.priority ++
  (match c.delivery with
    | .bySource => [0, 0]
    | .directed r => [0, 1] ++ putNat 1 r.num
    | .relayed r => [1, 1] ++ putNat 1 r.num)

/-! ## Port unit -/

def putAlarmEntry (x : AlarmEntry) : List Byte :=
  putNat 1 x.kind.index.val ++ putSubject x.subject ++ putFlag x.flag ++ putNat 1 x.count

/-- The link rate of a band in Mbit/s (R161). -/
def linkRate (band : Fin 8) : Nat := if band.val < 4 then 2 else 8

/-- The part status (R171). -/
def putPartStatus (e : Env) (w : Work) : List Byte :=
  putNat 1 Config.partCode ++ putNat 1 Config.partRevision ++ putFlag e.partOpen ++ putFlag e.configured ++
  putNat 1 e.run.num ++ putNat 2 w.notices.dropCount ++ putFlag w.alarms.summary ++
  allPorts.flatMap fun p =>
    let l := e.links[p]
    putNat 1 l.band.val ++ putNat 1 l.role.num ++ putNat 1 (linkRate l.band) ++ putNat 1 l.state.num

def putPostedError (x : PostedError) : List Byte := [x.code.value, x.request.kind, x.tag]

/-- The status record of a port (R171). `overwrite` is the log's flag, shown in the PLANNER port's record; the record of a port
of another role has the byte too, clear (DESIGN CHOICE, log entry 15). -/
def putLinkStatus (l : Link) (overwrite : Bool) : List Byte :=
  putNat 1 l.role.num ++ putNat 1 (linkRate l.band) ++ putNat 1 l.state.num ++ putNat 2 l.timeout ++
  putNat 1 l.slots.length ++ putNat 1 l.freeEntries ++ putNat 1 l.frameErrors ++ putFlag l.frameErrorFlag ++
  putNat 1 l.overruns ++ putNat 2 l.retries ++ putOpt putPostedError l.lastError ++ putNat 1 l.postedErrors ++
  putFlag l.sensorClamp ++ putFlag (overwrite && l.role == .planner)

end Sys2Proof.Machine
end

