-- ==== Sys2Proof/Machine/Checks.lean ====
section
/-! DEFINITION. The checks that requests share: the line table's field ranges and field checks (section 1.1, R3), the
conditions a line table and a station set meet together (R4, R53), and the order field checks (R95). -/

namespace Sys2Proof.Machine

/-! ## The line table (section 1.1, R3) -/

/-- The range of each numbered field of the line table, low end and high end (section 1.1). A threshold's high end is
its bridge's F_max, which `LineTable.thresholdsFit` tests. -/
def tableRanges : List (Nat × Nat) :=
  [(1000, 60000), (1000, 60000), (1000, 60000), (1000, 60000), (1000, 60000), (1000, 80000), (1000, 80000),
   (4096, 8192), (4096, 8192), (1000, 400000), (1000, 400000), (0, 400000), (0, 400000), (0, 400000), (0, 400000),
   (0, 50000), (0, 50000), (256, 16777215), (256, 16777215), (256, 16777215)] ++
  [(300, 2000), (500, 3350), (10, 100), (1000, 10000000), (0, 5000), (2000, 100000), (2000, 1000000), (2000, 1000000),
   (0, 200000), (500, 50000), (0, 15), (50, 5000), (100, 10000), (1, 50)]

/-- A value in a range, both ends included (section 5.1). -/
def inRange (r : Nat × Nat) (v : Nat) : Bool := decide (r.1 ≤ v) && decide (v ≤ r.2)

/-- Each value in its range. -/
def allInRange (rs : List (Nat × Nat)) (vs : List Nat) : Bool := (rs.zip vs).all fun x => inRange x.1 x.2

/-- The second check of R3, and the thresholds' ranges, for a bridge. -/
def LineTable.thresholdsFit (t : LineTable) (k : Bridge) : Bool :=
  decide (t.lowThreshold[k] ≤ t.fillMax[k]) &&
  decide (t.lowThreshold[k] + t.levelHysteresis[k] + t.levelHysteresis[k] ≤ t.highThreshold[k]) &&
  decide (t.highThreshold[k] ≤ t.fillMax[k])

/-- The field checks of R3. -/
def LineTable.fieldsOk (t : LineTable) : Bool :=
  allInRange tableRanges t.fields && allBridges.all (LineTable.thresholdsFit t) && decide (t.minTrim < t.maxWidth)

/-- A candidate with one numbered field replaced (R2, R164). -/
def LineTable.setField (t : LineTable) (f v : Nat) : LineTable :=
  match f with
  | 0 => { t with path := t.path.set 0 v }
  | 1 => { t with path := t.path.set 1 v }
  | 2 => { t with path := t.path.set 2 v }
  | 3 => { t with path := t.path.set 3 v }
  | 4 => { t with path := t.path.set 4 v }
  | 5 => { t with fixedLength := t.fixedLength.set 0 v }
  | 6 => { t with fixedLength := t.fixedLength.set 1 v }
  | 7 => { t with takeUp := t.takeUp.set 0 v }
  | 8 => { t with takeUp := t.takeUp.set 1 v }
  | 9 => { t with fillMax := t.fillMax.set 0 v }
  | 10 => { t with fillMax := t.fillMax.set 1 v }
  | 11 => { t with lowThreshold := t.lowThreshold.set 0 v }
  | 12 => { t with lowThreshold := t.lowThreshold.set 1 v }
  | 13 => { t with highThreshold := t.highThreshold.set 0 v }
  | 14 => { t with highThreshold := t.highThreshold.set 1 v }
  | 15 => { t with levelHysteresis := t.levelHysteresis.set 0 v }
  | 16 => { t with levelHysteresis := t.levelHysteresis.set 1 v }
  | 17 => { t with pitch := t.pitch.set 0 v }
  | 18 => { t with pitch := t.pitch.set 1 v }
  | 19 => { t with pitch := t.pitch.set 2 v }
  | 20 => { t with minSheet := v }
  | 21 => { t with maxWidth := v }
  | 22 => { t with minTrim := v }
  | 23 => { t with minOrder := v }
  | 24 => { t with aimOffset := v }
  | 25 => { t with guardDistance := v }
  | 26 => { t with dKnife := v }
  | 27 => { t with dDry := v }
  | 28 => { t with lineMargin := v }
  | 29 => { t with retryDistance := v }
  | 30 => { t with deferralLimit := v }
  | 31 => { t with responseTimeout := v }
  | 32 => { t with reofferInterval := v }
  | 33 => { t with cueWidth := v }
  | _ => t

/-- The fields a list of settings names are distinct. -/
def namesDistinct (l : List TableSetting) : Bool := decide (l.map TableSetting.field).Nodup

/-! ## The line table against a station set (R4, R53) -/

/-- A station on web S1 or S2 lies within q_k of its bridge (R4, R53). -/
def LineTable.webFits (t : LineTable) (st : Station) : Bool :=
  match st.web with
  | .s1 => decide (st.distance ≤ t.fixedLength[0])
  | .s2 => decide (st.distance ≤ t.fixedLength[1])
  | _ => true

/-- The first station whose distance does not fit the line table. -/
def LineTable.unfitStation (t : LineTable) (v : Vector (Option Station) 24) : Option StationIx :=
  allStations.find? fun i => match v[i] with
    | some st => !t.webFits st
    | none => false

/-- The distance conditions of R4 and of the fifth check of R53. -/
def LineTable.spansFit (t : LineTable) (v : Vector (Option Station) 24) : Bool :=
  match distanceOfKind v .knife, distanceOfKind v .stacker with
  | some gk, some gs =>
    decide (t.guardDistance + gk < t.dKnife) && decide (t.guardDistance + gk < t.dDry) &&
    decide (gs / 8 ≤ t.minOrder) && decide (gs ≤ gk + 96 * t.minSheet)
  | _, _ => false

/-- The station part of R4. -/
def LineTable.fitsStations (t : LineTable) (e : Env) : Bool :=
  !e.stationsValid || (t.spansFit e.stations && (t.unfitStation e.stations).isNone)

/-! ## Orders (R95) -/

/-- The ranges of section 6.1 that do not depend on the line table (R95, first check); the bounds that do, and the number
of slit widths, have checks of their own (DEDUCED, log entry 16). -/
def OrderSpec.rangesOk (o : OrderSpec) : Bool :=
  inRange (1, 65535) o.tag && o.grades.toList.all (inRange (1, 255)) && decide (500 ≤ o.width) &&
  decide (o.recipe ≤ 31) && decide (o.length ≤ 12000) && inRange (1, 8) o.outs && o.slits.all (inRange (100, 3300)) &&
  decide (o.score ≤ 255) && inRange (1, 999999) o.quantity && decide (o.extra ≤ 255) && inRange (1, 9999) o.stackSize

/-- The checks of R95 in order: the number of the first that fails. -/
def orderCheck (t : LineTable) (o : OrderSpec) : Option Nat :=
  if !o.rangesOk then some 1
  else if o.length < t.minSheet then some 2
  else if t.maxWidth < o.width then some 3
  else if o.slits.length ≠ o.outs then some 4
  else if o.width < o.slits.sum + t.minTrim then some 5
  else if (o.required + o.extra) * o.length < t.minOrder then some 6
  else none

/-- The whole of R3 and R4 on a candidate. -/
def tableAccepted (e : Env) (w : Work) (t : LineTable) : Bool :=
  t.fieldsOk && t.fitsStations e && w.seq.live.all fun o => (orderCheck t o.given).isNone

/-! ## Stations (R51 to R53) -/

/-- The greatest distance that STATION_SET accepts on a web (R51, R52). -/
def webLimit : Web → Nat
  | .s1 => 80000
  | .s2 => 80000
  | .board => 1000000
  | .l1 => 60000
  | .m1 => 60000
  | .l2 => 60000
  | .m2 => 60000
  | .l3 => 60000

/-- Owner role NONE, PLANNER, WET, DRY, VIEW (R51). -/
def ownerOf : Nat → Option (Option Role)
  | 0 => some none
  | n + 1 => (roleOf n).map some

/-- Cue line NONE, CUE7 to CUE11 (R51). -/
def stationCueOf : Nat → Option (Option (Fin 5))
  | 0 => some none
  | n + 1 => if h : n < 5 then some (some ⟨n, h⟩) else none

/-- A subset of CHANGE, JOINT, DEFECT, MISMATCH (R51, R164). -/
def actsOnOf (n : Nat) : Option ActsOn :=
  if n < 16 then some ⟨n.testBit 0, n.testBit 1, n.testBit 2, n.testBit 3⟩ else none

/-- A flag byte. -/
def flagOf : Nat → Option Bool
  | 0 => some false
  | 1 => some true
  | _ => none

/-- A complete entry, where every value is of its set (R51, R52). -/
def stationOfFields : List Nat → Option Station
  | [k, wb, d, o, c, a, f, p] =>
    match stationKindOf k, webOf wb, ownerOf o, stationCueOf c, actsOnOf a, flagOf f with
    | some kind, some web, some owner, some cue, some acts, some wants =>
      if h : p < 8 then
        if d ≤ webLimit web then some ⟨kind, web, d, owner, cue, acts, wants, ⟨p, h⟩⟩ else none
      else none
    | _, _, _, _, _, _ => none
  | _ => none

/-- One setting of STATION_SET, where it is in range: the index, and the entry or EMPTY. -/
def settingOf (r : RawStation) : Option (StationIx × Option Station) :=
  match stationOf r.index, r.fields with
  | some i, none => some (i, none)
  | some i, some l => (stationOfFields l).map fun st => (i, some st)
  | none, _ => none

/-- The settings of a STATION_SET, where all of them are in range and name distinct indices (R52). -/
def settingsOf (l : List RawStation) : Option (List (StationIx × Option Station)) :=
  if (l.map RawStation.index).Nodup then l.mapM settingOf else none

/-- The five entries of R53: knife, gate, stacker and slitters, by index. -/
def keyStations (v : Vector (Option Station) 24) : List (StationIx × Station) :=
  stationsOfKind v .slitter ++ stationsOfKind v .knife ++ stationsOfKind v .gate ++ stationsOfKind v .stacker

/-- The fourth check of R53 on an entry. -/
def dryChange (st : Station) : Bool := st.actsOn.change && decide (st.owner = some .dry)

/-- The lowest index of an entry with a property. -/
def lowestWhere (l : List (StationIx × Station)) (bad : Station → Bool) : Option StationIx :=
  allStations.find? fun i => l.any fun x => x.1 == i && bad x.2

/-- Whether the distances of three single entries rise, with each of two below the first (R53, third check). -/
def inLineOrder (v : Vector (Option Station) 24) : Bool :=
  match distanceOfKind v .knife, distanceOfKind v .gate, distanceOfKind v .stacker with
  | some k, some g, some s =>
    ((stationsOfKind v .slitter).all fun x => decide (x.2.distance < k)) && decide (k < g) && decide (g < s)
  | _, _, _ => false

/-- The first check of R53: how many entries of each key kind there are. -/
def kindCounts (v : Vector (Option Station) 24) : Bool :=
  (stationsOfKind v .knife).length == 1 && (stationsOfKind v .gate).length == 1 &&
  (stationsOfKind v .stacker).length == 1 && (stationsOfKind v .slitter).length == 2

/-- The checks of R53 in order: the number of the first that fails, with the index of the entry concerned where one
entry is (R52). -/
def stationSetCheck (e : Env) (v : Vector (Option Station) 24) : Option (Nat × Option StationIx) :=
  let off := lowestWhere (keyStations v) fun st => decide (st.web ≠ .board)
  let undry := lowestWhere (stationsOfKind v .slitter ++ stationsOfKind v .knife) fun st => !dryChange st
  if !kindCounts v then some (1, none)
  else if off.isSome then some (2, off)
  else if !inLineOrder v then some (3, none)
  else if undry.isSome then some (4, undry)
  else if !e.configured then none
  else if (e.table.unfitStation v).isSome then some (5, e.table.unfitStation v)
  else if !e.table.spansFit v then some (5, none)
  else none

end Sys2Proof.Machine
end

