-- ==== Sys2Proof/Machine/LineRequests.lean ====
section
/-! DEFINITION. The requests on the line table and the bridges: LINE_TABLE (R2 to R5) and BRIDGE_SET (R14). -/

namespace Sys2Proof.Machine

/-! ## LINE_TABLE -/

/-- Whether the run and the track let the line table change (R2). -/
def tableOpen (e : Env) (w : Work) : Bool := decide (e.run = .idle) && w.track.marks.isEmpty

/-- The fills and levels at an acceptance, as its table has them (R5). -/
def refitFill (x : Env × Work) (k : Bridge) : Env × Work := setFill x.1 k (x.1.bridges[k].fill : Int) true x.2

/-- A table taken into force (R1, R5). -/
def acceptTable (e : Env) (t : LineTable) (w : Work) : Env × Work :=
  allBridges.foldl refitFill ({ e with table := t, configured := true }, w)

/-- The candidate that a list of settings makes (R2). -/
def candidateTable (t : LineTable) (l : List TableSetting) : LineTable :=
  l.foldl (fun x s => x.setField s.field s.value) t

/-- LINE_TABLE (R2). -/
def applyLineTable (e : Env) (w : Work) (body : List Byte) : Answer :=
  if !tableOpen e w then refuse .state e w
  else
    match getSettings tableWidths body with
    | none => refuse .range e w
    | some l =>
      if l.isEmpty || !namesDistinct l || !tableAccepted e w (candidateTable e.table l) then refuse .range e w
      else
        let x := acceptTable e (candidateTable e.table l) w
        answerOk x.1 x.2

def execLineTable (p : Port) (s : State) : Host.Outcome State Fault Refusal :=
  .next (applyHead p .lineTable applyLineTable s)

/-! ## BRIDGE_SET -/

/-- What a changed fill brings about: the passages, then the fire conditions, then the due test (R43, R76, R113), in the
order of an advance (DESIGN CHOICE, log entry 6). -/
def afterFill (e : Env) (w : Work) : Work := proposalTest e (evalFires e (evaluateAll e w))

/-- BRIDGE_SET (R14): the response returns the fill as held. -/
def applyBridgeSet (e : Env) (w : Work) (body : List Byte) : Answer :=
  match exact (getNats [1, 4] body) with
  | some [n, v] =>
    match bridgeOf n with
    | none => refuse .range e w
    | some k =>
      let x := setFill e k (v : Int) true w
      ⟨.ok, putNat 3 x.1.bridges[k].fill, x.1, afterFill x.1 x.2⟩
  | _ => refuse .range e w

def execBridgeSet (p : Port) (s : State) : Host.Outcome State Fault Refusal :=
  .next (applyHead p .bridgeSet applyBridgeSet s)

end Sys2Proof.Machine
end

