-- ==== Sys2Proof/Machine/NoticeRequests.lean ====
section
/-! DEFINITION. The requests on notices: PEEK and TAKE (R152), DONE (R153), FLOOR (R150), CLASS_SET (R148) and RELAY_SET
(R155). -/

namespace Sys2Proof.Machine

/-! ## PEEK and TAKE -/

/-- The notice that TAKE would give: the most urgent presentable one, the oldest among equals (R152). -/
def chosen (e : Env) (w : Work) (p : Port) : Option Notice := (byUrgency (presentable e w p)).head?

/-- What TAKE and PEEK answer before anything changes (R152): the notice, and how many presentable ones remain besides
it; counted before the floor falls (DESIGN CHOICE, log entry 18). -/
def offered (e : Env) (w : Work) (p : Port) : Code × Option Notice × List Byte :=
  if Config.takenLimit ≤ w.notices.desks[p].taken.length then (.busy, none, [])
  else
    match chosen e w p with
    | none => (.empty, none, [])
    | some n => (.ok, some n, putTaken n ++ putNat 1 ((presentable e w p).length - 1))

/-- PEEK (R152). -/
def applyPeek (p : Port) (e : Env) (w : Work) (body : List Byte) : Answer :=
  if body ≠ [] then refuse .range e w else ⟨(offered e w p).1, (offered e w p).2.2, e, w⟩

def execPeek (p : Port) (s : State) : Host.Outcome State Fault Refusal := .next (applyHead p .peek (applyPeek p) s)

/-- A notice of the offer queue put on top of the taken stack (R152). -/
def Work.takeNotice (w : Work) (p : Port) (n : Notice) : Work :=
  let d := w.notices.desks[p]
  w.setDesk p ⟨d.offer.eraseP fun x => x.tag == n.tag, n :: d.taken⟩

/-- TAKE (R152). -/
def applyTake (p : Port) (e : Env) (w : Work) (body : List Byte) : Answer :=
  if body ≠ [] then refuse .range e w
  else
    match offered e w p with
    | (c, some n, b) => ⟨c, b, e, w.takeNotice p n⟩
    | (c, none, b) => ⟨c, b, e, w⟩

def execTake (p : Port) (s : State) : Host.Outcome State Fault Refusal := .next (applyHead p .take (applyTake p) s)

/-! ## DONE -/

/-- DONE (R153, R117). -/
def applyDone (p : Port) (e : Env) (w : Work) (body : List Byte) : Answer :=
  match getOne 2 body with
  | none => refuse .range e w
  | some tag =>
    match w.notices.desks[p].taken.find? fun n => n.tag == tag with
    | none => refuse .unknown e w
    | some n => answerOk e (finishTaken e p (fun x => x.tag == tag) (noticeGivenUp e n w))

def execDone (p : Port) (s : State) : Host.Outcome State Fault Refusal := .next (applyHead p .done (applyDone p) s)

/-! ## FLOOR -/

/-- FLOOR (R150). -/
def applyFloor (p : Port) (e : Env) (w : Work) (body : List Byte) : Answer :=
  match getOne 1 body with
  | none => refuse .range e w
  | some v =>
    if 16 < v then refuse .range e w
    else
      let e1 : Env := { e with baseFloors := e.baseFloors.set p v }
      answerOk e1 (afterFloor e1 p (currentFloor e w p) w)

def execFloor (p : Port) (s : State) : Host.Outcome State Fault Refusal := .next (applyHead p .floor (applyFloor p) s)

/-! ## CLASS_SET -/

/-- The delivery that a CLASS_SET gives a class; none where it may not be given one (R148). -/
def deliveryFor (c : NoticeClass) (old : ClassDelivery) (given : Option (Nat × Nat)) : Option ClassDelivery :=
  match given with
  | none => some old
  | some (k, r) =>
    if c = .splice ∨ c = .proposal ∨ c = .station then none
    else
      match k, roleOf r with
      | 0, some x => some (.directed x)
      | 1, some x => some (.relayed x)
      | _, _ => none

/-- The priority held for a priority given (R148). -/
def heldPriority (v : Nat) : Nat := min v 15

/-- CLASS_SET (R148): the response returns the entry as held. -/
def applyClassSet (e : Env) (w : Work) (body : List Byte) : Answer :=
  match getClassSet body with
  | none => refuse .range e w
  | some (n, v, given) =>
    match classOf n with
    | none => refuse .range e w
    | some c =>
      match deliveryFor c e.classes[c.index].delivery given with
      | none => refuse .range e w
      | some d =>
        let x : ClassEntry := ⟨heldPriority v, d⟩
        ⟨.ok, putClassEntry x, { e with classes := e.classes.set c.index x }, w⟩

def execClassSet (p : Port) (s : State) : Host.Outcome State Fault Refusal :=
  .next (applyHead p .classSet applyClassSet s)

/-! ## RELAY_SET -/

/-- The ring that a list and a stop make (R155). -/
def ringOf (l : List Nat) (stop : Nat) : Option Ring :=
  if inRange (1, 4) l.length && decide l.Nodup && l.contains stop then
    match l.mapM portOf, portOf stop with
    | some ports, some q => some ⟨ports, q⟩
    | _, _ => none
  else none

/-- RELAY_SET (R155). -/
def applyRelaySet (e : Env) (w : Work) (body : List Byte) : Answer :=
  match getRelaySet body with
  | none => refuse .range e w
  | some (l, stop) =>
    match ringOf l stop with
    | none => refuse .range e w
    | some r => answerOk { e with ring := r } w

def execRelaySet (p : Port) (s : State) : Host.Outcome State Fault Refusal :=
  .next (applyHead p .relaySet applyRelaySet s)

end Sys2Proof.Machine
end

