-- ==== Sys2Proof/Machine/OrderRequests.lean ====
section
/-! DEFINITION. The planner's requests on a run: START (R108), ORDER_ADD (R99), ORDER_WITHDRAW (R100), ORDER_RELEASE (R101),
LINE_RESET (R110) and LOG_TAKE (R140). -/

namespace Sys2Proof.Machine

/-! ## START -/

/-- c0 = (b − g_knife) + start gap (R108). -/
def firstChange (e : Env) (gKnife gap : Nat) : Pos := Pos.at (e.b + BitVec.ofInt 32 ((gap : Int) - (gKnife : Int)))

/-- The first order of a run takes its start and becomes the running order (R108, step 1). -/
def Work.beginRun (w : Work) (f : Nat) (m : Mark) : Work :=
  let w1 := w.updOrder f fun o =>
    { o with startPos := some m.start, startTag := some m.tag, planned := o.plannedNow }
  { w1 with seq := { w1.seq with running := some f } }

/-- A recorded START (R108, steps 1 to 5). -/
def startRun (e : Env) (f : Nat) (m : Mark) (w : Work) : Env × Work :=
  let e1 : Env := { e with run := .running }
  let w1 := evaluate e1 (arrive e1) true [m.entry] (some m.entry) (w.beginRun f m)
  (e1, extendChain e1 (requirementRules e1 w1))

/-- START that passes its checks (R108). -/
def startWith (e : Env) (w : Work) (f gKnife gap : Nat) : Answer :=
  let c0 := firstChange e gKnife gap
  match handIn e (.change 0 f .committed false) c0 0 w with
  | (w1, none) => ⟨.full, [], e, w1⟩
  | (w1, some m) =>
    let y := startRun e f m (announceExtent e m w1)
    ⟨.ok, putPos c0 ++ putNat 2 m.tag, y.1, y.2⟩

/-- START (R108). -/
def applyStart (e : Env) (w : Work) (body : List Byte) : Answer :=
  match getOne 3 body with
  | none => refuse .range e w
  | some gap =>
    if 100000 < gap then refuse .range e w
    else if e.run ≠ .idle then refuse .state e w
    else
      match e.downstream .knife, w.seq.sequence with
      | some g, o :: rest =>
        if (o :: rest).any fun x => orderState w x == .queued then startWith e w o.tag g gap else refuse .state e w
      | _, _ => refuse .state e w

def execStart (p : Port) (s : State) : Host.Outcome State Fault Refusal := .next (applyHead p .start applyStart s)

/-! ## ORDER_ADD -/

/-- An order entering the queue (R99). -/
def Order.fresh (g : OrderSpec) : Order where
  given := g
  runningFlag := false
  added := 0
  planned := g.required + g.extra
  startPos := none
  startTag := none
  endTag := none
  endCommitted := false
  deferrals := 0
  tallies := Tallies.zero

/-- The start mark of an order, if the track holds it. -/
def Work.startMark (w : Work) (o : Order) : Option Mark := o.startTag.bind w.track.find

/-- Whether an order may be placed before a live order (R99). -/
def admitsBefore (w : Work) (x : Order) : Bool :=
  !(w.seq.held.any fun h => h.tag == x.tag) && !x.runningFlag &&
    (match w.startMark x with
      | some m => m.changeState? == some .planned
      | none => true)

/-- The checks of ORDER_ADD after the order's fields, in order (R99). -/
def addCode (w : Work) (g : OrderSpec) (place : OrderPlace) : Code :=
  if (w.seq.find g.tag).isSome then .tagInUse
  else if Config.orderLimit ≤ w.seq.live.length then .full
  else
    match place with
    | .tail => .ok
    | .before x =>
      match w.seq.find x with
      | none => .unknown
      | some o => if admitsBefore w o then .ok else .state

/-- Puts an order in a list just before the order with a tag. -/
def insertBefore (n : Order) (x : Nat) : List Order → List Order
  | [] => [n]
  | o :: rest => if o.tag = x then n :: o :: rest else o :: insertBefore n x rest

/-- The order placed in the sequence (R99). -/
def Work.enterOrder (w : Work) (g : OrderSpec) (place : OrderPlace) : Work :=
  { w with seq := { w.seq with sequence :=
    match place with
    | .tail => w.seq.sequence ++ [Order.fresh g]
    | .before x => insertBefore (Order.fresh g) x w.seq.sequence } }

/-- The start mark that an order placed before takes over (R99). -/
def takenOver (w : Work) (place : OrderPlace) : Option Mark :=
  match place with
  | .tail => none
  | .before x => (w.seq.find x).bind w.startMark

/-- An order entered, and the chain extended or re-planned (R99, R103). -/
def addOrder (e : Env) (g : OrderSpec) (place : OrderPlace) (w : Work) : Work :=
  match takenOver w place with
  | none => extendChain e (w.enterOrder g place)
  | some m => replan e m.tag g.tag (w.enterOrder g place)

/-- ORDER_ADD (R99): the response returns the required cuts, or the number of the field check that failed (R95). -/
def applyOrderAdd (e : Env) (w : Work) (body : List Byte) : Answer :=
  match getOrderAdd body with
  | none => refuse .range e w
  | some (g, place) =>
    match orderCheck e.table g with
    | some n => ⟨.range, putNat 1 n, e, w⟩
    | none =>
      if addCode w g place = .ok then ⟨.ok, putNat 3 g.required, e, addOrder e g place w⟩
      else refuse (addCode w g place) e w

def execOrderAdd (p : Port) (s : State) : Host.Outcome State Fault Refusal :=
  .next (applyHead p .orderAdd applyOrderAdd s)

/-! ## ORDER_WITHDRAW -/

/-- Whether a mark is PROPOSED. -/
def isProposed (m : Option Mark) : Bool := m.bind Mark.changeState? == some .proposed

/-- The checks of ORDER_WITHDRAW (R100). -/
def withdrawCode (w : Work) (o : Order) : Code :=
  if orderState w o = .committed ∨ orderState w o = .opened then .state
  else if (w.startMark o).any Mark.bound then .state
  else if isProposed (w.startMark o) || isProposed (w.endMark o) then .busy
  else .ok

/-- Takes an order out of the queue (R96). -/
def Work.dropOrder (w : Work) (tag : Nat) : Work :=
  { w with seq := { w.seq with
    sequence := w.seq.sequence.filter fun x => x.tag != tag
    held := w.seq.held.filter fun x => x.tag != tag } }

/-- An order withdrawn, and its marks dealt with, each removal announced (R100). While its start mark still leads to it the
order stays in the queue, so that a recompute finds the scope of that mark's pair; it leaves when the mark is re-led or
has gone (DESIGN CHOICE, log entry 39). -/
def withdrawOrder (e : Env) (o : Order) (w : Work) : Work :=
  match w.startMark o with
  | none => extendChain e (w.dropOrder o.tag)
  | some m =>
    match w.seq.successor o.tag with
    | some k => leadTo e m.tag k.tag ((removeLater e m.tag (removeEnd e (some o) w)).dropOrder o.tag)
    | none => extendChain e ((removeChange (announce e) w m.tag).dropOrder o.tag)

/-- ORDER_WITHDRAW (R100). -/
def applyOrderWithdraw (e : Env) (w : Work) (body : List Byte) : Answer :=
  match getOne 2 body with
  | none => refuse .range e w
  | some tag =>
    match w.seq.find tag with
    | none => refuse .unknown e w
    | some o =>
      if withdrawCode w o = .ok then answerOk e (withdrawOrder e o w) else refuse (withdrawCode w o) e w

def execOrderWithdraw (p : Port) (s : State) : Host.Outcome State Fault Refusal :=
  .next (applyHead p .orderWithdraw applyOrderWithdraw s)

/-! ## ORDER_RELEASE -/

/-- A held order put at the end of the sequence (R101). -/
def Work.release (w : Work) (o : Order) : Work :=
  { w with seq := { w.seq with
    held := w.seq.held.filter fun x => x.tag != o.tag
    sequence := w.seq.sequence ++
      [{ o with startPos := none, startTag := none, endTag := none, endCommitted := false }] } }

/-- ORDER_RELEASE (R101). -/
def applyOrderRelease (e : Env) (w : Work) (body : List Byte) : Answer :=
  match getOne 2 body with
  | none => refuse .range e w
  | some tag =>
    match w.seq.find tag, w.seq.held.find? fun h => h.tag == tag with
    | none, _ => refuse .unknown e w
    | some _, none => refuse .state e w
    | some _, some o => answerOk e (extendChain e (w.release o))

def execOrderRelease (p : Port) (s : State) : Host.Outcome State Fault Refusal :=
  .next (applyHead p .orderRelease applyOrderRelease s)

/-! ## LINE_RESET -/

/-- A stand after LINE_RESET (R94). -/
def StandRec.lineReset (r : StandRec) : StandRec :=
  StandRec.rephase
    { r with feedStart := none, phase := .idle, requirement := none, openMismatch := none, lateWindow := none }

/-- Every block after LINE_RESET (R50, R68, R94, R111, R127, R144, R160). -/
def Work.lineReset (w : Work) : Work :=
  { w with
    notices := { w.notices with desks := .replicate 4 ⟨[], []⟩, returned := [] }
    track := { w.track with marks := [] }
    station := { w.station with ramps := .replicate 24 none, slitters := SlitterPair.reset }
    stands := mapStands StandRec.lineReset w.stands
    seq := ⟨[], [], none, false, false⟩
    prop := { w.prop with list := [] }
    sheet := { w.sheet with schedule := none, sheets := [] }
    owed := ⟨false, false⟩ }

/-- LINE_RESET (R110). A stand that returns to WATCH (R94) does not evaluate its fire conditions at the reset, where no
notice is posted (R160); it does at the next of the moments of R76. -/
def applyLineReset (e : Env) (w : Work) (body : List Byte) : Answer :=
  if body ≠ [] then refuse .range e w
  else answerOk { e with run := .idle } w.lineReset

def execLineReset (p : Port) (s : State) : Host.Outcome State Fault Refusal :=
  .next (applyHead p .lineReset applyLineReset s)

/-! ## LOG_TAKE -/

/-- The log after its oldest record has been taken (R140). -/
def SheetUnit.takeLog (u : SheetUnit) (rest : List Completion) : SheetUnit :=
  { u with log := rest, logOverwrite := u.logOverwrite && !rest.isEmpty }

/-- LOG_TAKE (R140): the record, then how many remain. -/
def applyLogTake (e : Env) (w : Work) (body : List Byte) : Answer :=
  if body ≠ [] then refuse .range e w
  else
    match w.sheet.log with
    | [] => refuse .empty e w
    | r :: rest => ⟨.ok, putCompletion r ++ putNat 1 rest.length, e, { w with sheet := w.sheet.takeLog rest }⟩

def execLogTake (p : Port) (s : State) : Host.Outcome State Fault Refusal :=
  .next (applyHead p .logTake applyLogTake s)

end Sys2Proof.Machine
end

