-- ==== Sys2Proof/Machine/PortRequests.lean ====
section
/-! DEFINITION. The requests on the port unit: STATUS (R171), OPEN (R170), ALARM_ENABLE (R173) and ALARM_CLEAR (R174). -/

namespace Sys2Proof.Machine

/-! ## STATUS -/

/-- The items marked "STATUS with clear" (R171). -/
def Link.clearStatus (l : Link) : Link :=
  { l with
    frameErrors := 0
    frameErrorFlag := false
    overruns := 0
    retries := 0
    lastError := none
    postedErrors := 0
    sensorClamp := false }

/-- STATUS (R171): every item is reported as held, and then cleared where asked. -/
def applyStatus (p : Port) (e : Env) (w : Work) (body : List Byte) : Answer :=
  match getStatus body with
  | none => refuse .range e w
  | some clear =>
    ⟨.ok, putPartStatus e w ++ putLinkStatus e.links[p] w.sheet.logOverwrite,
      if clear then e.updLink p Link.clearStatus else e, w⟩

def execStatus (p : Port) (s : State) : Host.Outcome State Fault Refusal := .next (applyHead p .status (applyStatus p) s)

/-! ## OPEN -/

/-- A timeout given by OPEN: 0 keeps the port's (R170). -/
def timeoutOk (v : Nat) : Bool := v == 0 || inRange (100, 10000) v

/-- Writes a timeout, unless it is 0. -/
def Link.writeTimeout (l : Link) (v : Nat) : Link := if v = 0 then l else { l with timeout := v }

/-- The four timeouts written. -/
def writeTimeouts (e : Env) (v : Vector Nat 4) : Env :=
  allPorts.foldl (fun x (p : Port) => x.updLink p fun l => l.writeTimeout v[p]) e

/-- A port opened with its timer started (R170). -/
def Link.openLink (now : Nat) (l : Link) : Link := { l.restart now with state := .opened }

/-- The part opened: every port becomes OPEN, and each entry into OPEN re-offers the return list (R170, R158; DESIGN
CHOICE, log entry 17: the four re-offers follow the four entries). -/
def openAll (e : Env) (w : Work) : Env × Work :=
  let e1 := allPorts.foldl (fun x p => x.updLink p (Link.openLink x.now)) { e with partOpen := true }
  (e1, allPorts.foldl (fun x _ => reoffer e1 x) w)

/-- OPEN (R170). -/
def applyOpen (e : Env) (w : Work) (body : List Byte) : Answer :=
  match exact (getNats [2, 2, 2, 2] body) with
  | some [a, b, c, d] =>
    if !([a, b, c, d].all timeoutOk) then refuse .range e w
    else if !e.configured then refuse .state e w
    else
      let e1 := writeTimeouts e #v[a, b, c, d]
      if e1.partOpen then answerOk e1 w else answerOk (openAll e1 w).1 (openAll e1 w).2
  | _ => refuse .range e w

def execOpenPart (p : Port) (s : State) : Host.Outcome State Fault Refusal := .next (applyHead p .openPart applyOpen s)

/-! ## ALARM_ENABLE -/

/-- The kinds that a byte names: one, or all by 255 (R164, R173). -/
def kindsNamed (n : Nat) : List AlarmKind := if n = 255 then allAlarmKinds else (alarmKindOf n).toList

/-- ALARM_ENABLE (R173). -/
def applyAlarmEnable (e : Env) (w : Work) (body : List Byte) : Answer :=
  match exact (getNats [1, 1] body) with
  | some [n, k] =>
    match flagOf k with
    | none => refuse .range e w
    | some on =>
      if (kindsNamed n).isEmpty then refuse .range e w
      else answerOk { e with alarmEnables := (kindsNamed n).foldl (fun v x => v.set x.index on) e.alarmEnables } w
  | _ => refuse .range e w

def execAlarmEnable (p : Port) (s : State) : Host.Outcome State Fault Refusal :=
  .next (applyHead p .alarmEnable applyAlarmEnable s)

/-! ## ALARM_CLEAR -/

/-- The types of subject that a kind takes (section 10.7). -/
def subjectTypes : AlarmKind → List SubjectType
  | .reverse => [.encoder]
  | .bridgeEmpty => [.bridge]
  | .bridgeFull => [.bridge]
  | .bridgeLow => [.bridge]
  | .bridgeHigh => [.bridge]
  | .noReadyReel => [.stand]
  | .reelExhausted => [.stand]
  | .spliceFailed => [.stand]
  | .spliceLate => [.stand]
  | .trackFull => [.stand, .station, .order]
  | .defectEscaped => [.station]
  | .changeStalled => [.order]
  | .orderShort => [.order]
  | .strapConflict => [.port]
  | .noticeLost => [.noticeClass]
  | .cueOverlap => [.cueLine]

/-- A subject of a kind, where its type is one of the kind's (R174). -/
def subjectOf (k : AlarmKind) (type value : Nat) : Option Subject :=
  match subjectTypeOf type with
  | some t => if (subjectTypes k).contains t then some ⟨t, value⟩ else none
  | none => none

/-- Whether the record has an entry for a kind and subject. -/
def AlarmRecord.has (a : AlarmRecord) (k : AlarmKind) (s : Subject) : Bool := a.entries.any (AlarmEntry.names k s)

/-- The entry of a kind and subject cleared: it leaves the record (R174). -/
def AlarmRecord.clearOne (a : AlarmRecord) (k : AlarmKind) (s : Subject) : AlarmRecord :=
  { a with entries := a.entries.filter fun x => !x.names k s }

/-- A kind cleared with all its subjects and its overflow entry (R174). -/
def AlarmRecord.clearKind (a : AlarmRecord) (k : AlarmKind) : AlarmRecord :=
  { entries := a.entries.filter fun x => decide (x.kind ≠ k), overflow := a.overflow.set k.index ⟨false, 0⟩ }

/-- Every kind cleared (R174). -/
def AlarmRecord.clearAll : AlarmRecord := ⟨[], .replicate 16 ⟨false, 0⟩⟩

/-- ALARM_CLEAR (R174). -/
def applyAlarmClear (e : Env) (w : Work) (body : List Byte) : Answer :=
  match getAlarmClear body with
  | none => refuse .range e w
  | some .every => answerOk e { w with alarms := AlarmRecord.clearAll }
  | some (.kind n) =>
    match alarmKindOf n with
    | none => refuse .range e w
    | some k => answerOk e { w with alarms := w.alarms.clearKind k }
  | some (.one n t v) =>
    match alarmKindOf n with
    | none => refuse .range e w
    | some k =>
      match subjectOf k t v with
      | none => refuse .range e w
      | some s =>
        if w.alarms.has k s then answerOk e { w with alarms := w.alarms.clearOne k s } else refuse .unknown e w

def execAlarmClear (p : Port) (s : State) : Host.Outcome State Fault Refusal :=
  .next (applyHead p .alarmClear applyAlarmClear s)

end Sys2Proof.Machine
end

