-- ==== Sys2Proof/Machine/Read.lean ====
section
/-! DEFINITION. READ: the items of each chapter (R16, R23, R50, R68, R94, R111, R127, R145, R160, R169, R171, R172), by
the chapter byte and item byte of R164. READ changes nothing. Items are numbered as the chapters list them, and the
fields that name an instance follow; where an item may be named by tag or by place a byte says which, and where a count
and its members are one item the count is the answer to no further field (DESIGN CHOICE, log entry 15). An item that
is none of a chapter's, or a field out of range, is answered RANGE; a name of nothing held is answered UNKNOWN. -/

namespace Sys2Proof.Machine

/-- What a READ returns: a code and a body. -/
abbrev Reply := Code × List Byte

def told (b : List Byte) : Reply := (.ok, b)
def outOfRange : Reply := (.range, [])
def notHeld : Reply := (.unknown, [])

/-- The record a name gives, or UNKNOWN. -/
def tellIfHeld {α : Type} (f : α → List Byte) : Option α → Reply
  | some x => told (f x)
  | none => notHeld

/-- A record named by tag (0) or by place (1). -/
def tellByTagOrPlace {α : Type} (f : α → List Byte) (byTag : Nat → Option α) (l : List α) (rest : List Byte) : Reply :=
  match getNat 1 rest with
  | some (0, r) => match getOne 2 r with
    | some t => tellIfHeld f (byTag t)
    | none => outOfRange
  | some (1, r) => match getOne 1 r with
    | some n => tellIfHeld f l[n]?
    | none => outOfRange
  | _ => outOfRange

/-- The number of members of a list, or the member at a place. -/
def tellCountOrPlace {α : Type} (f : α → List Byte) (l : List α) (rest : List Byte) : Reply :=
  match rest with
  | [] => told (putNat 1 l.length)
  | _ => match getOne 1 rest with
    | some n => tellIfHeld f l[n]?
    | none => outOfRange

/-- A member of a numbered table, by its number in one byte. -/
def tellAt {α : Type} (f : α → List Byte) (find : Nat → Option α) (rest : List Byte) : Reply :=
  match (getOne 1 rest).bind find with
  | some x => told (f x)
  | none => outOfRange

/-- An item that takes no further field. -/
def tellPlain (b : List Byte) (rest : List Byte) : Reply := if rest = [] then told b else outOfRange

/-! ## Chapter 1 (R16) -/

def putEncoder (r : EncoderRec) : List Byte := putWord r.odo ++ putNat 3 r.residue ++ putNat 4 r.debt ++ putNat 2 r.speed

def putBridge (r : BridgeRec) : List Byte := putNat 3 r.fill ++ putNat 1 r.level.num

/-- The value of a numbered field of the line table, in its own width. -/
def tableField (t : LineTable) (n : Nat) : Option (List Byte) :=
  match t.fields[n]?, tableWidths[n]? with
  | some v, some k => some (putNat k v)
  | _, _ => none

def readLine (e : Env) (item : Nat) (rest : List Byte) : Reply :=
  match item with
  | 0 => tellPlain (putFlag e.configured) rest
  | 1 => tellAt id (tableField e.table) rest
  | 2 => tellAt (fun c : Encoder => putEncoder e.encoders[c]) encoderOf rest
  | 3 => tellAt (fun k : Bridge => putBridge e.bridges[k]) bridgeOf rest
  | _ => outOfRange

/-! ## Chapter 2 (R23) -/

/-- The READ sentence of chapter 2, "any splicer or any station", taken as two items: 0 a splicer's reach, 1 a station's
(DESIGN CHOICE, log entry 15); the reach of an index whose entry is EMPTY is UNKNOWN (DESIGN CHOICE, log entry 40). -/
def readReach (e : Env) (item : Nat) (rest : List Byte) : Reply :=
  match item with
  | 0 => tellAt (fun s : Stand => putInt 3 (e.splicerReach s)) standOf rest
  | 1 =>
    match (getOne 1 rest).bind stationOf with
    | some i => tellIfHeld (fun st => putInt 3 (e.stationReach st)) e.stations[i]
    | none => outOfRange
  | _ => outOfRange

/-! ## Chapter 3 (R50) -/

def readTrack (t : Track) (item : Nat) (rest : List Byte) : Reply :=
  match item with
  | 0 => tellPlain (putNat 1 t.marks.length ++ putNat 1 t.defects.length) rest
  | 1 => tellPlain (putNat 2 t.nextTag) rest
  | 2 => tellByTagOrPlace putMark t.find t.marks rest
  | _ => outOfRange

/-! ## Chapter 4 (R68) -/

/-- An entry of the table in force (0) or of the staged table (1). -/
def readStation (e : Env) (rest : List Byte) : Reply :=
  match exact (getNats [1, 1] rest) with
  | some [k, n] =>
    match flagOf k, stationOf n with
    | some staged, some i => told (putStation (if staged then e.staged[i] else e.stations[i]))
    | _, _ => outOfRange
  | _ => outOfRange

def readRecipe (e : Env) (rest : List Byte) : Reply :=
  match exact (getNats [1, 1] rest) with
  | some [r, i] => if h : r < 32 ∧ i < 24 then told (putNat 2 ((e.recipes[r]'h.1)[i]'h.2)) else outOfRange
  | _ => outOfRange

def readProfile (e : Env) (rest : List Byte) : Reply :=
  match getOne 1 rest with
  | some n => if h : n < 8 then told (putList putStep (e.profiles[n]'h)) else outOfRange
  | none => outOfRange

/-- A subset of a list of values, by the flag of each: one bit for each value, in 2 bytes (R164). -/
def putSet16 (l : List Bool) : List Byte :=
  let n := (l.zipIdx.map fun p => if p.1 then 2 ^ p.2 else 0).sum
  [BitVec.ofNat 8 n, BitVec.ofNat 8 (n / 256)]

/-- The level of each cue line, as the set of the lines that are high (R68). -/
def putCueLevels (v : Vector (Option Nat) 12) : List Byte := putSet16 (v.toList.map Option.isSome)

def readStations (e : Env) (w : Work) (item : Nat) (rest : List Byte) : Reply :=
  match item with
  | 0 => readStation e rest
  | 1 => readRecipe e rest
  | 2 => readProfile e rest
  | 3 => tellAt (fun i : StationIx => putNat 2 w.station.current[i]) stationOf rest
  | 4 => tellAt (fun i : StationIx => putOpt putRamp w.station.ramps[i]) stationOf rest
  | 5 => tellPlain (putSlitters w.station.slitters) rest
  | 6 => tellPlain (putCueLevels w.cues) rest
  | _ => outOfRange

/-! ## Chapter 5 (R94) -/

def readStand (e : Env) (w : Work) (item : Nat) (rest : List Byte) : Reply :=
  match item with
  | 0 => tellAt (fun s : Stand => putStandRec w.stands[s]) standOf rest
  | 1 => tellAt (fun s : Stand => putOpt (putNat 4) (e.usable s w.stands[s].running)) standOf rest
  | 2 => tellAt (fun s : Stand => putSettings e.settings[s]) standOf rest
  | _ => outOfRange

/-! ## Chapter 6 (R111) -/

/-- The scope of the pair formed by two live orders (R111). -/
def readScope (q : Sequencer) (rest : List Byte) : Reply :=
  match exact (getNats [2, 2] rest) with
  | some [i, j] =>
    match q.find i, q.find j with
    | some oi, some oj => told (putNat 1 (specScope oi.given oj.given).num)
    | _, _ => notHeld
  | _ => outOfRange

/-- The tags of the sequence and those of the held list, in item 2, are two lists, each with its count (DESIGN CHOICE, log
entry 15). -/
def readOrders (e : Env) (w : Work) (item : Nat) (rest : List Byte) : Reply :=
  match item with
  | 0 => tellPlain (putNat 1 e.run.num ++ putTag w.seq.running) rest
  | 1 => tellPlain (putNat 1 w.seq.live.length) rest
  | 2 => tellPlain (putList (fun o => putNat 2 o.tag) w.seq.sequence ++ putList (fun o => putNat 2 o.tag) w.seq.held) rest
  | 3 => tellPlain (putNat 1 w.track.window.length) rest
  | 4 =>
    match getOne 2 rest with
    | some t => tellIfHeld (putOrder w) (w.seq.find t)
    | none => outOfRange
  | 5 => readScope w.seq rest
  | _ => outOfRange

/-! ## Chapter 7 (R127) -/

/-- The scope distance of a CHANGE mark, and its due distance (R112). Where an order of the pair is no live order, the
spec states no scope distance: a free value. -/
def markDistances (e : Env) (q : Sequencer) (m : Mark) (i j : Nat) : List Byte :=
  let d : Int :=
    if (q.find i).isSome && (q.find j).isSome then scopeDistance e q (q.scope i j) i j
    else ((Config.unstatedScopeDistance m.tag).toNat : Int)
  putInt 3 d ++ putInt 3 (max d (e.table.guardDistance : Int))

/-- The distances of the CHANGE mark with a tag; a tag of no mark, or of another kind of mark, is UNKNOWN (DESIGN CHOICE, log
entry 47). -/
def readDistances (e : Env) (w : Work) (rest : List Byte) : Reply :=
  match getOne 2 rest with
  | none => outOfRange
  | some t =>
    match w.track.find t with
    | none => notHeld
    | some m => tellIfHeld (fun p => markDistances e w.seq m p.1 p.2) m.pair?

def readProposals (e : Env) (w : Work) (item : Nat) (rest : List Byte) : Reply :=
  match item with
  | 0 => tellPlain (putNat 1 w.prop.list.length) rest
  | 1 => tellByTagOrPlace putProposal w.proposal w.prop.list rest
  | 2 => readDistances e w rest
  | _ => outOfRange

/-! ## Chapter 8 (R145) -/

/-- Item 2 is the tallies of a live order alone; the order record that has them is item 4 of chapter 6 (DESIGN CHOICE, log
entry 15). -/
def readSheets (w : Work) (item : Nat) (rest : List Byte) : Reply :=
  match item with
  | 0 => tellPlain (putSchedule w.sheet.schedule) rest
  | 1 => tellCountOrPlace putSheet w.sheet.sheets rest
  | 2 =>
    match getOne 2 rest with
    | some t => tellIfHeld (fun o => putTallies o.tallies) (w.seq.find t)
    | none => outOfRange
  | 3 => tellCountOrPlace putCompletion w.sheet.log rest
  | 4 => tellPlain (putFlag w.sheet.logOverwrite) rest
  | _ => outOfRange

/-! ## Chapter 9 (R160) -/

/-- Base floor, current floor, ATTN level, and the two counts of a port (R160). -/
def putDesk (e : Env) (w : Work) (p : Port) : List Byte :=
  putNat 1 e.baseFloors[p] ++ putNat 1 (currentFloor e w p) ++ putFlag (attn e w p) ++
  putNat 1 w.notices.desks[p].offer.length ++ putNat 1 w.notices.desks[p].taken.length

/-- A port's desk, or a notice of its offer queue (0) or taken stack (1) by place (R160). Places count from 0, in the queue
from the oldest and in the stack from the bottom (DESIGN CHOICE, log entry 15). -/
def readDesk (e : Env) (w : Work) (rest : List Byte) : Reply :=
  match getNat 1 rest with
  | none => outOfRange
  | some (n, r) =>
    match portOf n, r, exact (getNats [1, 1] r) with
    | some p, [], _ => told (putDesk e w p)
    | some p, _ :: _, some [0, k] => tellIfHeld putNotice w.notices.desks[p].offer[k]?
    | some p, _ :: _, some [1, k] => tellIfHeld putNotice w.notices.desks[p].taken.reverse[k]?
    | _, _, _ => outOfRange

/-- Item 0 is the class table: its eight entries without a count (DESIGN CHOICE, log entry 15). -/
def readNotices (e : Env) (w : Work) (item : Nat) (rest : List Byte) : Reply :=
  match item with
  | 0 => tellPlain (e.classes.toList.flatMap putClassEntry) rest
  | 1 => tellPlain (putList (fun p : Port => putNat 1 p.val) e.ring.ports ++ putNat 1 e.ring.stop.val) rest
  | 2 => readDesk e w rest
  | 3 => tellCountOrPlace putNotice w.notices.returned rest
  | 4 => tellPlain (putNat 2 w.notices.dropCount) rest
  | _ => outOfRange

/-! ## Chapter 10 (R169, R171, R172) -/

/-- An alarm entry by kind and subject (0) or by place (1) (R172). Places count from 0 in the order of creation, and the
entries after a cleared one move down (DESIGN CHOICE, log entry 15). -/
def readAlarm (a : AlarmRecord) (rest : List Byte) : Reply :=
  match getNat 1 rest with
  | some (0, r) =>
    match exact (getNats [1, 1, 2] r) with
    | some [k, t, v] =>
      match alarmKindOf k, subjectTypeOf t with
      | some kind, some type => tellIfHeld putAlarmEntry (a.entries.find? (AlarmEntry.names kind ⟨type, v⟩))
      | _, _ => outOfRange
    | _ => outOfRange
  | some (1, r) => match getOne 1 r with
    | some n => tellIfHeld putAlarmEntry a.entries[n]?
    | none => outOfRange
  | _ => outOfRange

def putOverflow (x : Overflow) : List Byte := putFlag x.flag ++ putNat 1 x.count

def readPorts (e : Env) (w : Work) (item : Nat) (rest : List Byte) : Reply :=
  match item with
  | 0 => tellAt (fun p : Port => putNat 1 e.links[p].state.num) portOf rest
  | 1 => tellAt (fun p : Port => putLinkStatus e.links[p] w.sheet.logOverwrite) portOf rest
  | 2 => tellPlain (putSet16 e.alarmEnables.toList) rest
  | 3 => tellPlain (putNat 1 w.alarms.entries.length) rest
  | 4 => readAlarm w.alarms rest
  | 5 => tellAt (fun k : AlarmKind => putOverflow w.alarms.overflow[k.index]) alarmKindOf rest
  | _ => outOfRange

/-! ## READ -/

/-- The reply to a READ body (R164). -/
def readReply (e : Env) (w : Work) (body : List Byte) : Reply :=
  match getNats [1, 1] body with
  | some ([chapter, item], rest) =>
    match chapter with
    | 1 => readLine e item rest
    | 2 => readReach e item rest
    | 3 => readTrack w.track item rest
    | 4 => readStations e w item rest
    | 5 => readStand e w item rest
    | 6 => readOrders e w item rest
    | 7 => readProposals e w item rest
    | 8 => readSheets w item rest
    | 9 => readNotices e w item rest
    | 10 => readPorts e w item rest
    | _ => outOfRange
  | _ => outOfRange

/-- READ. -/
def applyRead (e : Env) (w : Work) (body : List Byte) : Answer :=
  ⟨(readReply e w body).1, (readReply e w body).2, e, w⟩

def execRead (p : Port) (s : State) : Host.Outcome State Fault Refusal := .next (applyHead p .read applyRead s)

end Sys2Proof.Machine
end

