-- ==== Sys2Proof/Machine/StandRequests.lean ====
section
/-! DEFINITION. The requests on reel stands: STAND_SET (R74), REEL_LOAD (R70), REEL_REMOVE (R71), DIAMETER (R72), JOINT
(R81, R84, R87), SPLICE_FAIL (R85) and STAND_ENABLE (R86). -/

namespace Sys2Proof.Machine

/-! ## STAND_SET -/

/-- The ranges of the numbered settings of a stand (section 5.1.3). -/
def standRanges : List (Nat × Nat) :=
  [(0, 5000), (100, 5000), (0, 5000), (0, 2), (100, 10000), (0, 500000), (0, 10000000), (0, 10000000), (0, 10000000),
   (0, 100000), (0, 200000)]

/-- A candidate with one numbered setting replaced (R74, R164). -/
def StandSettings.setField (c : StandSettings) (f v : Nat) : StandSettings :=
  match f with
  | 0 => { c with leadTime := v }
  | 1 => { c with halfSpan := v }
  | 2 => { c with tolerance := v }
  | 3 => { c with mode := (confirmModeOf v).getD c.mode }
  | 4 => { c with timeout := v }
  | 5 => { c with tailReserve := v }
  | 6 => { c with warn := v }
  | 7 => { c with arm := v }
  | 8 => { c with last := v }
  | 9 => { c with hysteresis := v }
  | 10 => { c with runoutMargin := v }
  | _ => c

/-- Whether a named value lies in its range (R74). -/
def standSettingOk (s : TableSetting) : Bool :=
  match standRanges[s.field]? with
  | some r => inRange r s.value
  | none => false

/-- The candidate that a list of settings makes (R74). -/
def candidateSettings (c : StandSettings) (l : List TableSetting) : StandSettings :=
  l.foldl (fun x s => x.setField s.field s.value) c

/-- The thresholds of a candidate stand in order (R74). -/
def StandSettings.thresholdsOk (c : StandSettings) : Bool := decide (c.arm ≤ c.warn) && decide (c.last ≤ c.arm)

/-- Whether a list of settings is accepted for a stand (R74). -/
def settingsAccepted (c : StandSettings) (l : List TableSetting) : Bool :=
  !l.isEmpty && namesDistinct l && l.all standSettingOk && (candidateSettings c l).thresholdsOk

/-- Whether a setting names a threshold or the hysteresis (R74). -/
def namesLevel (s : TableSetting) : Bool := decide (6 ≤ s.field) && decide (s.field ≤ 9)

/-- Settings taken into force on a stand (R74): the level where its thresholds or hysteresis are named, then the fire
conditions, which are not late (R76, R80). -/
def acceptSettings (e : Env) (s : Stand) (l : List TableSetting) (w : Work) : Env × Work :=
  let e1 : Env := { e with settings := e.settings.set s (candidateSettings e.settings[s] l) }
  let w1 := if l.any namesLevel then evalLevel e1 s false w else w
  (e1, evalFire e1 false s (w1.updStand s StandRec.rephase))

/-- STAND_SET (R74). -/
def applyStandSet (e : Env) (w : Work) (body : List Byte) : Answer :=
  match getNat 1 body with
  | none => refuse .range e w
  | some (n, rest) =>
    match standOf n, getSettings standWidths rest with
    | some s, some l =>
      if settingsAccepted e.settings[s] l then
        answerOk (acceptSettings e s l w).1 (acceptSettings e s l w).2
      else refuse .range e w
    | _, _ => refuse .range e w

def execStandSet (p : Port) (s : State) : Host.Outcome State Fault Refusal :=
  .next (applyHead p .standSet applyStandSet s)

/-! ## REEL_LOAD -/

/-- A reel as REEL_LOAD gives it, in range but for its diameter (section 5.1, R70). -/
def Reel.inRange (r : Reel) : Bool :=
  decide (1 ≤ r.id) && decide (r.grade ≤ 255) && decide (500 ≤ r.width) && decide (r.width ≤ 3350) &&
  decide (80 ≤ r.caliper) && decide (r.caliper ≤ 800) && decide (70 ≤ r.core) && decide (r.core ≤ 200)

/-- A diameter clamped into core diameter to 1,800 mm (R70, R72). -/
def clampDiameter (core d : Nat) : Nat := min (max d core) 1800

/-- A clamped value sets SENSOR_CLAMP in the status record of the sending port (R70, R72). -/
def noteClamp (p : Port) (given held : Nat) (e : Env) : Env :=
  if given = held then e else e.updLink p fun l => { l with sensorClamp := true }

/-- The checks of REEL_LOAD after its ranges (R70). -/
def StandRec.loadable (r : StandRec) : Bool := r.ready.isNone && !r.phase.isFired

/-- Whether a reel takes the running position (R70). -/
def threads (e : Env) (r : StandRec) : Bool := decide (e.run = .idle) && decide (r.running = .none)

/-- A threading load (R70). -/
def threadReel (e : Env) (s : Stand) (x : Reel) (w : Work) : Work :=
  let w1 := evalLevel e s true (w.updStand s fun r =>
    { r with running := .reel x (e.anchorNow s x), feedStart := none })
  evalFire e false s (w1.updStand s StandRec.rephase)

/-- A ready reel, and the evaluation of the splice watch (R70, R80). -/
def readyReel (e : Env) (s : Stand) (x : Reel) (w : Work) : Work :=
  evalFire e true s (w.updStand s fun r => { r with ready := some x }.rephase)

/-- REEL_LOAD on a stand, in range (R70). READY is 0 and RUNNING is 1 in the response. -/
def loadReel (p : Port) (e : Env) (w : Work) (s : Stand) (x : Reel) : Answer :=
  let d := clampDiameter x.core x.diameter
  let y : Reel := { x with diameter := d }
  let e1 := noteClamp p x.diameter d e
  if !w.stands[s].loadable then refuse .state e w
  else if threads e w.stands[s] then ⟨.ok, putNat 1 1 ++ putNat 2 d, e1, threadReel e1 s y w⟩
  else ⟨.ok, putNat 1 0 ++ putNat 2 d, e1, readyReel e1 s y w⟩

/-- REEL_LOAD (R70). -/
def applyReelLoad (p : Port) (e : Env) (w : Work) (body : List Byte) : Answer :=
  match exact (getNats [1, 4, 1, 2, 2, 1, 2] body) with
  | some [n, id, grade, width, caliper, core, diameter] =>
    let x : Reel := ⟨id, grade, width, caliper, core, diameter⟩
    match standOf n with
    | none => refuse .range e w
    | some s => if x.inRange then loadReel p e w s x else refuse .range e w
  | _ => refuse .range e w

def execReelLoad (p : Port) (s : State) : Host.Outcome State Fault Refusal :=
  .next (applyHead p .reelLoad (applyReelLoad p) s)

/-! ## REEL_REMOVE -/

/-- The ready reel removed (R71). -/
def removeReady (e : Env) (s : Stand) (w : Work) : Work :=
  let w1 := evalFire e false s (w.updStand s fun r => { r with ready := none }.rephase)
  if w.stands[s].level.armed then raiseAlarm e .noReadyReel (.stand s) w1 else w1

/-- The running reel removed (R71). -/
def removeRunning (e : Env) (s : Stand) (w : Work) : Work :=
  let w1 := evalLevel e s false (w.updStand s fun r => { r with running := .none, feedStart := none })
  evalFire e false s (w1.updStand s StandRec.rephase)

/-- REEL_REMOVE on a stand and a position (R71). -/
def removeReel (e : Env) (w : Work) (s : Stand) (running : Bool) : Answer :=
  let r := w.stands[s]
  if r.phase.isFired then refuse .state e w
  else if !running then
    if r.ready.isNone then refuse .state e w else answerOk e (removeReady e s w)
  else if e.run = .running then refuse .state e w
  else if r.running = .none then refuse .state e w
  else answerOk e (removeRunning e s w)

/-- REEL_REMOVE (R71): position READY is 0, RUNNING is 1. -/
def applyReelRemove (e : Env) (w : Work) (body : List Byte) : Answer :=
  match exact (getNats [1, 1] body) with
  | some [n, k] =>
    match standOf n, flagOf k with
    | some s, some running => removeReel e w s running
    | _, _ => refuse .range e w
  | _ => refuse .range e w

def execReelRemove (p : Port) (s : State) : Host.Outcome State Fault Refusal :=
  .next (applyHead p .reelRemove applyReelRemove s)

/-! ## DIAMETER -/

/-- The running reel re-anchored with a diameter (R72). -/
def reanchor (e : Env) (s : Stand) (x : Reel) (w : Work) : Work :=
  let w1 := evalLevel e s false (w.updStand s fun r => { r with running := .reel x (e.anchorNow s x) })
  evalFire e false s (w1.updStand s StandRec.rephase)

/-- DIAMETER on a stand (R72). -/
def setDiameter (p : Port) (e : Env) (w : Work) (s : Stand) (d : Nat) : Answer :=
  match w.stands[s].running with
  | .reel x _ =>
    let y : Reel := { x with diameter := clampDiameter x.core d }
    let e1 := noteClamp p d y.diameter e
    ⟨.ok, putNat 2 y.diameter ++ putNat 4 (e1.anchorNow s y).usable, e1, reanchor e1 s y w⟩
  | .unknown => refuse .state e w
  | .none => refuse .state e w

/-- DIAMETER (R72). -/
def applyDiameter (p : Port) (e : Env) (w : Work) (body : List Byte) : Answer :=
  match exact (getNats [1, 2] body) with
  | some [n, d] =>
    match standOf n with
    | some s => setDiameter p e w s d
    | none => refuse .range e w
  | _ => refuse .range e w

def execDiameter (p : Port) (s : State) : Host.Outcome State Fault Refusal :=
  .next (applyHead p .diameter (applyDiameter p) s)

/-! ## JOINT -/

/-- b + R_s, the position of the paper now at a splicer (R81). -/
def Env.jointHere (e : Env) (s : Stand) : Word := e.b + BitVec.ofInt 32 (e.splicerReach s)

/-- The body of a JOINT response (R81). -/
def putJoint (j : Word) (tag : Option Nat) : List Byte := putWord j ++ putNat 2 (tag.getD 0)

/-- JOINT on a stand: a late report of a splice confirmed by time (R84), otherwise a confirmation or an unplanned joint,
which take the same steps (R81, R83, R87). -/
def reportJoint (e : Env) (w : Work) (s : Stand) : Answer :=
  let j := e.jointHere s
  let r := w.stands[s]
  let x :=
    if !r.phase.isFired && r.lateWindow.isSome then
      enterJoint e s j false (w.updStand s fun r => { r with lateWindow := none })
    else makeJoint e s j false w
  ⟨.ok, putJoint j x.2, e, x.1⟩

/-- JOINT (R81, R84, R87). -/
def applyJoint (e : Env) (w : Work) (body : List Byte) : Answer :=
  match (getOne 1 body).bind standOf with
  | some s => reportJoint e w s
  | none => refuse .range e w

def execJoint (p : Port) (s : State) : Host.Outcome State Fault Refusal := .next (applyHead p .joint applyJoint s)

/-! ## SPLICE_FAIL and STAND_ENABLE -/

/-- SPLICE_FAIL (R85). -/
def applySpliceFail (e : Env) (w : Work) (body : List Byte) : Answer :=
  match (getOne 1 body).bind standOf with
  | some s => if w.stands[s].phase.isFired then answerOk e (failSplice e s w) else refuse .state e w
  | none => refuse .range e w

def execSpliceFail (p : Port) (s : State) : Host.Outcome State Fault Refusal :=
  .next (applyHead p .spliceFail applySpliceFail s)

/-- The enable of a stand set or cleared, its phase re-evaluated, and the fire conditions with it (R86, R80). -/
def enableStand (e : Env) (s : Stand) (on : Bool) (w : Work) : Work :=
  evalFire e on s (w.updStand s fun r => { r with enable := on }.rephase)

/-- STAND_ENABLE (R86). -/
def applyStandEnable (e : Env) (w : Work) (body : List Byte) : Answer :=
  match exact (getNats [1, 1] body) with
  | some [n, k] =>
    match standOf n, flagOf k with
    | some s, some on => answerOk e (enableStand e s on w)
    | _, _ => refuse .range e w
  | _ => refuse .range e w

def execStandEnable (p : Port) (s : State) : Host.Outcome State Fault Refusal :=
  .next (applyHead p .standEnable applyStandEnable s)

end Sys2Proof.Machine
end

