-- ==== Sys2Proof/Machine/StationRequests.lean ====
section
/-! DEFINITION. The requests on stations: STATION_SET (R48, R52 to R54), RECIPE_SET (R56), PROFILE_SET (R57) and SETUP_DONE
(R65). -/

namespace Sys2Proof.Machine

/-! ## STATION_SET -/

/-- Writes settings into a table (R52). -/
def writeStations (v : Vector (Option Station) 24) (l : List (StationIx × Option Station)) :
    Vector (Option Station) 24 := l.foldl (fun x s => x.set s.1 s.2) v

/-- Whether an entry keeps its current value when it replaces another (R54). -/
def keepsCurrent (old new : Option Station) : Bool :=
  match old, new with
  | some a, some b => decide (a.kind = b.kind) && decide (a.web = b.web) && decide (a.distance = b.distance)
  | _, _ => false

/-- The current values under a new table (R54). -/
def freshCurrent (old new : Vector (Option Station) 24) (v : Vector Nat 24) : Vector Nat 24 :=
  allStations.foldl (fun x (i : StationIx) => if keepsCurrent old[i] new[i] then x else x.set i 0) v

/-- A station set applied (R48, R54). -/
def applyStations (e : Env) (w : Work) : Env × Work :=
  let e1 : Env := { e with stations := e.staged, stationsValid := true }
  (e1, { w with
    track := { w.track with marks := w.track.marks.map (Mark.freshFlags e1) }
    station :=
      { current := freshCurrent e.stations e.staged w.station.current
        ramps := .replicate 24 none
        slitters := SlitterPair.reset } })

/-- The body of a failed apply: the number of the check, and the station index where one entry is concerned (R52). -/
def putCheck (x : Nat × Option StationIx) : List Byte :=
  putNat 1 x.1 ++ putOpt (fun i : StationIx => putNat 1 i.val) x.2

/-- The apply flag of STATION_SET (R52). -/
def stageAndApply (e : Env) (w : Work) (flag : Bool) : Answer :=
  if !flag then answerOk e w
  else
    match stationSetCheck e e.staged with
    | some c => ⟨.range, putCheck c, e, w⟩
    | none => answerOk (applyStations e w).1 (applyStations e w).2

/-- STATION_SET (R52). -/
def applyStationSet (e : Env) (w : Work) (body : List Byte) : Answer :=
  if e.run ≠ .idle then refuse .state e w
  else
    match getStationSet body with
    | none => refuse .range e w
    | some (l, flag) =>
      match settingsOf l with
      | none => refuse .range e w
      | some m => stageAndApply { e with staged := writeStations e.staged m } w flag

def execStationSet (p : Port) (s : State) : Host.Outcome State Fault Refusal :=
  .next (applyHead p .stationSet applyStationSet s)

/-! ## RECIPE_SET -/

/-- Whether a setting of RECIPE_SET is in range (R56). -/
def recipeSettingOk : List Nat → Bool
  | [r, i, v] => decide (r < 32) && decide (i < 24) && decide (v ≤ 65535)
  | _ => false

/-- Writes one setting into the recipe table (R56). -/
def writeRecipe (t : Vector (Vector Nat 24) 32) : List Nat → Vector (Vector Nat 24) 32
  | [r, i, v] => if h : r < 32 ∧ i < 24 then t.set r (t[r].set i v h.2) h.1 else t
  | _ => t

/-- RECIPE_SET (R56). -/
def applyRecipeSet (e : Env) (w : Work) (body : List Byte) : Answer :=
  match getRecipeSet body with
  | none => refuse .range e w
  | some l =>
    if l.isEmpty || !l.all recipeSettingOk then refuse .range e w
    else answerOk { e with recipes := l.foldl writeRecipe e.recipes } w

def execRecipeSet (p : Port) (s : State) : Host.Outcome State Fault Refusal :=
  .next (applyHead p .recipeSet applyRecipeSet s)

/-! ## PROFILE_SET -/

/-- No step of a profile falls below the one before it in distance or fraction (R57). -/
def stepsRise : List ProfileStep → Bool
  | x :: y :: rest => decide (x.distance ≤ y.distance) && decide (x.fraction ≤ y.fraction) && stepsRise (y :: rest)
  | _ => true

/-- Whether a list of steps makes a profile (R57). -/
def profileOk (l : List ProfileStep) : Bool :=
  inRange (1, 8) l.length && l.all (fun s => decide (s.distance ≤ 100000) && decide (s.fraction ≤ 256)) &&
  stepsRise l && ((l.getLast?).map ProfileStep.fraction == some 256)

/-- PROFILE_SET (R57). -/
def applyProfileSet (e : Env) (w : Work) (body : List Byte) : Answer :=
  match getProfileSet body with
  | none => refuse .range e w
  | some (n, l) =>
    if h : n < 8 then
      if profileOk l then answerOk { e with profiles := e.profiles.set n l h } w else refuse .range e w
    else refuse .range e w

def execProfileSet (p : Port) (s : State) : Host.Outcome State Fault Refusal :=
  .next (applyHead p .profileSet applyProfileSet s)

/-! ## SETUP_DONE -/

def slitterOf : Nat → Option Slitter
  | 0 => some .a
  | 1 => some .b
  | _ => none

/-- Whether a mark is a committed swapping change that has not been swapped (R65). -/
def unswapped (e : Env) (w : Work) (m : Mark) : Bool :=
  m.bound && !swapped e m &&
    (match m.pair? with
      | some (i, j) => swapping w i j
      | none => false)

/-- A slitter loaded for an order and confirmed (R65). -/
def SlitterPair.load (p : SlitterPair) (x : Slitter) (order : Nat) : SlitterPair :=
  match x with
  | .a => { p with loadedA := some order, confirmedA := true }
  | .b => { p with loadedB := some order, confirmedB := true }

/-- The checks of SETUP_DONE after the slitter's name, in order (R65). -/
def setupCode (e : Env) (w : Work) (x : Slitter) (order : Nat) : Code :=
  if !e.stationsValid then .state
  else if x = w.station.slitters.active then .state
  else if w.track.marks.any (unswapped e w) then .state
  else if (w.seq.find order).isNone then .unknown
  else .ok

/-- SETUP_DONE (R65). -/
def applySetupDone (e : Env) (w : Work) (body : List Byte) : Answer :=
  match exact (getNats [1, 2] body) with
  | some [n, order] =>
    match slitterOf n with
    | none => refuse .range e w
    | some x =>
      if setupCode e w x order = .ok then
        answerOk e { w with station := { w.station with slitters := w.station.slitters.load x order } }
      else refuse (setupCode e w x order) e w
  | _ => refuse .range e w

def execSetupDone (p : Port) (s : State) : Host.Outcome State Fault Refusal :=
  .next (applyHead p .setupDone applySetupDone s)

end Sys2Proof.Machine
end

