-- ==== Sys2Proof/Machine/TrackRequests.lean ====
section
/-! DEFINITION. DEFECT, the one request on the track (R29, R41, R42), and RESPOND, the one request on proposals (R116). -/

namespace Sys2Proof.Machine

/-! ## DEFECT -/

/-- A distance of a defect report in board-equivalent millimetres (R29). -/
def Env.webConv (e : Env) (web : Web) (m : Nat) : Nat :=
  match web with
  | .m1 => conv e.table.takeUp[0] m
  | .m2 => conv e.table.takeUp[1] m
  | _ => m

/-- A defect span divided at the gate: the escaped length, and the remaining span by distances ahead (R29). -/
structure GateSplit where
  escaped : Nat
  remaining : Option (Int × Int)
deriving DecidableEq, Repr

/-- The split of the span from `lo` up to `hi` at a gate `g` downstream (R29): G is −g ahead. -/
def splitAtGate (lo hi : Int) (g : Nat) : GateSplit :=
  let limit : Int := -(g : Int)
  if hi ≤ lo then ⟨0, none⟩
  else if hi ≤ limit + 1 then ⟨(hi - lo).toNat, none⟩
  else if limit < lo then ⟨0, some (lo, hi)⟩
  else ⟨(limit + 1 - lo).toNat, some (limit + 1, hi)⟩

/-- The span of a defect report, split (R29). -/
def defectSplit (e : Env) (st : Station) (a c : Nat) : GateSplit :=
  splitAtGate (e.stationReach st - (e.webConv st.web c : Int)) (e.stationReach st - (e.webConv st.web a : Int))
    ((e.downstream .gate).getD 0)

/-- The body of a DEFECT response (R42). -/
def putDefect (tag : Nat) (d : Disposition) (escaped : Nat) : List Byte :=
  putNat 2 tag ++ putNat 1 d.num ++ putNat 2 escaped

/-- DEFECT_ESCAPED where some of the span has escaped (R42, step 2). -/
def reportEscape (e : Env) (i : StationIx) (x : GateSplit) (w : Work) : Work :=
  if 0 < x.escaped then raiseAlarm e .defectEscaped (.station i.val) w else w

/-- A DEFECT that passes its checks (R42). -/
def recordDefect (e : Env) (w : Work) (i : StationIx) (st : Station) (a c cause : Nat) : Answer :=
  let x := defectSplit e st a c
  let w1 := reportEscape e i x w
  match x.remaining with
  | none => ⟨.ok, putDefect 0 .none x.escaped, e, w1⟩
  | some (lo, hi) =>
    let y := enterDefect e i.val cause (Pos.at (e.b + BitVec.ofInt 32 lo)) (hi - lo).toNat w1
    ⟨if y.2.2 = .dropped then .full else .ok, putDefect y.2.1 y.2.2 x.escaped, e, y.1⟩

/-- DEFECT (R41): the station set is looked for first. An index whose entry is EMPTY names no station, and is answered
RANGE like one beyond the table (DESIGN CHOICE, log entry 40). -/
def applyDefect (e : Env) (w : Work) (body : List Byte) : Answer :=
  if !e.stationsValid then refuse .state e w
  else
    match exact (getNats [1, 2, 2, 1] body) with
    | some [n, a, c, cause] =>
      match stationOf n with
      | none => refuse .range e w
      | some i =>
        match e.stations[i] with
        | none => refuse .range e w
        | some st => if c < a ∨ 20000 < c then refuse .range e w else recordDefect e w i st a c cause
    | _ => refuse .range e w

def execDefect (p : Port) (s : State) : Host.Outcome State Fault Refusal := .next (applyHead p .defect applyDefect s)

/-! ## RESPOND -/

/-- The PROPOSAL notice of an issue finished at a port: taken off its stack, or out of its offer queue (R116). -/
def finishProposal (e : Env) (p : Port) (tag : Nat) (w : Work) : Work :=
  dropOffered p tag (finishTaken e p (Notice.isProposal tag) w)

/-- The partial response of this port for a proposal tag, if it is a responder of an outstanding one (R116). -/
def Work.responderOf (w : Work) (r : Role) (tag : Nat) : Option (Proposal × Partial) :=
  match w.proposal tag with
  | some x => (x.response r).map fun y => (x, y)
  | none => none

/-- RESPOND with a legal answer (R116). The notice is finished here, with the re-offer of a floor rise, and a result that
the response completes is formed after it, as the event settles (DESIGN CHOICE, log entry 33). -/
def recordResponse (p : Port) (e : Env) (w : Work) (tag : Nat) (x : Partial) : Answer :=
  let r := e.links[p].role
  match w.responderOf r tag with
  | none => ⟨.unknown, [], e, finishTaken e p (Notice.isProposal tag) w⟩
  | some (q, old) =>
    if q.collecting && old == .pending then
      answerOk e (finishProposal e p tag (w.updProposal tag fun y => y.setResponse r x))
    else ⟨.state, [], e, finishProposal e p tag w⟩

/-- RESPOND (R116). -/
def applyRespond (p : Port) (e : Env) (w : Work) (body : List Byte) : Answer :=
  match exact (getNats [2, 1] body) with
  | some [tag, n] =>
    match answerOf n with
    | some x => recordResponse p e w tag x
    | none => refuse .range e w
  | _ => refuse .range e w

def execRespond (p : Port) (s : State) : Host.Outcome State Fault Refusal :=
  .next (applyHead p .respond (applyRespond p) s)

end Sys2Proof.Machine
end

