-- ==== Sys2Proof/Machine/Dispatch.lean ====
section
/-! DEFINITION. The meaning of every command: one arm per row of spec/opcode_table.json, in its order. -/

namespace Sys2Proof.Machine

def exec (i : Instr) (s : State) : Host.Outcome State Fault Refusal :=
  match i with
  | .powerOnReset x e1 e2 e3 => Sys2Proof.Machine.execPowerOnReset x e1 e2 e3 s
  | .quadratureEdge e levels => Sys2Proof.Machine.execQuadratureEdge e levels s
  | .speedPeriodClose => Sys2Proof.Machine.execSpeedPeriodClose s
  | .cuePulseEnd line => Sys2Proof.Machine.execCuePulseEnd line s
  | .confirmDeadlineExpiry stand => Sys2Proof.Machine.execConfirmDeadlineExpiry stand s
  | .lateReportWindowEnd stand => Sys2Proof.Machine.execLateReportWindowEnd stand s
  | .proposalDeadlineExpiry tag => Sys2Proof.Machine.execProposalDeadlineExpiry tag s
  | .reofferTimerExpiry => Sys2Proof.Machine.execReofferTimerExpiry s
  | .receivedFrame port gapBefore bytes => Sys2Proof.Machine.execReceivedFrame port gapBefore bytes s
  | .responseFrame port => Sys2Proof.Machine.execResponseFrame port s
  | .portTimeout port => Sys2Proof.Machine.execPortTimeout port s
  | .status port => Sys2Proof.Machine.execStatus port s
  | .read port => Sys2Proof.Machine.execRead port s
  | .peek port => Sys2Proof.Machine.execPeek port s
  | .take port => Sys2Proof.Machine.execTake port s
  | .done port => Sys2Proof.Machine.execDone port s
  | .floor port => Sys2Proof.Machine.execFloor port s
  | .lineTable port => Sys2Proof.Machine.execLineTable port s
  | .stationSet port => Sys2Proof.Machine.execStationSet port s
  | .recipeSet port => Sys2Proof.Machine.execRecipeSet port s
  | .profileSet port => Sys2Proof.Machine.execProfileSet port s
  | .classSet port => Sys2Proof.Machine.execClassSet port s
  | .relaySet port => Sys2Proof.Machine.execRelaySet port s
  | .alarmEnable port => Sys2Proof.Machine.execAlarmEnable port s
  | .alarmClear port => Sys2Proof.Machine.execAlarmClear port s
  | .openPart port => Sys2Proof.Machine.execOpenPart port s
  | .start port => Sys2Proof.Machine.execStart port s
  | .orderAdd port => Sys2Proof.Machine.execOrderAdd port s
  | .orderWithdraw port => Sys2Proof.Machine.execOrderWithdraw port s
  | .orderRelease port => Sys2Proof.Machine.execOrderRelease port s
  | .lineReset port => Sys2Proof.Machine.execLineReset port s
  | .logTake port => Sys2Proof.Machine.execLogTake port s
  | .standSet port => Sys2Proof.Machine.execStandSet port s
  | .reelLoad port => Sys2Proof.Machine.execReelLoad port s
  | .reelRemove port => Sys2Proof.Machine.execReelRemove port s
  | .diameter port => Sys2Proof.Machine.execDiameter port s
  | .joint port => Sys2Proof.Machine.execJoint port s
  | .spliceFail port => Sys2Proof.Machine.execSpliceFail port s
  | .standEnable port => Sys2Proof.Machine.execStandEnable port s
  | .bridgeSet port => Sys2Proof.Machine.execBridgeSet port s
  | .respond port => Sys2Proof.Machine.execRespond port s
  | .setupDone port => Sys2Proof.Machine.execSetupDone port s
  | .defect port => Sys2Proof.Machine.execDefect port s

end Sys2Proof.Machine
end

