-- ==== Sys2Proof/Safety.lean ====
section
/-! DEFINITION. What a well-kept state is, in the terms the statements use: the ranges of the odometer unit and the port
unit, the capacities of the collections, and what it is for the part to be between two events. -/

namespace Sys2Proof.Machine

/-! ## Ranges of what an evaluation only reads -/

/-- The ranges of section 1.2, with the resolution of R10. -/
structure EncoderRec.Ok (r : EncoderRec) : Prop where
  residue : r.residue < 256000
  debt : r.debt ≤ 128000000
  history : r.history.length = 10
  speed : r.speed ≤ 20000
  resolution : r.speed % 5 = 0

/-- The bounds of a link port: at most 4 outstanding requests (R165), an inbound queue of 32 entries (R166), the counts
that hold (R163, R165, R168), the timeout's range (R169), and a timer that runs exactly while the port is OPEN (R169). -/
structure Link.Ok (l : Link) : Prop where
  outstanding : l.slots.length ≤ 4
  inbound : (l.inbound.map fun q => entriesNeeded q.body.length).sum ≤ 32
  frameErrors : l.frameErrors ≤ 255
  overruns : l.overruns ≤ 255
  retries : l.retries ≤ 65535
  postedErrors : l.postedErrors ≤ 255
  timeout : 100 ≤ l.timeout ∧ l.timeout ≤ 10000
  timer : l.timer.isSome = decide (l.state = .opened)

/-- The relay ring of R155: 1 to 4 distinct ports, one of them the stop. -/
structure Ring.Ok (r : Ring) : Prop where
  size : 1 ≤ r.ports.length ∧ r.ports.length ≤ 4
  distinct : r.ports.Nodup
  stop : r.stop ∈ r.ports

/-- What the part keeps of its tables, its odometer unit and its ports. -/
structure Env.Ok (e : Env) : Prop where
  encoders : ∀ c : Encoder, e.encoders[c].Ok
  fills : ∀ k : Bridge, e.bridges[k].fill ≤ e.table.fillMax[k]
  links : ∀ p : Port, e.links[p].Ok
  hold : ∀ p : Port, e.links[p].state = .hold ↔ e.partOpen = false
  priorities : ∀ c : Fin 8, e.classes[c].priority ≤ 15
  floors : ∀ p : Port, e.baseFloors[p] ≤ 16
  ring : e.ring.Ok
  profiles : ∀ i : Fin 8, profileOk e.profiles[i] = true
  thresholds : ∀ s : Stand, e.settings[s].thresholdsOk = true
  table : e.configured = true → e.table.fieldsOk = true
  unconfigured : e.configured = false → e.table = LineTable.powerOn
  stations : e.stationsValid = true → kindCounts e.stations = true ∧ inLineOrder e.stations = true

/-! ## Capacities of what an evaluation writes -/

/-- The capacities of the notice unit (sections 9.2, 9.6) and the alarm record, whose entries are one for each kind and
subject, flagged, with a count that holds at 255 (R172). -/
structure Work.NoticeRoom (w : Work) : Prop where
  offers : ∀ p : Port, w.notices.desks[p].offer.length ≤ 16
  taken : ∀ p : Port, w.notices.desks[p].taken.length ≤ 4
  returned : w.notices.returned.length ≤ 8
  alarms : w.alarms.entries.length ≤ 64
  single : (w.alarms.entries.map fun x => (x.kind, x.subject)).Nodup
  flagged : ∀ x ∈ w.alarms.entries, x.flag = true ∧ 1 ≤ x.count ∧ x.count ≤ 255

/-- The capacity of the track (R33), with its tags: distinct, from 1 to 65,535 for the next one (R31), and every entry
number below the next one (R33). -/
structure Work.TrackRoom (w : Work) : Prop where
  marks : w.track.marks.length ≤ 192
  defects : w.track.defects.length ≤ 160
  tags : (w.track.marks.map Mark.tag).Nodup
  counter : 1 ≤ w.track.nextTag ∧ w.track.nextTag ≤ 65535
  entries : ∀ m ∈ w.track.marks, m.entry < w.track.entryCount

/-- The capacities of the order queue (section 6.2), the proposal list (R113) and the completion log (R139). -/
structure Work.RunRoom (w : Work) : Prop where
  orders : w.seq.live.length ≤ 32
  proposals : w.prop.list.length ≤ 4
  log : w.sheet.log.length ≤ 16

/-! ## Between events -/

/-- The part is between two events: no result is complete or waits to take effect, and no extension or due test is
owed. -/
def Work.atRest (w : Work) : Prop :=
  (∀ p ∈ w.prop.list, p.complete = false) ∧ (∀ p ∈ w.prop.list.head?, p.effective = false) ∧ w.owed = ⟨false, false⟩

/-- The part is between two events and no proposal is outstanding, so that a dropped notice concerns no responder
(R157). -/
def Work.calm (w : Work) : Prop := w.prop.list = [] ∧ w.owed = ⟨false, false⟩

/-! ## A request at the head of a port's queue -/

/-- The request at the head of a port's inbound queue is of a kind and has a body; `q` is its record. -/
structure HeadOf (s : State) (p : Port) (q : Queued) (rest : List Queued) (r : Request) (body : List Byte) : Prop where
  inbound : s.env.links[p].inbound = q :: rest
  request : q.request = r
  body : q.body = body

/-- The environment with the head of a port's queue given back (R166). -/
def popped (e : Env) (p : Port) (rest : List Queued) : Env := e.updLink p fun l => { l with inbound := rest }

/-- The environment with an applied request answered, or recorded as the last posted error (R167, R168). -/
def answered (e : Env) (p : Port) (q : Queued) (c : Code) (body : List Byte) : Env :=
  e.updLink p fun l => l.conclude q c body

/-- A request answered with a code and nothing else changed: its entries are given back, and its port has its answer. -/
def refusedState (s : State) (p : Port) (q : Queued) (rest : List Queued) (c : Code) : State :=
  { s with env := answered (popped s.env p rest) p q c [] }

/-- A request applied and answered: what it makes of the two parts of the state, and its port has its answer. -/
def appliedState (s : State) (p : Port) (q : Queued) (c : Code) (body : List Byte) (e : Env) (w : Work) : State :=
  { s with env := answered e p q c body, work := w }

/-! ## Frames -/

/-- Two states of the blocks that differ at most in the notices, the alarm record and the partial responses. -/
structure NoticeFrame (w w' : Work) : Prop where
  cues : w'.cues = w.cues
  track : w'.track = w.track
  station : w'.station = w.station
  stands : w'.stands = w.stands
  seq : w'.seq = w.seq
  sheet : w'.sheet = w.sheet
  owed : w'.owed = w.owed
  propTag : w'.prop.nextTag = w.prop.nextTag
  noProposal : w.prop.list = [] → w'.prop.list = []

/-- Two states of the blocks that differ at most in the notices, the alarm record, the cues, and stand `k`'s level,
phase and late-report window: what an evaluation of one stand's level and fire conditions can change. -/
structure StandFrame (k : Stand) (w w' : Work) : Prop where
  track : w'.track = w.track
  station : w'.station = w.station
  seq : w'.seq = w.seq
  prop : w'.prop = w.prop
  sheet : w'.sheet = w.sheet
  owed : w'.owed = w.owed
  others : ∀ x : Stand, x ≠ k → w'.stands[x] = w.stands[x]
  running : w'.stands[k].running = w.stands[k].running
  ready : w'.stands[k].ready = w.stands[k].ready
  feedStart : w'.stands[k].feedStart = w.stands[k].feedStart
  enable : w'.stands[k].enable = w.stands[k].enable
  requirement : w'.stands[k].requirement = w.stands[k].requirement
  openMismatch : w'.stands[k].openMismatch = w.stands[k].openMismatch

/-- An alarm stands in the record: flagged under its kind and subject, or under the overflow entry of its kind (R172). -/
def Work.hasAlarm (w : Work) (k : AlarmKind) (x : Subject) : Prop :=
  (∃ y ∈ w.alarms.entries, y.kind = k ∧ y.subject = x ∧ y.flag = true) ∨ w.alarms.overflow[k.index].flag = true

end Sys2Proof.Machine
end

