-- ==== Sys2Proof/Certificates/Slice0/Obligations.lean ====
section
/-! DEFINITION. The statements for the provers: what the commands do, what every step keeps, and what only some commands
may change. A request statement speaks of a request at the head of its port's inbound queue (`HeadOf`), since that is
where it is applied (R166); its body is given through the model's own field readers, whose rightness the number and
frame statements say. -/

section

open Sys2Proof Sys2Proof.Machine

/-! ## The command queue -/

/-- A step with a command waiting executes the command at the front, with the queue's rest. The queue is the host
interface's (log entry 5). -/
def Obligations.StepRunsTheFrontCommand : Prop :=
  ∀ (c : Instr) (rest : List Instr) (s : State),
    s.pending = c :: rest → step s = exec c { s with pending := rest }

/-- The model's choices (log entries 3 and 5). On an empty queue one millisecond of the time base passes, nothing but the
time base and the queue changes, and the commands that come to wait are timed ones, each exactly where its end time has
been reached. A request command of a port whose queue does not have that request at its head finds nothing to apply, and
changes nothing. -/
def Obligations.IdleStepAndRequestNotAtHead : Prop :=
  (∀ s : State, s.pending = [] → ∃ t, step s = .next t ∧
    t.env = { s.env with now := s.env.now + 1 } ∧ t.work = s.work ∧
    (∀ c : CueLine, .cuePulseEnd c ∈ t.pending ↔ ∃ x, s.work.cues[c] = some x ∧ x ≤ s.env.now + 1) ∧
    (∀ k : Stand, .confirmDeadlineExpiry k ∈ t.pending ↔
      ∃ x, s.work.stands[k].phase = .fired x ∧ x.deadline ≤ s.env.now + 1) ∧
    (∀ k : Stand, .lateReportWindowEnd k ∈ t.pending ↔ ∃ x, s.work.stands[k].lateWindow = some x ∧ x ≤ s.env.now + 1) ∧
    (∀ g : Nat, .proposalDeadlineExpiry g ∈ t.pending ↔
      ∃ p ∈ s.work.prop.list, p.tag = g ∧ ∃ x, p.status = .collecting x ∧ x ≤ s.env.now + 1) ∧
    (.reofferTimerExpiry ∈ t.pending ↔ s.env.reofferAt ≤ s.env.now + 1) ∧
    (∀ p : Port, .portTimeout p ∈ t.pending ↔ ∃ x, s.env.links[p].timer = some x ∧ x ≤ s.env.now + 1) ∧
    (.speedPeriodClose ∈ t.pending ↔ s.env.nextClose ≤ s.env.now + 1) ∧
    ∀ c ∈ t.pending, (∃ x, c = .cuePulseEnd x) ∨ (∃ k, c = .confirmDeadlineExpiry k) ∨
      (∃ k, c = .lateReportWindowEnd k) ∨ (∃ g, c = .proposalDeadlineExpiry g) ∨ c = .reofferTimerExpiry ∨
      (∃ p, c = .portTimeout p) ∨ c = .speedPeriodClose) ∧
  ∀ (i : Instr) (p : Port) (r : Request) (s : State),
    (i, r) ∈ [(.status p, .status), (.read p, .read), (.peek p, .peek), (.take p, .take), (.done p, .done),
      (.floor p, .floor), (.lineTable p, .lineTable), (.stationSet p, .stationSet), (.recipeSet p, .recipeSet),
      (.profileSet p, .profileSet), (.classSet p, .classSet), (.relaySet p, .relaySet),
      (.alarmEnable p, .alarmEnable), (.alarmClear p, .alarmClear), (.openPart p, .openPart), (.start p, .start),
      (.orderAdd p, .orderAdd), (.orderWithdraw p, .orderWithdraw), (.orderRelease p, .orderRelease),
      (.lineReset p, .lineReset), (.logTake p, .logTake), (.standSet p, .standSet), (.reelLoad p, .reelLoad),
      (.reelRemove p, .reelRemove), (.diameter p, .diameter), (.joint p, .joint), (.spliceFail p, .spliceFail),
      (.standEnable p, .standEnable), (.bridgeSet p, .bridgeSet), (.respond p, .respond),
      (.setupDone p, .setupDone), (Instr.defect p, Request.defect)] →
    (∀ q ∈ s.env.links[p].inbound.head?, q.request ≠ r) → exec i s = .next s

/-! ## Power-on (chapters 1 to 10) -/

/-- The reset state is well kept, is between two events, and has no command waiting. -/
def Obligations.ResetIsWellKept : Prop :=
  State.reset.env.Ok ∧ State.reset.work.NoticeRoom ∧ State.reset.work.TrackRoom ∧ State.reset.work.RunRoom ∧
    State.reset.work.calm ∧ State.reset.pending = []

/-- POWER_ON_RESET: the power-on values the volume states (R1, R15, R50, R68, R94, R111, R127, R144, R148, R155, R160,
R170, R175), whatever came before, and the roles (R161); only the strap conflicts are in the alarm record, whose
overflow entries are clear, and no notice has been dropped. The ring is the lowest-numbered port strapped PLANNER, or
LP0 where none is. The roles: each port has its strapped role or VIEW; a role other than VIEW goes to the
lowest-numbered port strapped to it, so that no two ports hold PLANNER, or WET, or DRY. -/
def Obligations.PowerOnValues : Prop :=
  (∀ (x : Straps) (e1 e2 e3 : QuadLevels) (s : State), ∃ t, exec (.powerOnReset x e1 e2 e3) s = .next t ∧
    t.env.configured = false ∧ t.env.table = LineTable.powerOn ∧ t.env.partOpen = false ∧ t.env.run = .idle ∧
    (∀ c : Encoder, t.env.encoders[c] = EncoderRec.powerOn (#v[e1, e2, e3])[c]) ∧ (∀ k : Bridge, t.env.bridges[k] = ⟨0, .low⟩) ∧
    (∀ i : StationIx, t.env.stations[i] = none ∧ t.env.staged[i] = none) ∧ t.env.stationsValid = false ∧
    (∀ (r : Fin 32) (i : StationIx), t.env.recipes[r][i] = 65535) ∧ (∀ n : Fin 8, t.env.profiles[n] = [⟨0, 256⟩]) ∧
    (∀ p : Port, t.env.links[p] = Link.powerOn (Straps.bands x)[p] (Straps.role x p)) ∧ t.env.classes = classesPowerOn ∧
    (∀ p : Port, t.env.baseFloors[p] = 16) ∧ (∀ k : Fin 16, t.env.alarmEnables[k] = true) ∧
    (∀ k : Stand, t.env.settings[k] = StandSettings.powerOn) ∧
    (∀ p : Port, bandRole (Straps.bands x)[p] = .planner → (∀ q : Port, q < p → bandRole (Straps.bands x)[q] ≠ .planner) →
      t.env.ring = ⟨[p], p⟩) ∧
    ((∀ p : Port, bandRole (Straps.bands x)[p] ≠ .planner) → t.env.ring = ⟨[0], 0⟩) ∧
    t.env.reofferAt = t.env.now + t.env.table.reofferInterval ∧
    (∀ k : Fin 16, t.work.alarms.overflow[k] = ⟨false, 0⟩) ∧ t.work.notices.dropCount = 0 ∧
    t.work.alarms.entries =
      ([0, 1, 2, 3].filter fun p => Straps.role x p ≠ bandRole (Straps.bands x)[p]).map
        (fun p => ⟨.strapConflict, .port p, true, 1⟩) ∧
    t.work = { Work.powerOn with alarms := t.work.alarms, notices := t.work.notices } ∧
    (∀ p : Port, t.work.notices.desks[p] = ⟨[], []⟩) ∧
    t.work.notices.returned.length = t.work.alarms.entries.length) ∧
  ∀ (x : Straps) (p : Port),
    (Straps.role x p = bandRole (Straps.bands x)[p] ∨ Straps.role x p = .view) ∧
    (Straps.role x p = bandRole (Straps.bands x)[p] ↔ bandRole (Straps.bands x)[p] = .view ∨
      ∀ q : Port, q < p → bandRole (Straps.bands x)[q] ≠ bandRole (Straps.bands x)[p]) ∧
    (∀ q : Port, Straps.role x p = Straps.role x q → Straps.role x p ≠ .view → p = q)

/-! ## The odometer unit (chapter 1) -/

/-- The edges (R6): one line alone is a count, forward where EkA leads EkB and reverse for the change back; both lines
together give no direction. A change that gives no count, or a count at pitch 0, moves the decoder's reference and
nothing else. A reverse count (R8): the debt grows by the pitch and is clamped at 500 mm; the residue and the odometer
stay; REVERSE is raised where the debt arrives at the clamp, and nothing otherwise. -/
def Obligations.EdgesAndReverseCounts : Prop :=
  ((∀ x y : QuadLevels,
    (decodeEdge x y = .unchanged ↔ x = y) ∧ (decodeEdge x y = .undirected ↔ x.a ≠ y.a ∧ x.b ≠ y.b) ∧
    (decodeEdge x y = .forward ↔ decodeEdge y x = .reverse) ∧
    (decodeEdge x y = .forward ↔ (x.a ≠ y.a ∧ x.b = y.b ∧ y.a ≠ y.b) ∨ (x.a = y.a ∧ x.b ≠ y.b ∧ y.a = y.b))) ∧
  ∀ (c : Encoder) (levels : QuadLevels) (s : State), s.work.atRest →
    (s.env.table.pitch[c] = 0 ∨ decodeEdge s.env.encoders[c].levels levels = .undirected ∨
      decodeEdge s.env.encoders[c].levels levels = .unchanged) →
    exec (.quadratureEdge c levels) s =
      .next { s with env := s.env.setEncoder c { s.env.encoders[c] with levels := levels } }) ∧
  ∀ (c : Encoder) (levels : QuadLevels) (s : State),
    let r := s.env.encoders[c]
    let debt := min (r.debt + s.env.table.pitch[c]) 128000000
    decodeEdge r.levels levels = .reverse → 0 < s.env.table.pitch[c] → s.work.calm →
    ∃ t, exec (.quadratureEdge c levels) s = .next t ∧ t.pending = s.pending ∧
      t.env = s.env.setEncoder c { r with levels := levels, debt := debt } ∧
      (r.debt < 128000000 ∧ debt = 128000000 → NoticeFrame s.work t.work ∧
        t.work.hasAlarm .reverse (.encoder c)) ∧
      (¬(r.debt < 128000000 ∧ debt = 128000000) → t.work = s.work)

/-- A forward count (R7, R9, R11, R13): it pays off reverse debt, the rest enters the residue, and the odometer
advances by the whole millimetres, at most 66; the fills move by the advance, clamped, and the levels with them. Of an
advance the rest follows (R9): at one of E3 the far-behind check, then the passages of every mark (MarkPassages), at
one of E3 the chain where its last placement found no position, the stand unit, the due test, and at one of E3 the
sheets and the cut test. That the blocks act in this order is the model's choice (log entry 6). -/
def Obligations.ForwardCount : Prop :=
  ∀ (c : Encoder) (levels : QuadLevels) (s : State),
    let r := s.env.encoders[c]
    let pitch := s.env.table.pitch[c]
    let total := r.residue + (pitch - r.debt)
    let n := total / 256000
    let r1 : EncoderRec :=
      { r with
        levels := levels, debt := r.debt - pitch, residue := total % 256000, odo := r.odo + BitVec.ofNat 32 n }
    decodeEdge r.levels levels = .forward → 0 < pitch → pitch ≤ 16777215 → r.residue < 256000 →
    (∀ k : Bridge, s.env.bridges[k].fill ≤ s.env.table.fillMax[k]) →
    n ≤ 66 ∧
    (n = 0 → s.work.atRest →
      exec (.quadratureEdge c levels) s = .next { s with env := s.env.setEncoder c r1 }) ∧
    (0 < n → ∃ t, exec (.quadratureEdge c levels) s = .next t ∧ t.pending = s.pending ∧
      t.env = { s.env.setEncoder c r1 with bridges := t.env.bridges } ∧
      ∀ k : Bridge,
        let b := s.env.bridges[k]
        let fill :=
          if c = 2 then b.fill - n else if c.val = k.val then min (b.fill + n) s.env.table.fillMax[k] else b.fill
        t.env.bridges[k] =
          ⟨fill, if fill = b.fill then b.level else
            bridgeLevel s.env.table.lowThreshold[k] s.env.table.highThreshold[k] s.env.table.levelHysteresis[k] fill
              b.level⟩) ∧
    (0 < n → ∃ t, exec (.quadratureEdge c levels) s = .next t ∧
      let e := t.env
      let x := advanceFills (s.env.setEncoder c { r1 with odo := r.odo }) c n s.work
      let w1 := if c = 2 then x.2.checkFar e.b else x.2
      let w2 := evaluate e (arrive e) false (w1.track.marks.map Mark.entry) none w1
      let w3 := if c = 2 ∧ w2.seq.noPlace = true then extendChain e w2 else w2
      let w4 := settle e (standAdvance e c w3).oweDue
      x.1 = e ∧ NoticeFrame s.work x.2 ∧ t.work = settle e (if c = 2 then settle e (sheetAdvance e w4) else w4))

/-- A period close (R10): the odometer's advance since the last close takes the place of the oldest of ten, and the
speed is five times their sum, at most 20,000. Then the fire conditions are evaluated, and the due test is made, in
that order by the model's choice (log entry 6): with no stand in WATCH and no change to propose, nothing else follows.
That the time base is brought up to the close is the model's choice (log entry 4). -/
def Obligations.SpeedPeriod : Prop :=
  ∀ s : State, ∃ t, exec .speedPeriodClose s = .next t ∧ t.pending = s.pending ∧
    t.env =
      { s.env with
        now := max s.env.now s.env.nextClose, nextClose := s.env.nextClose + 20, encoders := t.env.encoders } ∧
    (∀ c : Encoder,
      let r := s.env.encoders[c]
      let h := r.history.drop 1 ++ [(r.odo - r.lastClose).toInt.toNat]
      t.env.encoders[c] = { r with lastClose := r.odo, history := h, speed := min (5 * h.sum) 20000 }) ∧
    t.work = settle t.env (evalFires t.env s.work).oweDue ∧
    (s.work.calm → (∀ k : Stand, s.work.stands[k].phase ≠ .watch) → s.work.track.uncommittedChanges = [] →
      t.work = s.work)

/-! ## The port unit (chapter 10) -/

/-- The received frame (R163): it is valid when its first byte is 0xD3, its length byte n is at most 120, it holds exactly
7 + n bytes, and its CRC is correct. One that is not is discarded, but for the bytes before the first gap after power-on
(R175): the frame-error count goes up by 1 and holds at 255, the frame-error flag is set, and nothing else changes. -/
def Obligations.FrameValidity : Prop :=
  (∀ bytes : List Byte, (readFrame bytes).isSome = true ↔ ∃ kind tag flags n rest,
    bytes = 0xD3#8 :: kind :: tag :: flags :: n :: rest ∧ n.toNat ≤ 120 ∧ bytes.length = 7 + n.toNat ∧
      rest.drop n.toNat = crcBytes (kind :: tag :: flags :: n :: rest.take n.toNat)) ∧
  ∀ (p : Port) (gap : Bool) (bytes : List Byte) (s : State),
    bytes ≠ [] → (s.env.links[p].framed = true ∨ gap = true) → readFrame bytes = none → s.work.atRest →
    let l : Link :=
      { s.env.links[p] with
        framed := true, frameErrors := min (s.env.links[p].frameErrors + 1) 255, frameErrorFlag := true }
    exec (.receivedFrame p gap bytes) s = .next { s with env := s.env.setLink p l }

/-- Every request frame that a controller writes with a body of at most 120 bytes is read back with its kind, tag, post
flag and body, and no other bytes are read as a request (R162, R163). A number of a body is written most significant
byte first, and is read as it is written (R162, R164). -/
def Obligations.RequestFramesRoundTrip : Prop :=
  (∀ (kind tag flags : Byte) (body : List Byte), body.length ≤ 120 →
    readFrame (writeRequest kind tag flags body) = some ⟨kind, tag, flags.getLsbD 0, body⟩) ∧
  (∀ (bytes : List Byte) (f : Frame), readFrame bytes = some f →
    f.body.length ≤ 120 ∧ ∃ flags, bytes = writeRequest f.kind f.tag flags f.body ∧ f.post = flags.getLsbD 0) ∧
  (∀ v : Nat, putNat 0 v = []) ∧
  (∀ n v : Nat, v < 256 ^ (n + 1) → putNat (n + 1) v = BitVec.ofNat 8 (v / 256 ^ n) :: putNat n (v % 256 ^ n)) ∧
  ∀ (n v : Nat) (rest : List Byte), v < 256 ^ n →
    (putNat n v).length = n ∧ getNat n (putNat n v ++ rest) = some (v, rest)

/-- The checks on a valid frame (R165), in their order: a fifth outstanding request is an overrun and is not answered; an
unknown kind is RANGE; a role that may not send it is DENIED; one not accepted in HOLD is HOLD; too few free entries are
RETRY; otherwise it is queued, and answered ACCEPTED at once where it is posted and no read (R166, R167). -/
def Obligations.Admission : Prop :=
  ∀ (l : Link) (partOpen : Bool) (f : Frame),
    (4 ≤ l.slots.length → l.receive partOpen f = { l with overruns := min (l.overruns + 1) 255 }) ∧
    (l.slots.length < 4 → (∀ r : Request, r.kind ≠ f.kind) →
      l.receive partOpen f = { l with slots := l.slots ++ [⟨f.tag, some (.range, [])⟩] }) ∧
    ∀ r : Request, l.slots.length < 4 → r.kind = f.kind →
      let needed := 1 + (f.body.length + 7) / 8
      (r.permitted l.role = false →
        l.receive partOpen f = { l with slots := l.slots ++ [⟨f.tag, some (.denied, [])⟩] }) ∧
      (r.permitted l.role = true → partOpen = false → r.inHold l.role = false →
        l.receive partOpen f = { l with slots := l.slots ++ [⟨f.tag, some (.hold, [])⟩] }) ∧
      (r.permitted l.role = true → (partOpen = true ∨ r.inHold l.role = true) → l.freeEntries < needed →
        l.receive partOpen f =
          { l with slots := l.slots ++ [⟨f.tag, some (.retry, [])⟩], retries := min (l.retries + 1) 65535 }) ∧
      (r.permitted l.role = true → (partOpen = true ∨ r.inHold l.role = true) → needed ≤ l.freeEntries →
        l.receive partOpen f =
          { l with
            slots := l.slots ++ [⟨f.tag, if f.post && !r.isRead then some (.accepted, []) else none⟩]
            inbound := l.inbound ++ [⟨r, f.tag, f.post && !r.isRead, f.body⟩] })

/-- A valid frame at a port (R163, R165, R169): an OPEN port's timer restarts, a DOWN port becomes OPEN with its timer
running and the return list is offered again (R158), and then the request is admitted or answered. The bytes before the
first gap after power-on are discarded without counting (R175), and the first frame after it is taken as any other. -/
def Obligations.ValidFrame : Prop :=
  (∀ (p : Port) (bytes : List Byte) (s : State), bytes ≠ [] → s.env.links[p].framed = false →
    exec (.receivedFrame p false bytes) s =
      .next { s with env := s.env.setLink p { s.env.links[p] with framed := true } }) ∧
  ∀ (p : Port) (gap : Bool) (bytes : List Byte) (f : Frame) (s : State),
    (s.env.links[p].framed = true ∨ gap = true) → readFrame bytes = some f → s.work.calm →
    let l : Link := { s.env.links[p] with framed := true }
    let running : Link := { l with timer := some (s.env.now + l.timeout) }
    let opened : Link := { running with state := .opened }
    (l.state = .hold → exec (.receivedFrame p gap bytes) s =
      .next { s with env := s.env.setLink p (l.receive s.env.partOpen f) }) ∧
    (l.state = .opened → exec (.receivedFrame p gap bytes) s =
      .next { s with env := s.env.setLink p (running.receive s.env.partOpen f) }) ∧
    (l.state = .down → exec (.receivedFrame p gap bytes) s =
      .next { s with
        env := s.env.setLink p (opened.receive s.env.partOpen f)
        work := reoffer (s.env.setLink p opened) s.work })

/-- Responses. How an applied request is answered (R167, R168): a waited one gives its content to the oldest response not
yet known; a posted one leaves nothing where it is OK, and is the last posted error where it is not. RESPONSE_FRAME
(R162, R165, R167): the oldest response is sent once its content is known, with sync, tag, code, length, body and CRC,
and its request is no longer outstanding. That the frame last sent is kept is the model's choice (log entry 25), and so
is that the command has no effect while there is nothing to send (log entry 26). -/
def Obligations.ResponseSent : Prop :=
  (∀ (p : Port) (s : State),
    (∀ tag c body rest, s.env.links[p].slots = ⟨tag, some (c, body)⟩ :: rest →
      let covered := tag :: c.value :: BitVec.ofNat 8 body.length :: body
      let l : Link := { s.env.links[p] with slots := rest, sent := 0x3D#8 :: covered ++ crcBytes covered }
      exec (.responseFrame p) s = .next { s with env := s.env.setLink p l }) ∧
    (∀ tag rest, s.env.links[p].slots = ⟨tag, none⟩ :: rest → exec (.responseFrame p) s = .next s) ∧
    (s.env.links[p].slots = [] → exec (.responseFrame p) s = .next s)) ∧
  ∀ (e : Env) (p : Port) (q : Queued) (c : Code) (body : List Byte),
    (∀ known tag later, q.posted = false → e.links[p].slots = known ++ ⟨tag, none⟩ :: later →
      (∀ x ∈ known, x.content ≠ none) →
      answered e p q c body =
        e.setLink p { e.links[p] with slots := known ++ ⟨tag, some (c, body)⟩ :: later }) ∧
    (q.posted = true → c = .ok → answered e p q c body = e) ∧
    (q.posted = true → c ≠ .ok → answered e p q c body = e.setLink p
      { e.links[p] with
        lastError := some ⟨c, q.request, q.tag⟩, postedErrors := min (e.links[p].postedErrors + 1) 255 })

/-- PORT_TIMEOUT (R117, R159, R169): an OPEN port goes DOWN, its timer stops, both its queues are emptied, and each
response that a COLLECTING proposal still awaits from its role is NOT_READY; what that completes is settled. Its notices
are given back one by one, the taken stack from the top and then the offer queue by urgency and age: a relayed one is
walked on from the port after it with its lap flag kept, a directed one goes to the return list; and where its floor has
then risen the return list is offered again. What a walk, the return list and a drop do is stated in NoticeDelivery, and
the order by urgency in ReofferTimer. That the time base is brought up to the end time, and that the command has no
effect on a port that is not OPEN, are the model's choices (log entry 4), and so is that the port's notices are given up
before its responses, and a result formed after both (log entry 33). That the re-offer comes after them all is its
choice too (log entry 46). -/
def Obligations.PortGoesDown : Prop :=
  ((∀ (p : Port) (s : State),
    (s.env.links[p].state ≠ .opened → exec (.portTimeout p) s = .next s) ∧
    ∀ x, s.env.links[p].state = .opened → s.env.links[p].timer = some x →
      let e :=
        ({ s.env with now := max s.env.now x } : Env).setLink p { s.env.links[p] with state := .down, timer := none }
      let w := emptyDesk e p s.work
      exec (.portTimeout p) s = .next { s with env := e, work := settle e (w.giveUpAll s.env.links[p].role) } ∧
        w.notices.desks[p] = ⟨[], []⟩ ∧ NoticeFrame s.work w ∧ (s.work.calm → settle e (w.giveUpAll s.env.links[p].role) = w)) ∧
  ∀ (y : Proposal) (r : Role),
    (y.collecting = true → y.response r = some .pending → (y.giveUp r).response r = some .notReady) ∧
    (y.collecting = false ∨ y.response r ≠ some .pending → y.giveUp r = y)) ∧
  (∀ (e : Env) (p : Port) (w : Work),
    let d := w.notices.desks[p]
    let given := (d.taken ++ byUrgency d.offer).foldl (giveBack e p) w
    emptyDesk e p w = if currentFloor e w p < currentFloor e given p then reoffer e given else given) ∧
  ∀ (e : Env) (p : Port) (n : Notice) (w : Work),
    let d := w.notices.desks[p]
    let left := w.setDesk p ⟨d.offer.filter fun m => m.tag ≠ n.tag, d.taken.filter fun m => m.tag ≠ n.tag⟩
    let finished (x : Work × Option Notice) : Work → Prop := fun t =>
      (x.2 = none → t = x.1) ∧
      ∀ y, x.2 = some y → ((recordDrop e y x.1).2 = none → t = (recordDrop e y x.1).1) ∧
        ∀ b, (recordDrop e y x.1).2 = some b → t = post e b none (recordDrop e y x.1).1
    (∀ dest, n.delivery = .directed dest → finished (enterReturn n left) (giveBack e p w n)) ∧
    ∀ start lap, n.delivery = .relayed start lap →
      let r := walk e left n.priority (walkBound e.ring) lap (nextInRing e.ring p)
      let walked : Notice := { n with delivery := .relayed start r.2 }
      (∀ x : Port, r.1 = some x → giveBack e p w n =
        left.setDesk x { left.notices.desks[x] with offer := left.notices.desks[x].offer ++ [walked] }) ∧
      (r.1 = none → finished (enterReturn walked left) (giveBack e p w n))

/-! ## Requests of every role -/

/-- STATUS, READ and PEEK answer and change nothing but their port's answer; STATUS with clear also clears the items of
its own port that R171 marks; a busy port's PEEK is BUSY and one with nothing presentable EMPTY (R152). That a STATUS
counts itself as outstanding and its entries as free is deduced by the model (log entry 37), and that a PEEK's count is
taken at the floor as it stands is its choice (log entry 18). -/
def Obligations.ReadsAnswer : Prop :=
  ∀ (s : State) (p : Port) (q : Queued) (rest : List Queued) (body : List Byte), s.work.atRest →
    let e := popped s.env p rest
    let report := putPartStatus e s.work ++ putLinkStatus e.links[p] s.work.sheet.logOverwrite
    (HeadOf s p q rest .status [] ∨ HeadOf s p q rest .status [0] →
      exec (.status p) s = .next (appliedState s p q .ok report e s.work)) ∧
    (HeadOf s p q rest .status [1] →
      exec (.status p) s = .next (appliedState s p q .ok report
        (e.setLink p
          { e.links[p] with
            frameErrors := 0, frameErrorFlag := false, overruns := 0, retries := 0, lastError := none,
            postedErrors := 0, sensorClamp := false })
        s.work)) ∧
    (HeadOf s p q rest .read body →
      exec (.read p) s =
        .next (appliedState s p q (readReply e s.work body).1 (readReply e s.work body).2 e s.work)) ∧
    (HeadOf s p q rest .peek [] → 4 ≤ s.work.notices.desks[p].taken.length →
      exec (.peek p) s = .next (refusedState s p q rest .busy)) ∧
    (HeadOf s p q rest .peek [] → s.work.notices.desks[p].taken.length < 4 → presentable s.env s.work p = [] →
      exec (.peek p) s = .next (refusedState s p q rest .empty)) ∧
    (∀ before n after, HeadOf s p q rest .peek [] → s.work.notices.desks[p].taken.length < 4 →
      presentable s.env s.work p = before ++ n :: after → (∀ m ∈ before, n.priority < m.priority) →
      (∀ m ∈ after, n.priority ≤ m.priority) →
      exec (.peek p) s =
        .next (appliedState s p q .ok (putTaken n ++ putNat 1 (before ++ after).length) e s.work))

/-- TAKE (R149, R152): BUSY with four notices taken, EMPTY with none presentable; otherwise the most urgent presentable
notice, the oldest among equals, goes from the offer queue to the top of the taken stack. That the count in the response
is of those presentable before the floor falls is the model's choice (log entry 18). DONE (R117, R149, R153): a tag that
names no notice of the port's stack is UNKNOWN; otherwise that notice is finished, and where the current floor of the
port has risen the return list is offered again. A PROPOSAL notice finished so gives its responder's response up, where
that is PENDING and the proposal COLLECTING, and a result that this completes is formed. That the response is given up
before the notice leaves the stack, and the result formed after both, is the model's choice (log entry 33). -/
def Obligations.TakeAndDone : Prop :=
  (∀ (s : State) (p : Port) (q : Queued) (rest : List Queued),
    HeadOf s p q rest .take [] → s.work.atRest →
    let d := s.work.notices.desks[p]
    (4 ≤ d.taken.length → exec (.take p) s = .next (refusedState s p q rest .busy)) ∧
    (d.taken.length < 4 → presentable s.env s.work p = [] →
      exec (.take p) s = .next (refusedState s p q rest .empty)) ∧
    (∀ before n after, d.taken.length < 4 → presentable s.env s.work p = before ++ n :: after →
      (∀ m ∈ before, n.priority < m.priority) → (∀ m ∈ after, n.priority ≤ m.priority) →
      exec (.take p) s =
        .next (appliedState s p q .ok (putTaken n ++ putNat 1 (before ++ after).length) (popped s.env p rest)
          (s.work.setDesk p ⟨d.offer.eraseP fun m => m.tag == n.tag, n :: d.taken⟩)))) ∧
  ∀ (s : State) (p : Port) (q : Queued) (rest : List Queued) (body : List Byte) (tag : Nat),
    HeadOf s p q rest .done body → getOne 2 body = some tag → s.work.atRest →
    let d := s.work.notices.desks[p]
    let e := popped s.env p rest
    ((∀ n ∈ d.taken, n.tag ≠ tag) → exec (.done p) s = .next (refusedState s p q rest .unknown)) ∧
    ∀ before n after, d.taken = before ++ n :: after → (∀ m ∈ before, m.tag ≠ tag) → n.tag = tag →
      let left (w : Work) : Work :=
        let w1 := w.setDesk p ⟨d.offer, before ++ after⟩
        if currentFloor s.env s.work p < currentFloor e w1 p then reoffer e w1 else w1
      ((∀ b x, n.body = .proposal b → n.delivery ≠ .directed (some x)) →
        exec (.done p) s = .next (appliedState s p q .ok [] e (left s.work))) ∧
      ∀ b x, n.body = .proposal b → n.delivery = .directed (some x) →
        let up (y : Proposal) : Proposal := if y.tag = b.tag then y.giveUp s.env.links[x].role else y
        let gave : Work := { s.work with prop := { s.work.prop with list := s.work.prop.list.map up } }
        exec (.done p) s = .next (appliedState s p q .ok [] e (settle e (left gave))) ∧
        ∀ y, y ∈ s.work.prop.list → y.tag = b.tag → (∀ z ∈ s.work.prop.list, z.tag = b.tag → z = y) →
          (y.giveUp s.env.links[x].role).complete = true →
          settle e (left gave) =
            settleLoop e (Config.settleBound - 1) (formResult e (y.giveUp s.env.links[x].role) (left gave))

/-- FLOOR (R149, R150): a value above 16 is RANGE; otherwise the base floor becomes the value, the current floor follows
where the stack is empty and is unchanged where it is not, and where the stack is empty a greater value is a floor rise,
which offers the return list again. -/
def Obligations.FloorSets : Prop :=
  ∀ (s : State) (p : Port) (q : Queued) (rest : List Queued) (v : Byte),
    HeadOf s p q rest .floor [v] → s.work.calm →
    let e : Env := { popped s.env p rest with baseFloors := s.env.baseFloors.set p v.toNat }
    let rises := s.work.notices.desks[p].taken = [] ∧ s.env.baseFloors[p] < v.toNat
    (16 < v.toNat → exec (.floor p) s = .next (refusedState s p q rest .range)) ∧
    (v.toNat ≤ 16 →
      currentFloor e s.work p =
        if s.work.notices.desks[p].taken = [] then v.toNat else currentFloor s.env s.work p) ∧
    (v.toNat ≤ 16 → ¬rises → exec (.floor p) s = .next (appliedState s p q .ok [] e s.work)) ∧
    (v.toNat ≤ 16 → rises → exec (.floor p) s = .next (appliedState s p q .ok [] e (reoffer e s.work)))

/-- REOFFER_TIMER_EXPIRY (R158): the next expiry is set an interval later, and the return list is offered again; with an
empty return list nothing else happens. What offering it again can change: the offer queues, which only gain notices,
and the return list, which only loses some; the taken stacks and the alarm record stay. The entries are taken in order
of urgency, equals as they entered, each once. One that can be placed at its destination, or ends in an untaken match
there, leaves the list; a relayed one is walked from its first port with its lap flag clear; one that cannot be placed
keeps its place. What a walk finds is stated in NoticeDelivery. That the next expiry is counted from the time the last
was due is deduced by the model (log entry 27), and that the time base is brought up to the expiry is its choice (log
entry 4). -/
def Obligations.ReofferTimer : Prop :=
  (∀ s : State, s.work.calm → ∃ t, exec .reofferTimerExpiry s = .next t ∧ t.pending = s.pending ∧
    t.env =
      { s.env with
        now := max s.env.now s.env.reofferAt, reofferAt := s.env.reofferAt + s.env.table.reofferInterval } ∧
    t.work = reoffer t.env s.work ∧ (s.work.notices.returned = [] → t.work = s.work)) ∧
  (∀ (e : Env) (w : Work),
    NoticeFrame w (reoffer e w) ∧ (reoffer e w).alarms = w.alarms ∧
    (∀ p : Port, (reoffer e w).notices.desks[p].taken = w.notices.desks[p].taken) ∧
    (∀ p : Port, ((w.notices.desks[p].offer.map Notice.tag).Sublist
      ((reoffer e w).notices.desks[p].offer.map Notice.tag))) ∧
    (((reoffer e w).notices.returned.map Notice.tag).Sublist (w.notices.returned.map Notice.tag))) ∧
  (∀ (e : Env) (w : Work),
    reoffer e w = ((byUrgency w.notices.returned).map Notice.tag).foldl (reofferOne e) w) ∧
  (∀ l : List Notice, (byUrgency l).Perm l ∧ (byUrgency l).Pairwise (fun x y => x.priority ≤ y.priority) ∧
    ∀ v, ((byUrgency l).filter fun x => x.priority = v) = l.filter fun x => x.priority = v) ∧
  ∀ (e : Env) (w : Work) (earlier later : List Notice) (n : Notice), w.notices.returned = earlier ++ n :: later →
    (∀ m ∈ earlier ++ later, m.tag ≠ n.tag) →
    let t := reofferOne e w n.tag
    let left (offers : Work → Work) : Work :=
      offers { w with notices := { w.notices with returned := earlier ++ later } }
    (n.delivery = .directed none → t = w) ∧
    (∀ p : Port, n.delivery = .directed (some p) →
      let d := w.notices.desks[p]
      let same (m : Notice) : Prop := ∃ x y, n.body = .station x ∧ m.body = .station y ∧
        y.station = x.station ∧ y.markKind = x.markKind ∧ y.action = x.action
      (e.links[p].state ≠ .opened → t = w) ∧
      (∀ front m back, e.links[p].state = .opened → d.offer = front ++ m :: back → (∀ x ∈ front, ¬same x) → same m →
        let merged : Notice := if m.posted < n.posted then { m with body := n.body, posted := n.posted } else m
        t = left fun x => x.setDesk p { d with offer := front ++ merged :: back }) ∧
      (e.links[p].state = .opened → (∀ m ∈ d.offer, ¬same m) →
        (d.offer.length < 16 → t = left fun x => x.setDesk p { d with offer := d.offer ++ [n] }) ∧
        (16 ≤ d.offer.length → t = w))) ∧
    ∀ (start : Option Port) (lap : Bool), n.delivery = .relayed start lap →
      let r := walk e w n.priority (walkBound e.ring) false (firstInRing e.ring start)
      let walked : Notice := { n with delivery := .relayed start r.2 }
      (∀ p, r.1 = some p →
        t = left fun x => x.setDesk p { w.notices.desks[p] with offer := w.notices.desks[p].offer ++ [walked] }) ∧
      (r.1 = none → t = { w with notices := { w.notices with returned := earlier ++ walked :: later } })

/-- What places a notice (R149, R151, R156, R157). Directed: at an OPEN destination a STATION notice ends in its untaken
match, which keeps its place and takes the body posted later; else the notice enters the offer queue, where it holds
fewer than 16; with neither it goes to the return list. Relayed: it is placed at the first port of the ring, from its
first port on, that is OPEN, has room, and has a floor above its priority; at most once past the stop, which sets the
lap flag, and not past it where the flag is set; with no such port it goes to the return list. The return list takes
the notice while it holds fewer than 8; else the later of the least urgent entries makes way for a more urgent notice,
and the notice itself is dropped where it is not. A drop is counted, raises NOTICE_LOST, which itself posts nothing for
an ALARM notice that reports NOTICE_LOST, and gives a PROPOSAL's responder up. -/
def Obligations.NoticeDelivery : Prop :=
  (∀ (e : Env) (n : Notice) (w : Work),
    let full := enterReturn n w
    (n.delivery = .directed none → place e n w = full) ∧
    ∀ p : Port, n.delivery = .directed (some p) →
      let d := w.notices.desks[p]
      let same (m : Notice) : Prop := ∃ x y, n.body = .station x ∧ m.body = .station y ∧
        y.station = x.station ∧ y.markKind = x.markKind ∧ y.action = x.action
      (e.links[p].state ≠ .opened → place e n w = full) ∧
      (∀ before m after, e.links[p].state = .opened → d.offer = before ++ m :: after → (∀ x ∈ before, ¬same x) →
        same m →
        let merged : Notice := if m.posted < n.posted then { m with body := n.body, posted := n.posted } else m
        place e n w = (w.setDesk p { d with offer := before ++ merged :: after }, none)) ∧
      (e.links[p].state = .opened → (∀ m ∈ d.offer, ¬same m) →
        (d.offer.length < 16 → place e n w = (w.setDesk p { d with offer := d.offer ++ [n] }, none)) ∧
        (16 ≤ d.offer.length → place e n w = full))) ∧
  (∀ (e : Env) (w : Work) (n : Notice) (start : Option Port) (lap : Bool), n.delivery = .relayed start lap →
    let r := walk e w n.priority (walkBound e.ring) lap (firstInRing e.ring start)
    let held : Notice := { n with delivery := .relayed start r.2 }
    (∀ p, r.1 = some p → place e n w =
      (w.setDesk p { w.notices.desks[p] with offer := w.notices.desks[p].offer ++ [held] }, none)) ∧
    (r.1 = none → place e n w = enterReturn held w)) ∧
  (∀ r : Ring, r.Ok →
    (∀ p, p ∈ r.ports → firstInRing r (some p) = p) ∧ (∀ p, p ∉ r.ports → some (firstInRing r (some p)) = r.ports.head?) ∧
    some (firstInRing r none) = r.ports.head? ∧
    (∀ before p x after, r.ports = before ++ p :: x :: after → nextInRing r p = x) ∧
    (∀ p, r.ports.getLast? = some p ∨ p ∉ r.ports → some (nextInRing r p) = r.ports.head?)) ∧
  (∀ (e : Env) (w : Work) (priority : Nat) (first : Port) (before after : List Port), e.ring.Ok →
    e.ring.ports = before ++ first :: after →
    let order := first :: after ++ before
    let takes (p : Port) : Prop :=
      e.links[p].state = .opened ∧ w.notices.desks[p].offer.length < 16 ∧ priority < currentFloor e w p
    let visit (lap : Bool) := walk e w priority (walkBound e.ring) lap first
    (∀ passed p later, order = passed ++ p :: later → (∀ x ∈ passed, ¬takes x) → takes p →
      visit false = (some p, decide (e.ring.stop ∈ passed)) ∧
      visit true = if e.ring.stop ∈ passed then (none, true) else (some p, true)) ∧
    ((∀ p ∈ order, ¬takes p) → ∀ lap, visit lap = (none, true))) ∧
  (∀ (n : Notice) (w : Work),
    let held := w.notices.returned
    let holding (l : List Notice) : Work := { w with notices := { w.notices with returned := l } }
    (held.length < 8 → enterReturn n w = (holding (held ++ [n]), none)) ∧
    ∀ before d after, 8 ≤ held.length → held = before ++ d :: after → (∀ x ∈ before, x.priority ≤ d.priority) →
      (∀ x ∈ after, x.priority < d.priority) → (∀ x ∈ before ++ after, x.tag ≠ d.tag) →
      (n.priority < d.priority → enterReturn n w = (holding (before ++ after ++ [n]), some d)) ∧
      (d.priority ≤ n.priority → enterReturn n w = (w, some n))) ∧
  ∀ (e : Env) (d : Notice) (w : Work),
    let t := (recordDrop e d w).1
    t.notices = { w.notices with dropCount := min (w.notices.dropCount + 1) 65535 } ∧
    t.hasAlarm .noticeLost (.noticeClass d.body.cls) ∧
    (∀ b x, d.body = .proposal b → d.delivery = .directed (some x) → t.prop.list =
      w.prop.list.map fun y => if y.tag = b.tag then y.giveUp e.links[x].role else y) ∧
    ((∀ b, d.body ≠ .proposal b) → t.prop = w.prop) ∧
    ((recordDrop e d w).2 = none ↔
      (∃ x c, d.body = .alarm .noticeLost x c) ∨ e.alarmEnables[AlarmKind.noticeLost.index] = false)

/-! ## The planner's settings -/

/-- LINE_TABLE (R1 to R5): STATE outside IDLE or with a mark held; RANGE where a setting names an unknown field or one
named twice, where the candidate fails the field checks, or does not fit the stations or the live orders; otherwise
the candidate is in force and the part CONFIGURED, each fill is cut down to its limit, each level is evaluated once,
and an arrival at the limit raises BRIDGE_FULL. A numbered field that is set is that field and no other (R164). That
an empty list of settings, or one that is cut short, is RANGE is the model's choice (log entry 13). -/
def Obligations.LineTableRequest : Prop :=
  (∀ (t : LineTable) (f v : Nat), (t.setField f v).fields = t.fields.set f v) ∧
  (∀ (known tail : List Byte) (l : List TableSetting) (n : Byte), getSettings tableWidths known = some l →
    34 ≤ n.toNat → getSettings tableWidths (known ++ n :: tail) = none) ∧
  ∀ (s : State) (p : Port) (q : Queued) (rest : List Queued) (body : List Byte),
    HeadOf s p q rest .lineTable body → s.work.calm →
    (s.env.run ≠ .idle ∨ s.work.track.marks ≠ [] →
      exec (.lineTable p) s = .next (refusedState s p q rest .state)) ∧
    (s.env.run = .idle → s.work.track.marks = [] →
      (∀ l, getSettings tableWidths body = some l → l = [] ∨ ¬(l.map TableSetting.field).Nodup) →
      exec (.lineTable p) s = .next (refusedState s p q rest .range)) ∧
    ∀ l : List TableSetting, s.env.run = .idle → s.work.track.marks = [] →
      getSettings tableWidths body = some l → l ≠ [] → (l.map TableSetting.field).Nodup →
      let c := candidateTable s.env.table l
      let fits := c.fieldsOk = true ∧
        (s.env.stationsValid = true → c.spansFit s.env.stations = true ∧
          ∀ (i : StationIx) (st : Station), s.env.stations[i] = some st → c.webFits st = true) ∧
        ∀ o ∈ s.work.seq.live, orderCheck c o.given = none
      (¬fits → exec (.lineTable p) s = .next (refusedState s p q rest .range)) ∧
      (fits → ∃ t, exec (.lineTable p) s = .next t ∧ t.pending = s.pending ∧
        t.env = answered
          { popped s.env p rest with table := c, configured := true, bridges := t.env.bridges } p q .ok [] ∧
        NoticeFrame s.work t.work ∧
        ∀ k : Bridge,
          let b := s.env.bridges[k]
          let fill := min b.fill c.fillMax[k]
          t.env.bridges[k] =
            ⟨fill, bridgeLevel c.lowThreshold[k] c.highThreshold[k] c.levelHysteresis[k] fill b.level⟩ ∧
          (c.fillMax[k] < b.fill → t.work.hasAlarm .bridgeFull (.bridge k)))

/-- STATION_SET (R48, R52, R54): STATE while running; RANGE where a setting is out of range; otherwise the settings
are staged, and with the apply flag the staged set is checked: a set that fails a check stays staged and is answered
with the check's number, and one that passes is in force, with fresh passage flags, no ramps, and the slitters reset.
Which checks name a station index is the model's choice (log entry 21). -/
def Obligations.StationSetRequest : Prop :=
  ∀ (s : State) (p : Port) (q : Queued) (rest : List Queued) (body : List Byte) (l : List RawStation) (flag : Bool),
    HeadOf s p q rest .stationSet body → getStationSet body = some (l, flag) → s.work.atRest →
    (s.env.run = .running → exec (.stationSet p) s = .next (refusedState s p q rest .state)) ∧
    (s.env.run = .idle → settingsOf l = none → exec (.stationSet p) s = .next (refusedState s p q rest .range)) ∧
    ∀ m, s.env.run = .idle → settingsOf l = some m →
      let e : Env := { popped s.env p rest with staged := m.foldl (fun v x => v.set x.1 x.2) s.env.staged }
      (flag = false → exec (.stationSet p) s = .next (appliedState s p q .ok [] e s.work)) ∧
      (∀ n i, flag = true → stationSetCheck e e.staged = some (n, i) →
        exec (.stationSet p) s = .next (appliedState s p q .range (putCheck (n, i)) e s.work)) ∧
      (flag = true → stationSetCheck e e.staged = none →
        let e1 : Env := { e with stations := e.staged, stationsValid := true }
        ∃ t, exec (.stationSet p) s = .next t ∧ t.pending = s.pending ∧ t.env = answered e1 p q .ok [] ∧
          t.work =
            { s.work with
              track := { s.work.track with marks := s.work.track.marks.map (Mark.freshFlags e1) }
              station := t.work.station } ∧
          (∀ i : StationIx, t.work.station.ramps[i] = none) ∧ t.work.station.slitters = ⟨.a, none, none, false, false⟩ ∧
          ∀ i : StationIx, t.work.station.current[i] =
            if keepsCurrent s.env.stations[i] e.staged[i] then s.work.station.current[i] else 0)

/-- RECIPE_SET and PROFILE_SET (R56, R57): a list of recipe values set, of two for one recipe and station the later
one, with RANGE, and nothing set, where any of them is out of range; a profile set, with RANGE for a profile number or
step list out of range. That an empty list of settings is RANGE is the model's choice (log entry 13). SETUP_DONE
(R65): RANGE for no slitter; STATE without a valid station set, for the active slitter, or while a committed swapping
change is still to be swapped; UNKNOWN for no live order; otherwise it is loaded and confirmed. -/
def Obligations.RecipeProfileAndSetup : Prop :=
  (∀ (s : State) (p : Port) (q : Queued) (rest : List Queued) (body : List Byte), s.work.atRest →
    (∀ l, HeadOf s p q rest .recipeSet body → getRecipeSet body = some l →
      let legal (x : List Nat) : Prop := ∃ r i v, x = [r, i, v] ∧ r < 32 ∧ i < 24 ∧ v ≤ 65535
      (l = [] ∨ (∃ x ∈ l, ¬legal x) → exec (.recipeSet p) s = .next (refusedState s p q rest .range)) ∧
      (l ≠ [] → (∀ x ∈ l, legal x) → ∃ table, exec (.recipeSet p) s = .next (appliedState s p q .ok []
          { popped s.env p rest with recipes := table } s.work) ∧
        ∀ (r : Fin 32) (i : Fin 24),
          (∀ before v after, l = before ++ [r.val, i.val, v] :: after → (∀ u, [r.val, i.val, u] ∉ after) →
            table[r][i] = v) ∧
          ((∀ v, [r.val, i.val, v] ∉ l) → table[r][i] = s.env.recipes[r][i]))) ∧
    (∀ n l, HeadOf s p q rest .profileSet body → getProfileSet body = some (n, l) →
      (∀ h : n < 8, profileOk l = true → exec (.profileSet p) s = .next (appliedState s p q .ok []
        { popped s.env p rest with profiles := s.env.profiles.set n l } s.work)) ∧
      (8 ≤ n ∨ profileOk l = false → exec (.profileSet p) s = .next (refusedState s p q rest .range)))) ∧
  ∀ (s : State) (p : Port) (q : Queued) (rest : List Queued) (n hi lo : Byte),
    HeadOf s p q rest .setupDone [n, hi, lo] → s.work.atRest →
    let order := hi.toNat * 256 + lo.toNat
    let pair := s.work.station.slitters
    let blocked := s.env.stationsValid = false ∨ s.work.track.marks.any (unswapped s.env s.work) = true
    let loaded (x : SlitterPair) : State :=
      appliedState s p q .ok [] (popped s.env p rest)
        { s.work with station := { s.work.station with slitters := x } }
    (2 ≤ n.toNat → exec (.setupDone p) s = .next (refusedState s p q rest .range)) ∧
    (n = 0 → (blocked ∨ pair.active = .a → exec (.setupDone p) s = .next (refusedState s p q rest .state)) ∧
      (¬(blocked ∨ pair.active = .a) → s.work.seq.find order = none →
        exec (.setupDone p) s = .next (refusedState s p q rest .unknown)) ∧
      (¬(blocked ∨ pair.active = .a) → s.work.seq.find order ≠ none →
        exec (.setupDone p) s = .next (loaded { pair with loadedA := some order, confirmedA := true }))) ∧
    (n = 1 → (blocked ∨ pair.active = .b → exec (.setupDone p) s = .next (refusedState s p q rest .state)) ∧
      (¬(blocked ∨ pair.active = .b) → s.work.seq.find order = none →
        exec (.setupDone p) s = .next (refusedState s p q rest .unknown)) ∧
      (¬(blocked ∨ pair.active = .b) → s.work.seq.find order ≠ none →
        exec (.setupDone p) s = .next (loaded { pair with loadedB := some order, confirmedB := true })))

/-- CLASS_SET and RELAY_SET (R148, R155): the priority is held at 15 at most; a class that is none of the eight, a
delivery given to SPLICE, PROPOSAL or STATION, and a delivery or a role that is none, are RANGE. A ring is 1 to 4
distinct ports with its stop among them; an empty list, a port above 3, a port named twice, and a stop that is not
listed are RANGE. -/
def Obligations.ClassAndRing : Prop :=
  ∀ (s : State) (p : Port) (q : Queued) (rest : List Queued), s.work.atRest →
    let set (c : NoticeClass) (x : ClassEntry) : State :=
      appliedState s p q .ok (putClassEntry x)
        { popped s.env p rest with classes := s.env.classes.set c.index x } s.work
    (∀ (n v : Byte) (c : NoticeClass), HeadOf s p q rest .classSet [n, v, 0] → classOf n.toNat = some c →
      exec (.classSet p) s = .next (set c ⟨min v.toNat 15, s.env.classes[c.index].delivery⟩)) ∧
    (∀ n v k r : Byte, HeadOf s p q rest .classSet [n, v, 1, k, r] →
      (8 ≤ n.toNat ∨ n.toNat < 3 ∨ 2 ≤ k.toNat ∨ 4 ≤ r.toNat →
        exec (.classSet p) s = .next (refusedState s p q rest .range)) ∧
      ∀ (c : NoticeClass) (role : Role), classOf n.toNat = some c → roleOf r.toNat = some role →
        (c ∈ [.splice, .proposal, .station] → exec (.classSet p) s = .next (refusedState s p q rest .range)) ∧
        (c ∉ [.splice, .proposal, .station] → k = 0 →
          exec (.classSet p) s = .next (set c ⟨min v.toNat 15, .directed role⟩)) ∧
        (c ∉ [.splice, .proposal, .station] → k = 1 →
          exec (.classSet p) s = .next (set c ⟨min v.toNat 15, .relayed role⟩))) ∧
    (∀ n v : Byte, HeadOf s p q rest .classSet [n, v, 0] → 8 ≤ n.toNat →
      exec (.classSet p) s = .next (refusedState s p q rest .range)) ∧
    (∀ (ports : List Byte) (stop : Byte), ports.length < 256 →
      HeadOf s p q rest .relaySet (BitVec.ofNat 8 ports.length :: ports ++ [stop]) →
      ports = [] ∨ (∃ x ∈ ports, 4 ≤ x.toNat) ∨ ¬ports.Nodup ∨ stop ∉ ports →
      exec (.relaySet p) s = .next (refusedState s p q rest .range)) ∧
    (∀ (ports : List Port) (stop : Port),
      HeadOf s p q rest .relaySet
        (BitVec.ofNat 8 ports.length :: ports.map (fun x : Port => BitVec.ofNat 8 x.val) ++ [BitVec.ofNat 8 stop.val]) →
      1 ≤ ports.length → ports.Nodup → stop ∈ ports →
      exec (.relaySet p) s = .next (appliedState s p q .ok []
        { popped s.env p rest with ring := ⟨ports, stop⟩ } s.work))

/-- ALARM_ENABLE (R173): a kind that is none of the 16, nor all of them (255, R164), is RANGE; otherwise the enable of each
kind named takes the value and nothing posted moves; and a raise while its kind is disabled only goes into the record. -/
def Obligations.AlarmEnableRequest : Prop :=
  (∀ (s : State) (p : Port) (q : Queued) (rest : List Queued) (n : Byte) (on : Bool),
    HeadOf s p q rest .alarmEnable [n, if on then 1 else 0] → s.work.atRest →
    (16 ≤ n.toNat → n.toNat ≠ 255 → exec (.alarmEnable p) s = .next (refusedState s p q rest .range)) ∧
    (n.toNat < 16 ∨ n.toNat = 255 → ∃ t, exec (.alarmEnable p) s = .next t ∧ t.pending = s.pending ∧
      t.work = s.work ∧
      t.env = answered { popped s.env p rest with alarmEnables := t.env.alarmEnables } p q .ok [] ∧
      ∀ k : Fin 16, t.env.alarmEnables[k] = if n.toNat = 255 ∨ n.toNat = k.val then on else s.env.alarmEnables[k])) ∧
  (∀ (e : Env) (k : AlarmKind) (x : Subject) (w : Work), e.alarmEnables[k.index] = false →
    (raiseAlarm e k x w).notices = w.notices ∧ (raiseAlarm e k x w).alarms = (w.alarms.log k x).1)

/-- The alarm record. A raise (R172): the entry of its kind and subject is found, or made while the record holds fewer
than 64; its flag is set and its count goes up by 1 and holds at 255; with no entry and no room that is done to the
overflow entry of the kind; and where the kind is enabled an ALARM notice with that count is posted. ALARM_CLEAR (R174):
one kind and subject, one kind with its overflow entry, or all; RANGE for a kind or subject type that is none, UNKNOWN
for a pair with no entry. That a subject of the right type whose value names nothing is UNKNOWN too is the model's
choice (log entry 34). -/
def Obligations.AlarmRaiseAndClear : Prop :=
  (∀ (e : Env) (k : AlarmKind) (x : Subject) (w : Work),
    let a := w.alarms
    let raised (b : AlarmRecord) (count : Nat) : Prop :=
      raiseAlarm e k x w =
        if e.alarmEnables[k.index] = true then post e (.alarm k x count) none { w with alarms := b }
        else { w with alarms := b }
    let here (y : AlarmEntry) : Prop := y.kind = k ∧ y.subject = x
    (∀ earlier y later, a.entries = earlier ++ y :: later → here y → (∀ z ∈ earlier ++ later, ¬here z) →
      raised { a with entries := earlier ++ ⟨k, x, true, min (y.count + 1) 255⟩ :: later } (min (y.count + 1) 255)) ∧
    ((∀ z ∈ a.entries, ¬here z) →
      (a.entries.length < 64 → raised { a with entries := a.entries ++ [⟨k, x, true, 1⟩] } 1) ∧
      (64 ≤ a.entries.length →
        let count := min (a.overflow[k.index].count + 1) 255
        raised { a with overflow := a.overflow.set k.index ⟨true, count⟩ } count))) ∧
  ∀ (s : State) (p : Port) (q : Queued) (rest : List Queued), s.work.atRest →
    let cleared (a : AlarmRecord) : State :=
      appliedState s p q .ok [] (popped s.env p rest) { s.work with alarms := a }
    (HeadOf s p q rest .alarmClear [2] →
      exec (.alarmClear p) s = .next (cleared ⟨[], .replicate 16 ⟨false, 0⟩⟩)) ∧
    (∀ (n : Byte) (k : AlarmKind), HeadOf s p q rest .alarmClear [1, n] → k.index.val = n.toNat →
      exec (.alarmClear p) s = .next (cleared
        ⟨s.work.alarms.entries.filter fun x => x.kind ≠ k, s.work.alarms.overflow.set k.index ⟨false, 0⟩⟩)) ∧
    (∀ n : Byte, HeadOf s p q rest .alarmClear [1, n] → 16 ≤ n.toNat →
      exec (.alarmClear p) s = .next (refusedState s p q rest .range)) ∧
    (∀ (n t hi lo : Byte) (k : AlarmKind) (type : SubjectType), HeadOf s p q rest .alarmClear [0, n, t, hi, lo] →
      k.index.val = n.toNat → type.num = t.toNat →
      let x : Subject := ⟨type, hi.toNat * 256 + lo.toNat⟩
      (type ∉ subjectTypes k → exec (.alarmClear p) s = .next (refusedState s p q rest .range)) ∧
      (type ∈ subjectTypes k → (∀ y ∈ s.work.alarms.entries, ¬(y.kind = k ∧ y.subject = x)) →
        exec (.alarmClear p) s = .next (refusedState s p q rest .unknown)) ∧
      (type ∈ subjectTypes k → (∃ y ∈ s.work.alarms.entries, y.kind = k ∧ y.subject = x) →
        exec (.alarmClear p) s = .next (cleared
          { s.work.alarms with
            entries := s.work.alarms.entries.filter fun y => ¬(y.kind = k ∧ y.subject = x) })))

/-- OPEN (R158, R170): a timeout out of range is RANGE, an UNCONFIGURED part STATE; otherwise each timeout given other
than 0 is the port's, and on a part in HOLD every port becomes OPEN with its timer started and the return list is
offered again, once for each port. That all four ports are OPEN before the first re-offer is the model's choice (log
entry 17). -/
def Obligations.OpenRequest : Prop :=
  ∀ (s : State) (p : Port) (q : Queued) (rest : List Queued) (body : List Byte) (v : Vector Nat 4),
    HeadOf s p q rest .openPart body → exact (getNats [2, 2, 2, 2] body) = some v.toList → s.work.calm →
    let legal := ∀ x : Port, v[x] = 0 ∨ (100 ≤ v[x] ∧ v[x] ≤ 10000)
    let e := popped s.env p rest
    let set (x : Port) : Link := { e.links[x] with timeout := if v[x] = 0 then e.links[x].timeout else v[x] }
    (¬legal → exec (.openPart p) s = .next (refusedState s p q rest .range)) ∧
    (legal → s.env.configured = false → exec (.openPart p) s = .next (refusedState s p q rest .state)) ∧
    (legal → s.env.configured = true → s.env.partOpen = true →
      exec (.openPart p) s =
        .next (appliedState s p q .ok [] { e with links := #v[set 0, set 1, set 2, set 3] } s.work)) ∧
    (legal → s.env.configured = true → s.env.partOpen = false →
      let opened (x : Port) : Link :=
        { set x with state := .opened, timer := some (s.env.now + (set x).timeout) }
      let e1 : Env := { e with partOpen := true, links := #v[opened 0, opened 1, opened 2, opened 3] }
      exec (.openPart p) s =
        .next (appliedState s p q .ok [] e1 (reoffer e1 (reoffer e1 (reoffer e1 (reoffer e1 s.work))))))

/-! ## Stations, bridges and reel stands -/

/-- BRIDGE_SET and the fills (R11 to R14): RANGE for a bridge other than 1 and 2; otherwise the fill takes the value,
clamped, the level is evaluated, and the response returns the fill as held. A change of fill clamps it into 0 to
F_max; an arrival at 0 raises BRIDGE_EMPTY, one at F_max BRIDGE_FULL; the level follows the rows of R13, and a change
into LOW or HIGH raises its alarm; and nothing but the bridge, the notices and the alarm record changes with it. After
a BRIDGE_SET the passages of every mark, the fire conditions and the due test follow (R43, R76, R113), in that order
by the model's choice (log entry 6). The level is evaluated where the fill changes, as at an advance, and at a
BRIDGE_SET and a table's acceptance always. -/
def Obligations.BridgeFills : Prop :=
  (∀ (s : State) (p : Port) (q : Queued) (rest : List Queued) (body : List Byte) (n v : Nat),
    HeadOf s p q rest .bridgeSet body → exact (getNats [1, 4] body) = some [n, v] → s.work.atRest →
    (n ≠ 1 ∧ n ≠ 2 → exec (.bridgeSet p) s = .next (refusedState s p q rest .range)) ∧
    ∀ k : Bridge, n = k.val + 1 →
      let fill := min v s.env.table.fillMax[k]
      let level := bridgeLevel s.env.table.lowThreshold[k] s.env.table.highThreshold[k]
        s.env.table.levelHysteresis[k] fill s.env.bridges[k].level
      let e : Env := { popped s.env p rest with bridges := s.env.bridges.set k ⟨fill, level⟩ }
      let w := (setFill (popped s.env p rest) k v true s.work).2
      let w1 := evaluate e (arrive e) false (w.track.marks.map Mark.entry) none w
      exec (.bridgeSet p) s =
        .next (appliedState s p q .ok (putNat 3 fill) e (settle e (settle e (evalFires e w1).oweDue)))) ∧
  ∀ (e : Env) (k : Bridge) (v : Int) (always : Bool) (w : Work), w.calm →
    let b := e.bridges[k]
    let fill := min v.toNat e.table.fillMax[k]
    let level :=
      if fill ≠ b.fill ∨ always = true then
        bridgeLevel e.table.lowThreshold[k] e.table.highThreshold[k] e.table.levelHysteresis[k] fill b.level
      else b.level
    let x := setFill e k v always w
    x.1 = { e with bridges := e.bridges.set k ⟨fill, level⟩ } ∧ NoticeFrame w x.2 ∧
      (b.fill ≠ 0 → fill = 0 → x.2.hasAlarm .bridgeEmpty (.bridge k)) ∧
      (b.fill ≠ e.table.fillMax[k] → fill = e.table.fillMax[k] → x.2.hasAlarm .bridgeFull (.bridge k)) ∧
      (b.level ≠ .low → level = .low → x.2.hasAlarm .bridgeLow (.bridge k)) ∧
      (b.level ≠ .high → level = .high → x.2.hasAlarm .bridgeHigh (.bridge k)) ∧
      (fill = b.fill → level = b.level → x.2 = w)

/-- STAND_SET (R74) and the level rule (R75). RANGE for no stand, for an unknown setting or one out of range, or for
thresholds out of order; otherwise the named settings are in force, and of the rest only this stand's level and fire
conditions are evaluated; the level is, where a threshold or the hysteresis is named, what the rule gives for the
usable length from the level held. The rule: the raw level is the row of the length; a level at or above the raw level
becomes the raw level; one below it rises, a step at a time, while the length exceeds the level's bound plus the
hysteresis, to the raw level at most. That an empty list of settings, or one that is cut short, is RANGE is the
model's choice (log entry 13). -/
def Obligations.StandSetRequest : Prop :=
  (∀ (s : State) (p : Port) (q : Queued) (rest : List Queued) (body : List Byte), HeadOf s p q rest .standSet body →
    s.work.atRest → (∀ n fields, body = n :: fields → getSettings standWidths fields = none) →
    exec (.standSet p) s = .next (refusedState s p q rest .range)) ∧
  (∀ (s : State) (p : Port) (q : Queued) (rest : List Queued) (n : Byte) (fields : List Byte) (l : List TableSetting),
    HeadOf s p q rest .standSet (n :: fields) → getSettings standWidths fields = some l → s.work.calm →
    (5 ≤ n.toNat → exec (.standSet p) s = .next (refusedState s p q rest .range)) ∧
    ∀ k : Stand, n.toNat = k.val →
      let r := s.work.stands[k]
      let c := candidateSettings s.env.settings[k] l
      let legal := l ≠ [] ∧ (l.map TableSetting.field).Nodup ∧ (∀ x ∈ l, standSettingOk x = true) ∧
        c.arm ≤ c.warn ∧ c.last ≤ c.arm
      let named := ∃ x ∈ l, 6 ≤ x.field ∧ x.field ≤ 9
      (¬legal → exec (.standSet p) s = .next (refusedState s p q rest .range)) ∧
      (legal → ∃ t, exec (.standSet p) s = .next t ∧ t.pending = s.pending ∧
        t.env = answered { popped s.env p rest with settings := s.env.settings.set k c } p q .ok [] ∧
        StandFrame k s.work t.work ∧ (¬named → t.work.stands[k].level = r.level) ∧
        (named → t.work.stands[k].level =
          match s.env.usable k r.running with
          | some u => nextLevel c u r.level
          | none => .normal))) ∧
  (∀ (c : StandSettings) (u : Nat),
    (u = 0 → rawLevel c u = .empty) ∧ (0 < u → u ≤ c.last → rawLevel c u = .last) ∧
    (0 < u → c.last < u → u ≤ c.arm → rawLevel c u = .arm) ∧
    (0 < u → c.last < u → c.arm < u → u ≤ c.warn → rawLevel c u = .warn) ∧
    (0 < u → c.last < u → c.arm < u → c.warn < u → rawLevel c u = .normal)) ∧
  ∀ (c : StandSettings) (u : Nat) (held : ReelLevel),
    let raw := rawLevel c u
    let new := nextLevel c u held
    (raw.rank ≤ held.rank → new = raw) ∧
    (held.rank < raw.rank → held.rank ≤ new.rank ∧ new.rank ≤ raw.rank ∧
      (∀ x : ReelLevel, held.rank ≤ x.rank → x.rank < new.rank → levelBound c x + c.hysteresis < u) ∧
      (new = raw ∨ u ≤ levelBound c new + c.hysteresis))

/-- REEL_LOAD (R70): RANGE for no stand or a field out of range; STATE with a ready reel or while FIRED; otherwise the
reel, its diameter clamped, is the ready reel, or in IDLE on a stand with no running reel the running one, anchored,
with its raw level and no feed start; a clamped diameter sets SENSOR_CLAMP at the sending port. The splice watch is
evaluated at once, and a grade condition found there makes the fire late (R80). REEL_REMOVE (R71): RANGE for no stand or
position; STATE while FIRED, for an absent reel, or for the running reel while RUNNING; otherwise the reel is gone, and
a running one takes the feed start with it and leaves the level NORMAL. DIAMETER (R27, R28, R72, R75): STATE with no
running reel or the unknown one; otherwise the running reel has the diameter, clamped, and is anchored afresh, and the
level is what R75 gives for its usable length from the level held; the response returns the diameter held and the usable
length. -/
def Obligations.ReelRequests : Prop :=
  ((∀ (s : State) (p : Port) (q : Queued) (rest : List Queued) (body : List Byte)
    (n id grade width caliper core diameter : Nat),
    HeadOf s p q rest .reelLoad body →
    exact (getNats [1, 4, 1, 2, 2, 1, 2] body) = some [n, id, grade, width, caliper, core, diameter] → s.work.calm →
    let legal := 1 ≤ id ∧ grade ≤ 255 ∧ 500 ≤ width ∧ width ≤ 3350 ∧ 80 ≤ caliper ∧ caliper ≤ 800 ∧ 70 ≤ core ∧
      core ≤ 200
    let d := min (max diameter core) 1800
    let reel : Reel := ⟨id, grade, width, caliper, core, d⟩
    let e := popped s.env p rest
    let e1 : Env := if diameter = d then e else e.setLink p { e.links[p] with sensorClamp := true }
    (5 ≤ n ∨ ¬legal → exec (.reelLoad p) s = .next (refusedState s p q rest .range)) ∧
    ∀ k : Stand, n = k.val → legal →
      let r := s.work.stands[k]
      (r.ready ≠ none ∨ r.phase.isFired = true → exec (.reelLoad p) s = .next (refusedState s p q rest .state)) ∧
      (r.ready = none → r.phase.isFired = false → s.env.run = .idle → r.running = .none →
        ∃ t, exec (.reelLoad p) s = .next t ∧ t.pending = s.pending ∧
          t.env = answered e1 p q .ok (putNat 1 1 ++ putNat 2 d) ∧
          StandFrame k
            (s.work.setStand k { r with running := .reel reel (s.env.anchorNow k reel), feedStart := none }) t.work ∧
          t.work.stands[k].level = rawLevel s.env.settings[k] (s.env.anchorNow k reel).usable) ∧
      (r.ready = none → r.phase.isFired = false → (s.env.run = .running ∨ r.running ≠ .none) →
        ∃ t, exec (.reelLoad p) s = .next t ∧ t.pending = s.pending ∧
          t.env = answered e1 p q .ok (putNat 1 0 ++ putNat 2 d) ∧
          StandFrame k (s.work.setStand k { r with ready := some reel }) t.work ∧
          t.work = evalFire e1 true k (s.work.setStand k { r with ready := some reel }.rephase))) ∧
  ∀ (s : State) (p : Port) (q : Queued) (rest : List Queued) (n position : Byte),
    HeadOf s p q rest .reelRemove [n, position] → s.work.calm →
    (5 ≤ n.toNat ∨ 2 ≤ position.toNat → exec (.reelRemove p) s = .next (refusedState s p q rest .range)) ∧
    ∀ k : Stand, n.toNat = k.val →
      let r := s.work.stands[k]
      (position = 0 → (r.phase.isFired = true ∨ r.ready = none →
          exec (.reelRemove p) s = .next (refusedState s p q rest .state)) ∧
        (r.phase.isFired = false → r.ready ≠ none →
          ∃ t, exec (.reelRemove p) s = .next t ∧ t.pending = s.pending ∧
            t.env = answered (popped s.env p rest) p q .ok [] ∧
            StandFrame k (s.work.setStand k { r with ready := none }) t.work ∧
            (r.level.armed = true → t.work.hasAlarm .noReadyReel (.stand k)))) ∧
      (position = 1 → (r.phase.isFired = true ∨ s.env.run = .running ∨ r.running = .none →
          exec (.reelRemove p) s = .next (refusedState s p q rest .state)) ∧
        (r.phase.isFired = false → s.env.run = .idle → r.running ≠ .none →
          ∃ t, exec (.reelRemove p) s = .next t ∧ t.pending = s.pending ∧
            t.env = answered (popped s.env p rest) p q .ok [] ∧
            StandFrame k (s.work.setStand k { r with running := .none, feedStart := none }) t.work ∧
            t.work.stands[k].level = .normal))) ∧
  ∀ (s : State) (p : Port) (q : Queued) (rest : List Queued) (body : List Byte) (n d : Nat),
    HeadOf s p q rest .diameter body → exact (getNats [1, 2] body) = some [n, d] → s.work.calm →
    (5 ≤ n → exec (.diameter p) s = .next (refusedState s p q rest .range)) ∧
    ∀ k : Stand, n = k.val →
      let r := s.work.stands[k]
      let e := popped s.env p rest
      (r.running = .none ∨ r.running = .unknown →
        exec (.diameter p) s = .next (refusedState s p q rest .state)) ∧
      ∀ x a, r.running = .reel x a →
        let held := min (max d x.core) 1800
        let y : Reel := { x with diameter := held }
        let length := (held * held - x.core * x.core) * 804249 / (x.caliper * 1024)
        let usable := s.env.standConv k (length - s.env.settings[k].tailReserve)
        let e1 : Env := if d = held then e else e.setLink p { e.links[p] with sensorClamp := true }
        ∃ t, exec (.diameter p) s = .next t ∧ t.pending = s.pending ∧
          t.env = answered e1 p q .ok (putNat 2 held ++ putNat 4 usable) ∧
          StandFrame k
            (s.work.setStand k
              { r with running := .reel y ⟨usable, s.env.encoders[standEncoder k].odo, false⟩ }) t.work ∧
          t.work.stands[k].level = nextLevel s.env.settings[k] usable r.level

/-- JOINT (R81, R83, R84, R87): RANGE for no stand; otherwise the position b + R_s is returned with the tag of the
JOINT mark entered there, of the half-span to each side. On a stand that is not FIRED, with its late-report window
open, that closes the window and nothing else; otherwise it is a joint. A joint, planned or not: the ready reel, or
the unknown reel where there is none, becomes the running reel with a fresh anchor and its raw level, NORMAL for the
unknown reel (R75), the joint is the feed start, and the phase is WATCH or IDLE (R76). What the mark and the mismatch
principle do is stated in MarksEnterTheTrack and RequirementsAndMismatches. -/
def Obligations.JointRequest : Prop :=
  (∀ (s : State) (p : Port) (q : Queued) (rest : List Queued) (n : Byte),
    HeadOf s p q rest .joint [n] → s.work.atRest → s.work.TrackRoom → s.work.track.marks.length < 192 →
    (5 ≤ n.toNat → exec (.joint p) s = .next (refusedState s p q rest .range)) ∧
    ∀ k : Stand, n.toNat = k.val →
      let e := popped s.env p rest
      let j := s.env.b + BitVec.ofInt 32 (s.env.splicerReach k)
      let r := s.work.stands[k]
      let half := s.env.settings[k].halfSpan
      let body := putWord j ++ putNat 2 (assignTag (s.work.track.marks.map Mark.tag) s.work.track.nextTag)
      (r.phase.isFired = false ∧ r.lateWindow ≠ none → exec (.joint p) s =
        .next (appliedState s p q .ok body e
          (settle e (enterMark e (.joint k false) ⟨j + BitVec.ofInt 32 (-(half : Int)), false⟩ (2 * half)
            (s.work.setStand k { r with lateWindow := none })).1))) ∧
      (¬(r.phase.isFired = false ∧ r.lateWindow ≠ none) → exec (.joint p) s =
        .next (appliedState s p q .ok body e (settle e (makeJoint e k j false s.work).1)))) ∧
  ∀ (e : Env) (k : Stand) (j : Word) (estimated : Bool) (w : Work),
    let r := (makeJoint e k j estimated w).1.stands[k]
    r.running = (match w.stands[k].ready with
      | some x => .reel x (e.anchorNow k x)
      | none => .unknown) ∧
    r.level = (match w.stands[k].ready with
      | some x => rawLevel e.settings[k] (e.anchorNow k x).usable
      | none => .normal) ∧
    r.ready = none ∧ r.feedStart = some ⟨j, false⟩ ∧ r.enable = w.stands[k].enable ∧
    r.phase = if r.enable = true ∧ (r.requirement ≠ none ∨ r.level.armed = true) then .watch else .idle

/-- SPLICE_FAIL and STAND_ENABLE (R85, R86): STATE for a stand that is not FIRED; a failed splice leaves the enable
clear and the phase IDLE and raises SPLICE_FAILED. The enable takes the value given, a FIRED stand's splice runs on, and
a cleared enable leaves any other stand IDLE. The expiry of a confirm deadline (R82, R85): by the mode in force the
splice fails, or is confirmed at b_fire + R_fire + lead_fire, with a late-report window in SENSOR_OR_TIMED. The ends of
a pulse and of a late-report window (R67, R84): the line goes low; the window closes. That the time base is brought up
to the end time, and that the commands have no effect on a stand that is not FIRED, on a line that is low and on a stand
with no window, are the model's choices (log entry 4). -/
def Obligations.EnableAndSpliceEnds : Prop :=
  (∀ (s : State) (p : Port) (q : Queued) (rest : List Queued) (k : Stand), s.work.calm →
    let r := s.work.stands[k]
    let e := popped s.env p rest
    let given (on : Bool) : List Byte := [BitVec.ofNat 8 k.val, if on then 1 else 0]
    (∀ n : Byte, HeadOf s p q rest .spliceFail [n] → 5 ≤ n.toNat →
      exec (.spliceFail p) s = .next (refusedState s p q rest .range)) ∧
    (HeadOf s p q rest .spliceFail [BitVec.ofNat 8 k.val] → r.phase.isFired = false →
      exec (.spliceFail p) s = .next (refusedState s p q rest .state)) ∧
    (HeadOf s p q rest .spliceFail [BitVec.ofNat 8 k.val] → r.phase.isFired = true →
      ∃ t, exec (.spliceFail p) s = .next t ∧ t.pending = s.pending ∧ t.env = answered e p q .ok [] ∧
        NoticeFrame (s.work.setStand k { r with enable := false, phase := .idle }) t.work ∧
        t.work.hasAlarm .spliceFailed (.stand k)) ∧
    (∀ n b : Byte, HeadOf s p q rest .standEnable [n, b] → 5 ≤ n.toNat →
      exec (.standEnable p) s = .next (refusedState s p q rest .range)) ∧
    (∀ on, HeadOf s p q rest .standEnable (given on) → r.phase.isFired = true →
      exec (.standEnable p) s =
        .next (appliedState s p q .ok [] e (s.work.setStand k { r with enable := on }))) ∧
    (HeadOf s p q rest .standEnable (given false) → r.phase.isFired = false →
      exec (.standEnable p) s =
        .next (appliedState s p q .ok [] e (s.work.setStand k { r with enable := false, phase := .idle }))) ∧
    (HeadOf s p q rest .standEnable (given true) → r.phase.isFired = false →
      ∃ t, exec (.standEnable p) s = .next t ∧ t.pending = s.pending ∧ t.env = answered e p q .ok [] ∧
        StandFrame k (s.work.setStand k { r with enable := true }) t.work ∧
        (t.work.stands[k].phase = .idle ↔ r.requirement = none ∧ r.level.armed = false))) ∧
  (∀ (k : Stand) (s : State),
    (s.work.stands[k].phase.isFired = false → exec (.confirmDeadlineExpiry k) s = .next s) ∧
    ∀ x, s.work.stands[k].phase = .fired x →
      let e : Env := { s.env with now := max s.env.now x.deadline }
      let j := x.b + BitVec.ofInt 32 (x.reach + x.lead)
      let joined := (makeJoint e k j true s.work).1
      (s.env.settings[k].mode = .sensor → s.work.calm →
        ∃ t, exec (.confirmDeadlineExpiry k) s = .next t ∧ t.pending = s.pending ∧ t.env = e ∧
          NoticeFrame (s.work.setStand k { s.work.stands[k] with enable := false, phase := .idle }) t.work ∧
          t.work.hasAlarm .spliceFailed (.stand k)) ∧
      (s.env.settings[k].mode = .timed →
        exec (.confirmDeadlineExpiry k) s = .next { s with env := e, work := settle e joined }) ∧
      (s.env.settings[k].mode = .sensorOrTimed →
        let opened := { joined.stands[k] with lateWindow := some (e.now + e.settings[k].timeout) }
        exec (.confirmDeadlineExpiry k) s = .next { s with env := e, work := settle e (joined.setStand k opened) })) ∧
  ∀ s : State,
    (∀ c : CueLine, s.work.cues[c] = none → exec (.cuePulseEnd c) s = .next s) ∧
    (∀ (c : CueLine) (x : Nat), s.work.cues[c] = some x → exec (.cuePulseEnd c) s =
      .next { s with
        env := { s.env with now := max s.env.now x }
        work := { s.work with cues := s.work.cues.set c none } }) ∧
    (∀ k : Stand, s.work.stands[k].lateWindow = none → exec (.lateReportWindowEnd k) s = .next s) ∧
    (∀ (k : Stand) (x : Nat), s.work.stands[k].lateWindow = some x → exec (.lateReportWindowEnd k) s =
      .next { s with
        env := { s.env with now := max s.env.now x }
        work := s.work.setStand k { s.work.stands[k] with lateWindow := none } })

/-- The fire (R67, R76 to R80, R84). A fire: the stand is FIRED with the snapshot of b, its reach, its lead, its kind and its
deadline, its late-report window is closed, its cue is high for the pulse width, the SPLICE notice is posted, with the
aim and the tag of the requirement or with the estimated joint and tag 0, and no other stand, mark, order or sheet
changes. When: a stand in WATCH fires where its ready reel suits its requirement and the aim has passed reach and lead
(R77), or where its level is ARM, LAST or EMPTY, it has a ready reel, and the running reel's length is within lead and
runout margin (R78); no other stand fires. A grade fire at the evaluation after one of the events of R80 raises
SPLICE_LATE; such is STAND_ENABLE that sets the enable. -/
def Obligations.FireTakesASnapshot : Prop :=
  (∀ (e : Env) (k : Stand) (w : Work), w.calm →
    let r := w.stands[k]
    let t := fire e k w
    let x : Snapshot :=
      ⟨e.b, e.splicerReach k, e.lead k, if r.readyMeets then .grade else .runout, e.now + e.settings[k].timeout⟩
    let posted (body : NoticeBody) : Work :=
      post e body none (pulse e (standCue k) (w.setStand k { r with phase := .fired x, lateWindow := none }))
    t.stands[k].phase = .fired x ∧ t.stands[k].lateWindow = none ∧
    (∀ (c : CueLine), t.cues[c] = if c.val = k.val then some (e.now + pulseWidth e) else w.cues[c]) ∧
    StandFrame k w t ∧
    (∀ q y, r.requirement = some q → r.ready = some y → y.suits q.grade q.width = true →
      t = posted (.splice k .grade y.id q.aim.val q.changeTag)) ∧
    (∀ y, r.ready = some y → (∀ q, r.requirement = some q → y.suits q.grade q.width = false) →
      t = posted (.splice k .runout y.id (e.b + BitVec.ofInt 32 (e.splicerReach k + e.lead k)) 0))) ∧
  (∀ (e : Env) (sudden : Bool) (k : Stand) (w : Work),
    let r := w.stands[k]
    let grade := ∃ q y, r.requirement = some q ∧ r.ready = some y ∧ y.suits q.grade q.width = true ∧
      e.ahead q.aim ≤ e.splicerReach k + e.lead k
    let runout := (r.level = .arm ∨ r.level = .last ∨ r.level = .empty) ∧ r.ready ≠ none ∧
      ∃ u, e.usable k r.running = some u ∧ u ≤ e.lead k + e.settings[k].runoutMargin
    let t := evalFire e sudden k w
    (r.phase ≠ .watch ∨ (¬grade ∧ ¬runout) → t = w) ∧ (r.phase = .watch → ¬grade → runout → t = fire e k w) ∧
    (r.phase = .watch → grade → sudden = false → t = fire e k w) ∧
    (r.phase = .watch → grade → sudden = true → t = raiseAlarm e .spliceLate (.stand k) (fire e k w) ∧
      t.hasAlarm .spliceLate (.stand k))) ∧
  ∀ (s : State) (p : Port) (q : Queued) (rest : List Queued) (k : Stand) (need : Requirement) (y : Reel),
    HeadOf s p q rest .standEnable [BitVec.ofNat 8 k.val, 1] → s.work.calm →
    let r := s.work.stands[k]
    let e := popped s.env p rest
    r.phase.isFired = false → r.requirement = some need → r.ready = some y → y.suits need.grade need.width = true →
    s.env.ahead need.aim ≤ s.env.splicerReach k + s.env.lead k →
    exec (.standEnable p) s = .next (appliedState s p q .ok [] e
      (raiseAlarm e .spliceLate (.stand k) (fire e k (s.work.setStand k { r with enable := true, phase := .watch }))))

/-- The marks of the stand unit and of START as the track takes them (R31, R33, R34, R35, R40): a mark handed to a track with
room enters with the next free tag, its body, position and span as given and its flags clear, in its place by start, and
nothing else of the part changes; a JOINT, MISMATCH or DEFECT mark still stands in the track with them once it has been
announced and evaluated, and its tag is what its block is told. A MISMATCH closed at a position spans from its start to
there. With fewer than two candidates to merge, a full track does not record a mark, and only raises TRACK_FULL (R36). -/
def Obligations.MarksEnterTheTrack : Prop :=
  ∀ (e : Env) (w : Work), w.TrackRoom →
    let tag := assignTag (w.track.marks.map Mark.tag) w.track.nextTag
    let stands (x : Work) (g : Nat) (body : MarkBody) (start : Pos) (span : Nat) : Prop :=
      ∃ m ∈ x.track.marks, m.tag = g ∧ m.body = body ∧ m.start = start ∧ m.span = span
    (∀ (body : MarkBody) (start : Pos) (span : Nat), w.track.marks.length < 192 →
      let m : Mark := ⟨tag, body, start, span, 0, 0, w.track.entryCount⟩
      (∀ x ∈ w.track.marks, x.tag ≠ tag) ∧
      handIn e body start span w =
        ({ w with track := ⟨insertMark e.b m w.track.marks, succTag tag, w.track.entryCount + 1⟩ }, some m) ∧
      (enterMark e body start span w).2 = some tag ∧
      (body.kind ≠ .change → stands (enterMark e body start span w).1 tag body start span)) ∧
    (∀ (i c : Nat) (start : Pos) (span : Nat), w.track.defects.length < 160 → w.track.marks.length < 192 →
      (enterDefect e i c start span w).2 = (tag, .recorded) ∧
        stands (enterDefect e i c start span w).1 tag (.defect i c) start span) ∧
    (∀ (g : Nat) (m : Mark) (k : Stand) (p : Pos), w.track.find g = some m → m.body = .mismatch k true →
      stands (closeMismatch e g p w) g (.mismatch k false) m.start (e.ahead p - e.ahead m.start).toNat) ∧
    ∀ (body : MarkBody) (start : Pos) (span : Nat), 192 ≤ w.track.marks.length →
      (mergeCandidates e w.track).length < 2 →
      handIn e body start span w = (raiseAlarm e .trackFull (fullSubject body) w, none)

/-- Grade requirements and open mismatches. R88: a stand without a requirement takes one from the first region, among
those of the COMMITTED and ACTIVE marks whose end a joint made now could still reach, whose order its running reel does
not suit; it has none where all such orders are suited. That the region of the order still running counts at a joint
made before its change is deduced by the model (log entry 20). R90: a joint whose new reel suits the requirement clears
it, and no other does; with no open mismatch, the stretch from the joint to the change, or from the change to the end of
the JOINT mark, is a closed MISMATCH. R91: an unsuited joint opens one, at the joint, or at the change of an unmet
requirement that lies before it; a suited joint on a stand with neither leaves all as it is. R89: an open mismatch is
closed at the first change after its start, and not after the joint, whose order the old reel suits; else at the end of
the JOINT mark where the new reel suits the order at the joint; else it stays open. How a close leaves the mark is
stated in MarksEnterTheTrack. R92: at an arrival, a stand whose running reel fed the change closes its open mismatch
there if the reel suits the order that begins, and opens one if it does not. -/
def Obligations.RequirementsAndMismatches : Prop :=
  (∀ (e : Env) (k : Stand) (w : Work),
    let r := w.stands[k]
    let bound := w.track.boundChanges
    let reachable (i : Nat) : Prop := ∀ m : Mark, bound[i + 1]? = some m → e.splicerReach k < e.ahead m.start
    let unsuited (m : Mark) : Prop := ∃ a j, m.pair? = some (a, j) ∧ runningSuits w k r.running j = false
    (r.requirement ≠ none → requirementRule e k w = w) ∧
    (r.requirement = none → (∀ i m, bound[i]? = some m → reachable i → ¬unsuited m) → requirementRule e k w = w) ∧
    ∀ i m a j o, r.requirement = none → bound[i]? = some m → reachable i → m.pair? = some (a, j) →
      runningSuits w k r.running j = false → w.seq.find j = some o →
      (∀ i' m', i' < i → bound[i']? = some m' → reachable i' → ¬unsuited m') →
      (requirementRule e k w).stands[k].requirement = some
        ⟨m.tag, ⟨m.start.val + BitVec.ofInt 32 (-(e.table.aimOffset : Int)), false⟩, o.given.grade k, o.given.width⟩) ∧
  (∀ (e : Env) (k : Stand) (c : JointCase) (w : Work), w.TrackRoom → w.track.marks.length < 192 →
    let r := w.stands[k]
    let t := mismatchAtJoint e k c w
    let tag := assignTag (w.track.marks.map Mark.tag) w.track.nextTag
    let entered (open_ : Bool) (start : Pos) (span : Nat) : Prop :=
      ∃ m ∈ t.track.marks, m.tag = tag ∧ m.body = .mismatch k open_ ∧ m.start = ⟨start.val, false⟩ ∧ m.span = span
    let met := ∃ q, r.requirement = some q ∧ runningMeets r.running q = true
    (met → t.stands[k].requirement = none) ∧ (¬met → t.stands[k].requirement = r.requirement) ∧
    (∀ q o, r.openMismatch = none → r.requirement = some q → met → orderAt e w c.pos = some o →
      e.ahead c.pos < e.ahead (q.change e w) → runningSuits w k r.running o = false →
      entered false c.pos (e.ahead (q.change e w) - e.ahead c.pos).toNat ∧ t.stands[k].openMismatch = none) ∧
    (∀ q, r.openMismatch = none → r.requirement = some q → met → e.ahead (q.change e w) ≤ e.ahead c.pos →
      entered false (q.change e w) (e.ahead c.finish - e.ahead (q.change e w)).toNat ∧
        t.stands[k].openMismatch = none) ∧
    (∀ o, r.openMismatch = none → ¬met → orderAt e w c.pos = some o → runningSuits w k r.running o = false →
      t.stands[k].openMismatch = some tag ∧
        ((∀ q, r.requirement = some q → e.ahead c.pos < e.ahead (q.change e w)) → entered true c.pos 0) ∧
        (∀ q, r.requirement = some q → e.ahead (q.change e w) ≤ e.ahead c.pos → entered true (q.change e w) 0)) ∧
    (r.openMismatch = none → r.requirement = none →
      (∀ o, orderAt e w c.pos = some o → runningSuits w k r.running o = true) → t = w)) ∧
  (∀ (e : Env) (k : Stand) (c : JointCase) (w : Work) (g : Nat) (m : Mark), w.stands[k].openMismatch = some g →
    w.track.find g = some m →
    let settles (x : Mark) : Prop := e.ahead m.start < e.ahead x.start ∧ e.ahead x.start ≤ e.ahead c.pos ∧
      ∃ a j, x.pair? = some (a, j) ∧ runningSuits w k c.old j = true
    let closedAt (p : Pos) : Work :=
      (closeMismatch e g p w).updStand k fun r => { r with openMismatch := none }
    let suited := ∃ o, orderAt e w c.pos = some o ∧ runningSuits w k w.stands[k].running o = true
    (∀ earlier x later, w.track.boundChanges = earlier ++ x :: later → (∀ y ∈ earlier, ¬settles y) → settles x →
      settleOpen e k c w = (closedAt x.start, true)) ∧
    ((∀ y ∈ w.track.boundChanges, ¬settles y) → suited → settleOpen e k c w = (closedAt c.finish, true)) ∧
    ((∀ y ∈ w.track.boundChanges, ¬settles y) → ¬suited → settleOpen e k c w = (w, false))) ∧
  ∀ (e : Env) (t : Pos) (j : Nat) (w : Work) (k : Stand),
    let r := w.stands[k]
    let x := standArrival e t j w k
    let tag := assignTag (w.track.marks.map Mark.tag) w.track.nextTag
    (∀ f, r.feedStart = some f → e.ahead t < e.ahead f → x = w) ∧
    ((∀ f, r.feedStart = some f → e.ahead f ≤ e.ahead t) →
      (runningSuits w k r.running j = true → r.openMismatch = none → x = requirementRule e k w) ∧
      (∀ g, runningSuits w k r.running j = true → r.openMismatch = some g →
        x = requirementRule e k ((closeMismatch e g t w).updStand k fun y => { y with openMismatch := none }) ∧
        x.stands[k].openMismatch = none) ∧
      (runningSuits w k r.running j = false → r.openMismatch ≠ none → x = requirementRule e k w) ∧
      (runningSuits w k r.running j = false → r.openMismatch = none → w.TrackRoom → w.track.marks.length < 192 →
        x.stands[k].openMismatch = some tag ∧
          ∃ m ∈ x.track.marks, m.tag = tag ∧ m.body = .mismatch k true ∧ m.start = ⟨t.val, false⟩ ∧ m.span = 0))

/-! ## Orders and the change chain (chapter 6) -/

/-- START (R108): RANGE for a gap above 100,000 mm; STATE while running, without a valid station set, or with no
QUEUED order in the sequence; otherwise the run is RUNNING and the first change, which leads from order 0 to the first
of the sequence, is handed in COMMITTED, the gap upstream of the knife, in its place in the track; its position and
tag are in the response; it is announced, and then evaluated as the run starts with it (steps 1 to 5); that the
announcement comes first is the model's choice (log entry 42). -/
def Obligations.StartRequest : Prop :=
  ∀ (s : State) (p : Port) (q : Queued) (rest : List Queued) (body : List Byte) (gap : Nat),
    HeadOf s p q rest .start body → getOne 3 body = some gap → s.work.atRest → s.work.TrackRoom →
    let queued := ∃ o ∈ s.work.seq.sequence, orderState s.work o = .queued
    (100000 < gap → exec (.start p) s = .next (refusedState s p q rest .range)) ∧
    (gap ≤ 100000 → (s.env.run = .running ∨ s.env.downstream .knife = none ∨ ¬queued) →
      exec (.start p) s = .next (refusedState s p q rest .state)) ∧
    ∀ g o later, gap ≤ 100000 → s.env.run = .idle → s.env.downstream .knife = some g → queued →
      s.work.seq.sequence = o :: later → s.work.track.marks.length < 192 →
      let e := popped s.env p rest
      let e1 : Env := { e with run := .running }
      let c0 := s.env.b + BitVec.ofInt 32 ((gap : Int) - (g : Int))
      let tag := assignTag (s.work.track.marks.map Mark.tag) s.work.track.nextTag
      let m : Mark := ⟨tag, .change 0 o.tag .committed false, ⟨c0, false⟩, 0, 0, 0, s.work.track.entryCount⟩
      let w : Work :=
        { s.work with track := ⟨insertMark s.env.b m s.work.track.marks, succTag tag, s.work.track.entryCount + 1⟩ }
      let w1 := (announceExtent e m w).beginRun o.tag m
      exec (.start p) s = .next (appliedState s p q .ok (putWord c0 ++ putNat 2 tag) e1
        (settle e1 (extendChain e1 (requirementRules e1 (evaluate e1 (arrive e1) true [m.entry] (some m.entry) w1)))))

/-- ORDER_ADD (R95, R96, R99), in the order of its checks: RANGE with the number of the field check that fails,
TAG_IN_USE, FULL at 32 live orders, UNKNOWN and STATE for the order to be placed before; otherwise the order stands in
its place in the sequence, and the response returns the required cuts. Outside a run nothing else changes. In a run
the chain is extended, or, where the order takes over a start mark, re-planned from it (R104): the uncommitted marks
after it leave the track, it leads to the new order, and it is placed afresh. That check 1 takes only the ranges that
checks 2 to 4 do not name is deduced by the model (log entry 16). -/
def Obligations.OrderAddRequest : Prop :=
  (∀ (s : State) (p : Port) (q : Queued) (rest : List Queued) (body : List Byte) (g : OrderSpec) (place : OrderPlace),
    HeadOf s p q rest .orderAdd body → getOrderAdd body = some (g, place) → s.work.atRest →
    let placed (l : List Order) : State :=
      appliedState s p q .ok (putNat 3 ((g.quantity + g.outs - 1) / g.outs)) (popped s.env p rest)
        { s.work with seq := { s.work.seq with sequence := l, noPlace := false, trackRefused := false } }
    (∀ n, orderCheck s.env.table g = some n →
      exec (.orderAdd p) s = .next (appliedState s p q .range (putNat 1 n) (popped s.env p rest) s.work)) ∧
    (orderCheck s.env.table g = none →
      (s.work.seq.find g.tag ≠ none → exec (.orderAdd p) s = .next (refusedState s p q rest .tagInUse)) ∧
      (s.work.seq.find g.tag = none → 32 ≤ s.work.seq.live.length →
        exec (.orderAdd p) s = .next (refusedState s p q rest .full)) ∧
      (s.work.seq.find g.tag = none → s.work.seq.live.length < 32 →
        (∀ x, place = .before x → s.work.seq.find x = none →
          exec (.orderAdd p) s = .next (refusedState s p q rest .unknown)) ∧
        (∀ x o, place = .before x → s.work.seq.find x = some o →
          ((∃ h ∈ s.work.seq.held, h.tag = o.tag) ∨ o.runningFlag = true ∨
            ∃ m, s.work.startMark o = some m ∧ m.changeState? ≠ some .planned) →
          exec (.orderAdd p) s = .next (refusedState s p q rest .state))) ∧
      (s.work.seq.find g.tag = none → s.work.seq.live.length < 32 → s.work.seq.running = none →
        (place = .tail → exec (.orderAdd p) s = .next (placed (s.work.seq.sequence ++ [Order.fresh g]))) ∧
        (∀ x before o after, place = .before x → s.work.seq.sequence = before ++ o :: after →
          (∀ y ∈ before, y.tag ≠ x) → o.tag = x → admitsBefore s.work o = true → o.startTag = none →
          exec (.orderAdd p) s = .next (placed (before ++ Order.fresh g :: o :: after)))) ∧
      (s.work.seq.find g.tag = none → s.work.seq.live.length < 32 →
        (∀ x, place = .before x → ∃ o, s.work.seq.find x = some o ∧ admitsBefore s.work o = true) →
        exec (.orderAdd p) s = .next (appliedState s p q .ok (putNat 3 ((g.quantity + g.outs - 1) / g.outs))
          (popped s.env p rest) (settle (popped s.env p rest) (addOrder (popped s.env p rest) g place s.work)))))) ∧
  (∀ (e : Env) (g : OrderSpec) (w : Work),
    ((addOrder e g .tail w).seq.sequence.map Order.tag = w.seq.sequence.map Order.tag ++ [g.tag] ∧
      addOrder e g .tail w = extendChain e { w with seq := { w.seq with sequence := w.seq.sequence ++ [Order.fresh g] } }) ∧
    ∀ before o after, w.seq.sequence = before ++ o :: after → (∀ y ∈ before, y.tag ≠ o.tag) →
      let w1 : Work := { w with seq := { w.seq with sequence := before ++ Order.fresh g :: o :: after } }
      (addOrder e g (.before o.tag) w).seq.sequence.map Order.tag =
        before.map Order.tag ++ g.tag :: o.tag :: after.map Order.tag ∧
      (w.startMark o = none → addOrder e g (.before o.tag) w = extendChain e w1) ∧
      ∀ m, w.startMark o = some m → addOrder e g (.before o.tag) w = replan e m.tag g.tag w1) ∧
  ∀ (e : Env) (g k : Nat) (w : Work), w.TrackRoom →
    (∀ x ∈ (marksFrom w.track g).drop 1, (removeLater e g w).track.find x = none) ∧
    (∀ m i j st late, w.track.find g = some m → m.body = .change i j st late →
      (relead g k w).track.find g = some { m with body := .change i k st late }) ∧
    replan e g k w = extendChain e (placeAfresh e g (relead g k (removeLater e g w)))

/-- ORDER_WITHDRAW and ORDER_RELEASE (R96, R100, R101). UNKNOWN for no live order. A withdrawal is STATE for an order that is
COMMITTED or OPEN or whose start is committed, and BUSY while its start or end mark is PROPOSED; otherwise the order, and
no other, leaves the queue: without a start mark nothing changes but that the chain is extended; with one and a
successor its end mark goes and the chain is re-planned; with one and no successor its start mark goes. A release is
STATE for an order that is not HELD; a held one goes to the end of the sequence with nothing of the chain, and the chain
is extended. Outside a run, extending it changes nothing. That a withdrawn order leaves the queue before its start mark
is re-led is the model's choice (log entry 39). -/
def Obligations.WithdrawAndRelease : Prop :=
  (∀ (s : State) (p : Port) (q : Queued) (rest : List Queued) (body : List Byte) (tag : Nat),
    getOne 2 body = some tag → s.work.atRest →
    let e := popped s.env p rest
    let w := s.work
    let others (l : List Order) : List Order := l.filter fun o => o.tag != tag
    let dropped : Work :=
      { w with seq := { w.seq with sequence := others w.seq.sequence, held := others w.seq.held } }
    let done (x : Work) : State := appliedState s p q .ok [] e x
    let quiet (x : Work) : Work := { x with seq := { x.seq with noPlace := false, trackRefused := false } }
    (HeadOf s p q rest .orderWithdraw body → w.seq.find tag = none →
      exec (.orderWithdraw p) s = .next (refusedState s p q rest .unknown)) ∧
    (∀ o, HeadOf s p q rest .orderWithdraw body → w.seq.find tag = some o →
      let bound := orderState w o = .committed ∨ orderState w o = .opened ∨ ∃ m, w.startMark o = some m ∧ m.bound = true
      let proposed := ∃ m, (w.startMark o = some m ∨ w.endMark o = some m) ∧ m.changeState? = some .proposed
      (bound → exec (.orderWithdraw p) s = .next (refusedState s p q rest .state)) ∧
      (¬bound → proposed → exec (.orderWithdraw p) s = .next (refusedState s p q rest .busy)) ∧
      (¬bound → ¬proposed → exec (.orderWithdraw p) s = .next (done (settle e (withdrawOrder e o w)))) ∧
      (¬bound → ¬proposed → w.startMark o = none →
        withdrawOrder e o w = extendChain e dropped ∧
        (w.seq.running = none → exec (.orderWithdraw p) s = .next (done (quiet dropped))))) ∧
    (HeadOf s p q rest .orderRelease body → w.seq.find tag = none →
      exec (.orderRelease p) s = .next (refusedState s p q rest .unknown)) ∧
    (HeadOf s p q rest .orderRelease body → w.seq.find tag ≠ none → (∀ o ∈ w.seq.held, o.tag ≠ tag) →
      exec (.orderRelease p) s = .next (refusedState s p q rest .state)) ∧
    (∀ o, HeadOf s p q rest .orderRelease body → (w.seq.held.find? fun h => h.tag == tag) = some o →
      let released : Work :=
        { w with seq := { w.seq with
          sequence := w.seq.sequence ++
            [{ o with startPos := none, startTag := none, endTag := none, endCommitted := false }]
          held := others w.seq.held } }
      exec (.orderRelease p) s = .next (done (settle e (extendChain e released))) ∧
      (w.seq.running = none → exec (.orderRelease p) s = .next (done (quiet released))))) ∧
  ∀ (e : Env) (o : Order) (w : Work),
    (∀ n, (∃ x ∈ (withdrawOrder e o w).seq.live, x.tag = n) ↔ n ≠ o.tag ∧ ∃ x ∈ w.seq.live, x.tag = n) ∧
    (∀ m, w.startMark o = some m → w.seq.successor o.tag = none →
      withdrawOrder e o w = extendChain e ((removeChange (announce e) w m.tag).dropOrder o.tag)) ∧
    ∀ m k, w.startMark o = some m → w.seq.successor o.tag = some k →
      withdrawOrder e o w = extendChain e (placeAfresh e m.tag (relead m.tag k.tag
        ((removeLater e m.tag (removeEnd e (some o) w)).dropOrder o.tag)))

/-- LINE_RESET (R50, R68, R94, R110, R111, R127, R144, R160): the run is IDLE; the marks, the orders, the proposals,
the schedule, the sheets, the ramps, the requirements, the windows, the splices in flight and the notices are gone;
the tables, the current values, the reels, their levels and enables, the cues, the alarm record, and the completion
log with its flag are kept; each stand is in WATCH where its enable is set at ARM or lower, and else IDLE. That its
fire conditions are not evaluated there is deduced by the model (log entry 32). -/
def Obligations.LineResetRequest : Prop :=
  ∀ (s : State) (p : Port) (q : Queued) (rest : List Queued), HeadOf s p q rest .lineReset [] →
    ∃ t, exec (.lineReset p) s = .next t ∧ t.pending = s.pending ∧
      t.env = answered { popped s.env p rest with run := .idle } p q .ok [] ∧
      t.work =
        { s.work with
          notices := { s.work.notices with desks := t.work.notices.desks, returned := [] }
          track := { s.work.track with marks := [] }
          station := ⟨s.work.station.current, t.work.station.ramps, ⟨.a, none, none, false, false⟩⟩
          stands := t.work.stands
          seq := ⟨[], [], none, false, false⟩
          prop := { s.work.prop with list := [] }
          sheet := { s.work.sheet with schedule := none, sheets := [] }
          owed := ⟨false, false⟩ } ∧
      (∀ x : Port, t.work.notices.desks[x] = ⟨[], []⟩) ∧ (∀ i : StationIx, t.work.station.ramps[i] = none) ∧
      ∀ k : Stand,
        let r := s.work.stands[k]
        t.work.stands[k] =
          { r with
            feedStart := none, requirement := none, openMismatch := none, lateWindow := none
            phase := if r.enable = true ∧ r.level.armed = true then .watch else .idle }

/-- LOG_TAKE and the log (R139, R140): an empty log is EMPTY; otherwise the oldest record is in the response with the number
that remain, and leaves the log, whose LOG_OVERWRITE flag is cleared with its last record. It is never posted. A record
written to a log of 16 discards the oldest and sets the flag. -/
def Obligations.LogTakeRequest : Prop :=
  (∀ (s : State) (p : Port) (q : Queued) (rest : List Queued), HeadOf s p q rest .logTake [] → s.work.atRest →
    (s.work.sheet.log = [] → exec (.logTake p) s = .next (refusedState s p q rest .empty)) ∧
    ∀ r later, s.work.sheet.log = r :: later →
      exec (.logTake p) s = .next (appliedState s p q .ok (putCompletion r ++ putNat 1 later.length)
        (popped s.env p rest)
        { s.work with sheet :=
          { s.work.sheet with
            log := later, logOverwrite := if later = [] then false else s.work.sheet.logOverwrite } })) ∧
  (∀ (l : Link) (f : Frame), (l.enqueue .logTake f).inbound = l.inbound ++ [⟨.logTake, f.tag, false, f.body⟩]) ∧
  ∀ (r : Completion) (u : SheetUnit),
    (u.log.length < 16 → writeLog r u = { u with log := u.log ++ [r] }) ∧
    (16 ≤ u.log.length → writeLog r u = { u with log := u.log.tail ++ [r], logOverwrite := true })

/-- Placement (R30, R105): it answers the earliest feasible position, or the planned cuts where those lie beyond it,
whenever that is within the horizon, and none otherwise. A position found lies a whole number of the order's cuts after
its start, at least the order's planned cuts, at least the due distance and at most the horizon ahead; and where the
planned cuts are raised, one cut fewer would lie within the due distance. The distances are compared unreduced (deduced
by the model, log entry 10), and for a start that is far behind they are formed from the far-behind value (its choice,
log entry 38). Extension (R103): it keeps the plan window within 8 marks, and each mark it enters is PLANNED and leads
from an order to its successor. With room in the window and the track, and a position, it creates the end mark of the
first order that R103 names, whose planned cuts are its required, extra and added cuts, links both orders to it, and
goes on. -/
def Obligations.PlacementIsFeasible : Prop :=
  ((∀ (e : Env) (q : Sequencer) (o : Order) (j : Nat) (start : Pos) (x : Placed),
    o.startPos = some start → 1 ≤ o.given.length → placement e q o j = some x →
    let len : Int := o.given.length
    x.pos.val = start.val + BitVec.ofInt 32 (x.planned * len) ∧ o.planned ≤ x.planned ∧
      dueDistance e q o.tag j ≤ e.ahead start + x.planned * len ∧ e.ahead start + x.planned * len ≤ 1000000000 ∧
      (o.planned < x.planned → 1 < x.planned → e.ahead start + (x.planned - 1) * len < dueDistance e q o.tag j)) ∧
  ∀ (e : Env) (w : Work), w.TrackRoom →
    (extendChain e w).track.window.length ≤ max 8 w.track.window.length ∧
    ∀ m ∈ (extendChain e w).track.marks, (∀ x ∈ w.track.marks, x.tag ≠ m.tag) →
      ∃ i j k, m.body = .change i j .planned false ∧ w.seq.successor i = some k ∧ k.tag = j) ∧
  (∀ (e : Env) (q : Sequencer) (o : Order) (j n : Nat) (start : Pos),
    let len : Int := o.given.length
    let due := dueDistance e q o.tag j
    (o.startPos = none → placement e q o j = none) ∧
    (o.startPos = some start → 1 ≤ o.given.length → 1 ≤ n → due ≤ e.ahead start + n * len →
      (∀ n' : Nat, 1 ≤ n' → n' < n → e.ahead start + n' * len < due) →
      let cuts := max o.planned n
      (e.ahead start + cuts * len ≤ 1000000000 →
        placement e q o j = some ⟨⟨start.val + BitVec.ofInt 32 (cuts * len), false⟩, cuts⟩) ∧
      (1000000000 < e.ahead start + cuts * len → placement e q o j = none))) ∧
  ∀ (e : Env) (w : Work) (passed first later : List Order) (i j : Order) (p : Placed), w.TrackRoom →
    w.track.window.length < 8 → w.track.marks.length < 192 → (w.seq.sequence.map Order.tag).Nodup →
    w.seq.sequence = passed ++ (first ++ i :: j :: later) → (∀ o ∈ passed, w.seq.running ≠ some o.tag) →
    (∀ o, (first ++ [i]).head? = some o → w.seq.running = some o.tag) →
    (∀ o ∈ first, o.startPos = none ∨ o.endTag ≠ none ∨ o.endCommitted = true) →
    i.startPos ≠ none → i.endTag = none → i.endCommitted = false →
    let planned := i.given.required + i.given.extra + i.added
    placement e w.seq { i with planned := planned } j.tag = some p →
    let tag := assignTag (w.track.marks.map Mark.tag) w.track.nextTag
    let m : Mark := ⟨tag, .change i.tag j.tag .planned false, p.pos, 0, 0, 0, w.track.entryCount⟩
    let ended (o : Order) : Order := { o with planned := p.planned, endTag := some tag }
    let begun (o : Order) : Order := { o with startTag := some tag, startPos := some p.pos }
    let entered : Work :=
      { w with
        track := ⟨insertMark e.b m w.track.marks, succTag tag, w.track.entryCount + 1⟩
        seq := ({ w.seq with noPlace := false, trackRefused := false }.update i.tag ended).update j.tag begun
        owed := { w.owed with extend := false } }
    let told := announceExtent e m entered
    extendChain e w = extendLoop e 31 (evaluateOne e m.entry { told with owed := { told.owed with due := true } })

/-- Moves and holds (R39, R105 to R107). A move of an order by c cuts: refused where its end mark is bound, kept in its added
cuts where it has none; otherwise its added and planned cuts go up by c, and its end mark and each later uncommitted mark are
placed again: each takes its place at its placement, its order's planned cuts and the next order's start with it, and the
first that finds no position leaves the track with all after it. Placing keeps the marks of the track. A mark that leaves
clears the end of one order and the start of the other. A refused order goes to the end of the held list, without start or end
mark; its end mark leaves, and the mark refused leads to its successor, the chain re-planned from there, or leaves the
track where it has none. -/
def Obligations.MovesAndHolds : Prop :=
  (∀ (e : Env) (announce : Work → Work) (i c : Nat) (w : Work) (o : Order), w.seq.find i = some o →
    (o.endTag = none →
      moveOrder e announce i c w = (w.updOrder i fun x => { x with added := x.added + c }, .kept)) ∧
    ∀ g, o.endTag = some g →
      let open_ := ∃ m, w.track.find g = some m ∧ m.uncommitted = true
      (¬open_ → moveOrder e announce i c w = (w, .refused)) ∧
      (open_ →
        let tags := (w.track.uncommittedChanges.map Mark.tag).dropWhile fun x => x ≠ g
        let placed :=
          placeMarks e tags 0 (w.updOrder i fun x => { x with added := x.added + c, planned := x.planned + c })
        moveOrder e announce i c w =
          (announce^[placed.moved] (removeChanges announce placed.unplaced placed.work), .moved))) ∧
  (∀ (e : Env) (tags : List Nat) (n : Nat) (w : Work), w.TrackRoom →
    let x := placeMarks e tags n w
    (∃ placed, tags = placed ++ x.unplaced) ∧ (x.work.track.marks.map Mark.tag).Perm (w.track.marks.map Mark.tag) ∧
    x.work.seq.held.map Order.tag = w.seq.held.map Order.tag ∧
    x.work.seq.sequence.map (fun o => (o.tag, o.added)) = w.seq.sequence.map fun o => (o.tag, o.added)) ∧
  (∀ (e : Env) (g : Nat) (rest : List Nat) (n : Nat) (w : Work) (m : Mark) (i j : Nat) (o : Order),
    w.track.find g = some m → m.uncommitted = true → m.pair? = some (i, j) → w.seq.find i = some o →
    (placement e w.seq o j = none →
      placeMarks e (g :: rest) n w = ⟨{ w with seq := { w.seq with noPlace := true } }, n, g :: rest⟩) ∧
    ∀ p, placement e w.seq o j = some p →
      let accepted := (∀ x ∈ w.track.boundChanges, e.ahead x.start < e.ahead p.pos) ∧ 0 < e.ahead p.pos
      (¬accepted → placeMarks e (g :: rest) n w = placeMarks e rest n w) ∧
      (accepted → placeMarks e (g :: rest) n w = placeMarks e rest (n + 1)
        { w with
          track :=
            { w.track with
              marks := insertMark e.b { m with start := p.pos } (w.track.marks.filter fun x => x.tag ≠ g) }
          seq :=
            (w.seq.update i fun x => { x with planned := p.planned }).update j fun x => { x with startPos := some p.pos }
          owed := { w.owed with due := true } })) ∧
  (∀ (announce : Work → Work) (w : Work) (g : Nat) (m : Mark) (i j : Nat), w.track.find g = some m →
    m.uncommitted = true → m.pair? = some (i, j) →
    let w1 := withdrawFor g w
    removeChange announce w g = announce
      { w1 with
        track := { w1.track with marks := w1.track.marks.filter fun x => x.tag ≠ g }
        seq :=
          (w1.seq.update i fun x => { x with endTag := none }).update j
            fun x => { x with startTag := none, startPos := none }
        owed := ⟨true, true⟩ }) ∧
  ∀ (e : Env) (g : Nat) (w : Work) (o : Order) (earlier later : List Order),
    w.seq.sequence = earlier ++ o :: later → (∀ x ∈ earlier ++ later, x.tag ≠ o.tag) →
    let freed : Order := { o with startPos := none, startTag := none, endTag := none, endCommitted := false }
    let w0 : Work := { w with seq := { w.seq with sequence := earlier ++ later, held := w.seq.held ++ [freed] } }
    let ending (t : Work → Work) : Prop :=
      (o.endTag = none → refusalHold e g o.tag w = t w0) ∧
      ∀ x, o.endTag = some x → refusalHold e g o.tag w = t (removeChange (announce e) w0 x)
    (later = [] → ending fun x => extendChain e (removeChange (announce e) x g)) ∧
    ∀ k rest, later = k :: rest →
      ending (fun x => extendChain e (placeAfresh e g (relead g k.tag (removeLater e g x)))) ∧
      ∀ (x : Work) (m : Mark) (a b : Nat) (st : ChangeState) (late : Bool), x.track.find g = some m →
        m.body = .change a b st late →
        relead g k.tag x =
          { x with
            track := x.track.update g fun y => { y with body := .change a k.tag st late }
            seq :=
              (x.seq.update b fun y => { y with startTag := none, startPos := none }).update k.tag
                fun y => { y with startTag := some g, startPos := some m.start }
            owed := { x.owed with due := true } }

/-! ## Change proposals (chapter 7) -/

/-- RESPOND (R116): RANGE for no answer; UNKNOWN where the port's role has no part in an outstanding proposal of the
tag; STATE where its response is no longer PENDING or the proposal is not COLLECTING; otherwise its response is
recorded, and while another response is PENDING nothing else of the proposal changes. Its PROPOSAL notice is finished,
and where it was the last response the combined result is formed. That a floor rise re-offers before the result is
formed is the model's choice (log entry 33). -/
def Obligations.RespondRequest : Prop :=
  ∀ (s : State) (p : Port) (q : Queued) (rest : List Queued) (body : List Byte) (tag n : Nat),
    HeadOf s p q rest .respond body → exact (getNats [2, 1] body) = some [tag, n] → s.work.atRest →
    let role := s.env.links[p].role
    let answers (c : Code) (x : ProposalUnit) : Prop :=
      ∃ t, exec (.respond p) s = .next t ∧ t.pending = s.pending ∧
        t.env = answered (popped s.env p rest) p q c [] ∧ t.work.prop = x ∧ NoticeFrame s.work t.work ∧
        t.work.alarms = s.work.alarms
    (answerOf n = none → exec (.respond p) s = .next (refusedState s p q rest .range)) ∧
    ∀ x, answerOf n = some x →
      (s.work.proposal tag = none → answers .unknown s.work.prop) ∧
      ∀ y, s.work.proposal tag = some y →
        (y.response role = none → answers .unknown s.work.prop) ∧
        (y.response role ≠ none → (y.collecting = false ∨ y.response role ≠ some .pending) →
          answers .state s.work.prop) ∧
        (y.collecting = true → y.response role = some .pending →
          (∀ z ∈ s.work.prop.list, z.tag = tag → (z.setResponse role x).complete = false) →
          answers .ok (s.work.updProposal tag fun z => z.setResponse role x).prop) ∧
        (y.collecting = true → y.response role = some .pending →
          let e := popped s.env p rest
          let given := finishProposal e p tag (s.work.updProposal tag fun z => z.setResponse role x)
          exec (.respond p) s = .next (appliedState s p q .ok [] e (settle e given)) ∧
          (∀ m ∈ given.notices.desks[p].offer, m.isProposal tag = false) ∧
          ((∀ z ∈ s.work.prop.list, z.tag = tag → z = y) → (y.setResponse role x).complete = true →
            settle e given = settleLoop e (Config.settleBound - 1) (formResult e (y.setResponse role x) given)))

/-- The results of a proposal (R119): the first row that applies, by scope; the record that a result is formed in is
DECIDED, with a response still PENDING counted as NOT_READY, where no notice is dropped; the untaken PROPOSAL notices of
the issue are removed and a RESULT notice is posted; a WIDENED result (R123) is issued again at once under scope LINE,
in its place. That a WIDENED result posts a RESULT notice is deduced by the model (log entry 22).
PROPOSAL_DEADLINE_EXPIRY forms it. That the time base is brought up to the deadline, and that the command has no effect
for a record that is gone or no longer COLLECTING, are the model's choices (log entry 4). The internal responder (R118):
no part in a KNIFE proposal; the slitter check for DRY, and for LINE where the orders differ in slit widths or score
code, is that the idle slitter is loaded for the beginning order and confirmed; the stand check for LINE is that each
stand whose running reel does not suit that order (R69) is enabled, has a ready reel that does, has no requirement, and
has the aim beyond its reach and lead. -/
def Obligations.ProposalResults : Prop :=
  ((∀ l : List Partial,
    combined .knife l = .committed ∧
    (.refuse ∈ l → combined .dry l = .refused ∧ combined .line l = .refused) ∧
    (.refuse ∉ l → .widen ∈ l → combined .dry l = .widened ∧ combined .line l = .deferred) ∧
    (.refuse ∉ l → .widen ∉ l → .notReady ∈ l → combined .dry l = .deferred ∧ combined .line l = .deferred) ∧
    (.refuse ∉ l → .widen ∉ l → .notReady ∉ l → combined .dry l = .committed ∧ combined .line l = .committed)) ∧
  (∀ (e : Env) (y : Proposal) (w : Work),
    let close (x : Option Partial) : Option Partial := if x = some .pending then some .notReady else x
    let inner := internalAnswer e w y
    let r := combined y.scope (inner.toList ++ (close y.dry).toList ++ (close y.wet).toList)
    r ≠ .widened → w.notices.returned.length < 8 →
    (formResult e y w).prop.list = w.prop.list.map fun z =>
      if z.tag = y.tag then
        { y with internal := inner, dry := close y.dry, wet := close y.wet, status := .decided r false }
      else z) ∧
  (∀ (e : Env) (y : Proposal) (w : Work) (i j : Nat), w.pairOf y.changeTag = some (i, j) →
    let close (x : Option Partial) : Option Partial := if x = some .pending then some .notReady else x
    let inner := internalAnswer e w y
    let r := combined y.scope (inner.toList ++ (close y.dry).toList ++ (close y.wet).toList)
    let formed : Proposal :=
      { y with internal := inner, dry := close y.dry, wet := close y.wet, status := .decided r false }
    let count := if r = .deferred then y.deferrals + 1 else y.deferrals
    let told := post e (.result ⟨y.tag, y.changeTag, i, j, r, count, false⟩) none
      (removeUntaken y.tag (w.updProposal y.tag fun _ => formed))
    (r ≠ .widened → formResult e y w = told) ∧ (r = .widened → formResult e y w = issue e y.tag .line told)) ∧
  ∀ (tag : Nat) (s : State),
    (s.work.proposal tag = none → exec (.proposalDeadlineExpiry tag) s = .next s) ∧
    ∀ y, s.work.proposal tag = some y →
      (y.collecting = false → exec (.proposalDeadlineExpiry tag) s = .next s) ∧
      ∀ x, y.status = .collecting x →
        let e : Env := { s.env with now := max s.env.now x }
        exec (.proposalDeadlineExpiry tag) s = .next { s with env := e, work := settle e (formResult e y s.work) }) ∧
  ∀ (e : Env) (w : Work) (y : Proposal) (m : Mark) (i j : Nat), w.track.find y.changeTag = some m →
    m.pair? = some (i, j) →
    let pair := w.station.slitters
    let slitter := match pair.active with
      | .a => pair.loadedB = some j ∧ pair.confirmedB = true
      | .b => pair.loadedA = some j ∧ pair.confirmedA = true
    let stands := ∀ k : Stand,
      let r := w.stands[k]
      runningSuits w k r.running j = true ∨
        (r.enable = true ∧ (∃ x, r.ready = some x ∧ reelSuits w k x j = true) ∧ r.requirement = none ∧
          e.splicerReach k + e.lead k < e.ahead (m.start.plus (-(e.table.aimOffset : Int))))
    let differs := ∃ a b, w.seq.find i = some a ∧ w.seq.find j = some b ∧
      (a.given.slits ≠ b.given.slits ∨ a.given.score ≠ b.given.score)
    let answers (ready : Prop) : Prop :=
      (ready → internalAnswer e w y = some .ready) ∧ (¬ready → internalAnswer e w y = some .notReady)
    (y.scope = .knife → internalAnswer e w y = none) ∧ (y.scope = .dry → answers slitter) ∧
    (y.scope = .line → answers ((differs → slitter) ∧ stands)) ∧
    ∀ (k : Stand) (x : Reel), (reelSuits w k x j = true ↔
        ∃ o, w.seq.find j = some o ∧ x.grade = o.given.grade k ∧ x.grade ≠ 0 ∧ x.width = o.given.width) ∧
      ∀ z : Running, runningSuits w k z j = true ↔ ∃ v a, z = .reel v a ∧ reelSuits w k v j = true

/-- The effects of results (R120 to R122, R124, R125). A result takes effect exactly where its record comes first in the list
and is decided COMMITTED, DEFERRED or REFUSED. COMMITTED: the mark, with every CHANGE before it committed, is COMMITTED
and evaluated, the ending order's end is committed, the requirement rule is applied to every stand, and the record
leaves. DEFERRED: the younger records are withdrawn, the deferral is counted in the record and the ending order; within
the limit the record waits for the retry distance and the ending order moves by one cut; beyond it CHANGE_STALLED is
raised, a second RESULT notice says so, and the refusal takes effect. REFUSED: the younger records are withdrawn, the
mark is PLANNED again, the record leaves, and the sequencer holds the order that would begin. A withdrawal takes the
younger records and their untaken notices away, and leaves none of their marks PROPOSED. That a refusal by the limit
removes the untaken notices of its issue is deduced by the model (log entry 23). -/
def Obligations.ProposalEffects : Prop :=
  (∀ (e : Env) (w : Work),
    takeEffect e w = none ↔ ∀ y ∈ w.prop.list.head?, ∀ r stalled, y.status = .decided r stalled → r = .widened) ∧
  (∀ (e : Env) (y : Proposal) (rest : List Proposal) (stalled : Bool) (w : Work) (m : Mark) (i j : Nat)
    (before after : List Mark), w.prop.list = y :: rest → y.status = .decided .committed stalled →
    w.track.marks = before ++ m :: after → (∀ x ∈ before, x.tag ≠ m.tag ∧ x.uncommitted = false) →
    m.tag = y.changeTag → m.changeState? = some .proposed → m.pair? = some (i, j) →
    let w1 := evaluate e (arrive e) true [m.entry] (some m.entry)
      { w with track := w.track.update m.tag fun x => x.withState .committed }
    let w2 := requirementRules e (w1.updOrder i fun o => { o with endCommitted := true })
    takeEffect e w = some
      { w2 with
        prop := { w2.prop with list := w2.prop.list.filter fun z => z.tag != y.tag }
        owed := { w2.owed with due := true } }) ∧
  (∀ (e : Env) (y : Proposal) (rest : List Proposal) (stalled : Bool) (w : Work) (i j : Nat),
    w.prop.list = y :: rest → y.status = .decided .deferred stalled → w.pairOf y.changeTag = some (i, j) →
    let w1 := withdrawYounger y.changeTag w
    let w2 : Work :=
      { w1.updOrder i (fun o => { o with deferrals := o.deferrals + 1 }) with
        prop := { w1.prop with list := w1.prop.list.map fun z =>
          (if z.changeTag = y.changeTag then { z with deferrals := z.deferrals + 1 } else z) } }
    let retry := (⟨e.b + BitVec.ofNat 32 e.table.retryDistance, false⟩ : Pos)
    (y.deferrals + 1 ≤ e.table.deferralLimit → takeEffect e w =
      some (moveAndAnnounce e i 1 (w2.updProposal y.tag fun z => { z with status := .waiting retry }))) ∧
    (e.table.deferralLimit < y.deferrals + 1 → takeEffect e w = some (stall e y (y.deferrals + 1) w2))) ∧
  (∀ (e : Env) (y : Proposal) (n : Nat) (w : Work) (i j : Nat), w.pairOf y.changeTag = some (i, j) →
    let w1 := raiseAlarm e .changeStalled (.order j)
      (removeUntaken y.tag (w.updProposal y.tag fun z => { z with status := .decided .refused true }))
    w1.hasAlarm .changeStalled (.order j) ∧
    stall e y n w = effectRefused e y (post e (.result ⟨y.tag, y.changeTag, i, j, .refused, n, true⟩) none w1)) ∧
  (∀ (e : Env) (y : Proposal) (rest : List Proposal) (stalled : Bool) (w : Work), w.prop.list = y :: rest →
    y.status = .decided .refused stalled → takeEffect e w = some (effectRefused e y w)) ∧
  (∀ (e : Env) (y : Proposal) (w : Work) (i j : Nat), w.pairOf y.changeTag = some (i, j) →
    let w1 := withdrawYounger y.changeTag w
    let planned (x : Mark) : Mark := if x.changeState? = some .proposed then x.withState .planned else x
    effectRefused e y w = refusalHold e y.changeTag j
      { w1 with
        track := w1.track.update y.changeTag planned
        prop := { w1.prop with list := w1.prop.list.filter fun z => z.tag != y.tag }
        owed := { w1.owed with due := true } }) ∧
  ∀ (y : Proposal) (rest : List Proposal) (w : Work), w.prop.list = y :: rest →
    ((y :: rest).map Proposal.changeTag).Nodup →
    let t := withdrawYounger y.changeTag w
    t.prop.list = [y] ∧ t.seq = w.seq ∧ t.stands = w.stands ∧ t.sheet = w.sheet ∧ t.cues = w.cues ∧
    t.track.find y.changeTag = w.track.find y.changeTag ∧
    ∀ z ∈ rest, (∀ m, t.track.find z.changeTag = some m → m.changeState? ≠ some .proposed) ∧
      (∀ p : Port, ∀ n ∈ t.notices.desks[p].offer, n.isProposal z.tag = false) ∧
      ∀ n ∈ t.notices.returned, n.isProposal z.tag = false

/-- The issue of proposals (R112 to R115, R122, R126). A proposal falls due for the first PLANNED mark while the run is
RUNNING, fewer than 4 are outstanding, none waits, and some PLANNED mark lies within its due distance. At an evaluation
the guard is applied to every uncommitted mark in track order, then a WAITING record whose retry position has passed is
issued again, and then one proposal is issued, unless a result is to be formed or to take effect first (the model's
order, log entry 7). The guard moves the ending order of a mark within the guard distance by one cut and counts the
deferral; a record beyond the limit is refused. An issue gives the record a new tag, its scope, its deadline and its
responders: each PENDING with a PROPOSAL notice where an OPEN port has its role, and NOT_READY where none has; a first
issue adds the record and makes the mark PROPOSED. That the DRY port is posted to first is the model's choice (log entry
44). -/
def Obligations.ProposalIssue : Prop :=
  (∀ (e : Env) (w : Work) (m : Mark),
    dueMark e w = some m ↔ e.run = .running ∧ w.prop.list.length < 4 ∧
      (∀ y ∈ w.prop.list, ∀ r, y.status ≠ .waiting r) ∧
      (∃ before after, w.track.marks = before ++ m :: after ∧ m.changeState? = some .planned ∧
        ∀ x ∈ before, x.changeState? ≠ some .planned) ∧
      ∃ n ∈ w.track.marks, n.changeState? = some .planned ∧
        ∃ i j, n.pair? = some (i, j) ∧ e.ahead n.start ≤ dueDistance e w.seq i j) ∧
  (∀ (e : Env) (w : Work),
    let guarded := (w.track.uncommittedChanges.map Mark.tag).foldl (guardMark e) { w with owed := { w.owed with due := false } }
    let w1 := retryWaiting e guarded
    let pending := (∃ y ∈ w1.prop.list, y.complete = true) ∨ ∃ y ∈ w1.prop.list.head?, y.effective = true
    (∀ before y after r, guarded.prop.list = before ++ y :: after → y.status = .waiting r → e.ahead r ≤ 0 →
      (∀ z ∈ before, ∀ r', z.status = .waiting r' → 0 < e.ahead r') → w1 = issue e y.tag y.scope guarded) ∧
    ((∀ y ∈ guarded.prop.list, ∀ r, y.status = .waiting r → 0 < e.ahead r) → w1 = guarded) ∧
    (pending → dueTest e w = w1.oweDue) ∧
    (¬pending → dueMark e w1 = none → dueTest e w = w1) ∧
    ∀ m, ¬pending → dueMark e w1 = some m → dueTest e w = (firstIssue e m w1).oweDue) ∧
  (∀ (e : Env) (w : Work) (g : Nat) (m : Mark) (i j : Nat), w.track.find g = some m → m.pair? = some (i, j) →
    let close := m.uncommitted = true ∧ e.ahead m.start < e.table.guardDistance
    let moved := (moveAndAnnounce e i 1 w).updOrder i fun o => { o with deferrals := o.deferrals + 1 }
    let w1 : Work :=
      { moved with prop := { moved.prop with list := moved.prop.list.map fun z =>
        (if z.changeTag = g then { z with deferrals := z.deferrals + 1 } else z) } }
    (¬close → guardMark e w g = w) ∧
    (close → (∀ z ∈ w1.prop.list, z.changeTag = g → z.deferrals ≤ e.table.deferralLimit) → guardMark e w g = w1) ∧
    ∀ before y after, close → w1.prop.list = before ++ y :: after → (∀ z ∈ before, z.changeTag ≠ g) →
      y.changeTag = g → e.table.deferralLimit < y.deferrals → guardMark e w g = stall e y y.deferrals w1) ∧
  (∀ (e : Env) (old : Nat) (sc : Scope) (w : Work) (y : Proposal), w.proposal old = some y →
    w.notices.returned.length < 7 →
    let t := issue e old sc w
    let tag := assignTag (w.prop.list.map Proposal.tag) w.prop.nextTag
    let asked (r : Role) : Bool := match sc, r with
      | .dry, .dry | .line, .dry | .line, .wet => true
      | _, _ => false
    let first (r : Role) : Option Partial :=
      if asked r = false then none else if e.openPortOfRole r = none then some .notReady else some .pending
    let fresh : Proposal :=
      { y with
        tag := tag, scope := sc, status := .collecting (e.now + e.table.responseTimeout)
        internal := if sc = .knife then none else some .pending, dry := first .dry, wet := first .wet }
    t.prop = ⟨w.prop.list.map fun z => (if z.tag = old then fresh else z), succTag tag⟩ ∧ NoticeFrame { w with prop := t.prop } t ∧
    ∀ (r : Role) (p : Port) (m : Mark) (i j : Nat), asked r = true → e.openPortOfRole r = some p →
      e.classes[NoticeClass.proposal.index].delivery = .bySource → w.track.find y.changeTag = some m →
      m.pair? = some (i, j) →
      ∃ n, (n ∈ t.notices.desks[p].offer ∨ n ∈ t.notices.returned) ∧
        n.body = .proposal ⟨tag, y.changeTag, sc, i, j, m.start.val⟩ ∧ n.delivery = .directed (some p)) ∧
  ∀ (e : Env) (m : Mark) (w : Work) (i j : Nat) (before after : List Mark), m.pair? = some (i, j) →
    w.track.marks = before ++ m :: after → (∀ x ∈ before, x.tag ≠ m.tag ∧ x.changeState? ≠ some .planned) →
    let proposed (x : Mark) : Mark := if x.changeState? = some .planned then x.withState .proposed else x
    firstIssue e m w = issue e 0 (w.seq.scope i j)
      { w with
        prop := { w.prop with list := w.prop.list ++ [⟨0, m.tag, w.seq.scope i j, .collecting 0, none, none, none, 0⟩] }
        track := w.track.update m.tag proposed }

/-! ## Marks, ramps and sheets (chapters 2, 3, 4 and 8) -/

/-- DEFECT (R29, R41, R42): STATE without a valid station set; RANGE for no station, an empty entry, or distances out of
order or above 20,000; a span wholly past the gate is escaped and raises DEFECT_ESCAPED; otherwise what remains is
handed to the track, which enters it while it has room (MarksEnterTheTrack) and else merges it or drops it
(DefectMerges); the response gives the tag, the disposition and the length that escaped, with FULL for a span that is
dropped. The span lies at the reach of the station less the distances, which on M1 and M2 are converted by the take-up,
as the reach is (R20, R22). The part of a span at or past the gate, and no other, has escaped. That an EMPTY entry is
RANGE is the model's choice (log entry 40). -/
def Obligations.DefectRequest : Prop :=
  (∀ (s : State) (p : Port) (q : Queued) (rest : List Queued) (body : List Byte) (n a c cause : Nat),
    HeadOf s p q rest .defect body → exact (getNats [1, 2, 2, 1] body) = some [n, a, c, cause] → s.work.atRest →
    s.work.TrackRoom →
    (s.env.stationsValid = false → exec (.defect p) s = .next (refusedState s p q rest .state)) ∧
    (s.env.stationsValid = true →
      (∀ (i : StationIx) (st : Station), n = i.val → s.env.stations[i] = some st → c < a ∨ 20000 < c) →
      exec (.defect p) s = .next (refusedState s p q rest .range)) ∧
    ∀ (i : StationIx) (st : Station), s.env.stationsValid = true → n = i.val → s.env.stations[i] = some st → a ≤ c →
      c ≤ 20000 →
      let x := defectSplit s.env st a c
      let e := popped s.env p rest
      let w := if 0 < x.escaped then raiseAlarm e .defectEscaped (.station i.val) s.work else s.work
      NoticeFrame s.work w ∧ (0 < x.escaped → w.hasAlarm .defectEscaped (.station i.val)) ∧
      (x.remaining = none → exec (.defect p) s =
        .next (appliedState s p q .ok (putDefect 0 .none x.escaped) e (settle e w))) ∧
      (∀ lo hi, x.remaining = some (lo, hi) →
        let y := enterDefect e i.val cause ⟨s.env.b + BitVec.ofInt 32 lo, false⟩ (hi - lo).toNat w
        exec (.defect p) s = .next (appliedState s p q (if y.2.2 = .dropped then .full else .ok)
          (putDefect y.2.1 y.2.2 x.escaped) e (settle e y.1)) ∧
        (s.work.track.defects.length < 160 → s.work.track.marks.length < 192 →
          y.2 = (assignTag (s.work.track.marks.map Mark.tag) s.work.track.nextTag, .recorded)))) ∧
  (∀ (e : Env) (st : Station) (a c g : Nat), e.downstream .gate = some g →
    let board (k : Bridge) (n : Nat) : Nat := n * 4096 / e.table.takeUp[k]
    let conv (n : Nat) : Nat := match st.web with
      | .m1 => board 0 n
      | .m2 => board 1 n
      | _ => n
    let loop (k : Bridge) : Nat := e.table.fixedLength[k] + e.bridges[k].fill
    defectSplit e st a c = splitAtGate (e.stationReach st - conv c) (e.stationReach st - conv a) g ∧
    e.stationReach st = match st.web with
      | .l1 => (st.distance + loop 0 : Int)
      | .m1 => (board 0 st.distance + loop 0 : Int)
      | .l2 => (st.distance + loop 1 : Int)
      | .m2 => (board 1 st.distance + loop 1 : Int)
      | .board => -(st.distance : Int)
      | _ => (st.distance : Int)) ∧
  (∀ (lo hi : Int) (g : Nat), hi ≤ lo → splitAtGate lo hi g = ⟨0, none⟩) ∧
  ∀ (lo hi : Int) (g : Nat), lo < hi →
    let x := splitAtGate lo hi g
    (x.remaining = none → x.escaped = (hi - lo).toNat ∧ hi - 1 ≤ -(g : Int)) ∧
    ∀ u v, x.remaining = some (u, v) →
      v = hi ∧ lo ≤ u ∧ u < hi ∧ -(g : Int) < u ∧ (x.escaped : Int) = u - lo ∧ (lo < u → u = -(g : Int) + 1)

/-- Merges (R35, R36). The candidates are the DEFECT marks whose start has not passed the gate, in track order. A span for which
the track has no room is merged into the candidate with the smallest gap, the earlier among equals: where that starts at or
before the span, it is extended to the later of the two ends and keeps its tag; where the span starts before it, it leaves the track,
and a new mark with a tag of its own, from the span's start to the later end, takes its body and its flags. With no candidate
the span is dropped and TRACK_FULL raised. Any other mark for a full track has the two consecutive candidates with the
smallest gap merged, the first pair among equals: the first reaches to the later end, the second leaves, and the mark enters. -/
def Obligations.DefectMerges : Prop :=
  (∀ (e : Env) (t : Track), mergeCandidates e t =
    t.marks.filter fun m => m.kind = .defect ∧ e.passedKind .gate m.start = false) ∧
  (∀ (e : Env) (i cause : Nat) (start : Pos) (span : Nat) (w : Work), w.TrackRoom →
    (160 ≤ w.track.defects.length ∨ 192 ≤ w.track.marks.length) →
    let l := mergeCandidates e w.track
    let lo := e.ahead start
    let hi := e.ahead (start.plus span)
    let gap (x : Mark) : Int := max 0 (if lo < e.ahead x.start then e.ahead x.start - hi else lo - e.ahead x.finish)
    let t := enterDefect e i cause start span w
    (l = [] → t = (raiseAlarm e .trackFull (.station i) w, 0, .dropped)) ∧
    ∀ earlier m later, l = earlier ++ m :: later → (∀ x ∈ earlier, gap m < gap x) → (∀ x ∈ later, gap m ≤ gap x) →
      (e.ahead m.start ≤ lo →
        let wider : Mark := { m with span := (max (e.ahead m.finish) hi - e.ahead m.start).toNat }
        t = (announceExtent e wider { w with track := w.track.update m.tag fun _ => wider }, m.tag, .merged)) ∧
      (lo < e.ahead m.start →
        let w1 := announce e
          { w with
            track := { w.track with marks := w.track.marks.filter fun x => x.tag ≠ m.tag }
            owed := { w.owed with extend := true } }
        let tag := assignTag (w1.track.marks.map Mark.tag) w1.track.nextTag
        let n : Mark :=
          ⟨tag, m.body, start, (max hi (e.ahead m.finish) - lo).toNat, m.beginPassed, m.endPassed, w1.track.entryCount⟩
        let entered : Track := ⟨insertMark e.b n w1.track.marks, succTag tag, w1.track.entryCount + 1⟩
        t = (evaluateOne e n.entry (announceExtent e n { w1 with track := entered }), tag, .merged))) ∧
  ∀ (e : Env) (body : MarkBody) (start : Pos) (span : Nat) (w : Work), w.TrackRoom → 192 ≤ w.track.marks.length →
    let gap (x y : Mark) : Int := max 0 (e.ahead y.start - e.ahead x.finish)
    ∀ earlier m n later, mergeCandidates e w.track = earlier ++ m :: n :: later →
      (∀ front x y back, mergeCandidates e w.track = front ++ x :: y :: back →
        gap m n ≤ gap x y ∧ (front.length < earlier.length → gap m n < gap x y)) →
      let wider : Mark := { m with span := (max (e.ahead m.finish) (e.ahead n.finish) - e.ahead m.start).toNat }
      let w1 := announceExtent e wider { w with track := w.track.update m.tag fun _ => wider }
      let w2 := announce e
        { w1 with
          track := { w1.track with marks := w1.track.marks.filter fun x => x.tag ≠ n.tag }
          owed := { w1.owed with extend := true } }
      let tag := assignTag (w2.track.marks.map Mark.tag) w2.track.nextTag
      let new : Mark := ⟨tag, body, start, span, 0, 0, w2.track.entryCount⟩
      let entered : Track := ⟨insertMark e.b new w2.track.marks, succTag tag, w2.track.entryCount + 1⟩
      freeEntry e w = some w2 ∧ handIn e body start span w = ({ w2 with track := entered }, some new)

/-- The passages of a mark (R44 to R47, R49). At a station that acts on it, a mark not uncommitted begins once its start
has passed, and ends, where ends are wanted and it is closed and no CHANGE, once its end has; each once, the flag set
first and the begin before the end; a begin at a commit is late, and sets a CHANGE mark's late flag. What the station
unit does with a passage leaves the track alone. At the datum a COMMITTED change becomes ACTIVE and its arrival is
reported. The points are the stations of the table and the datum, each once, the greater reach first, stations of equal
reach by index; that the datum comes after stations of reach 0 is the model's choice (log entry 8). A mark retires
exactly where it is closed and its end has passed the stacker, a CHANGE only where no stand's requirement names it and
the order it begins does not run. -/
def Obligations.MarkPassages : Prop :=
  (∀ (e : Env) (commit : Bool) (entry : Nat) (i : StationIx) (st : Station) (m : Mark) (w : Work), w.TrackRoom →
    w.track.byEntry entry = some m → e.stations[i] = some st →
    let acts := st.actsOn.has m.kind = true ∧ m.uncommitted = false
    let begins := m.beginPassed[i.val] = false ∧ e.ahead m.start ≤ e.stationReach st
    let ends := st.wantsEnd = true ∧ m.isOpen = false ∧ m.kind ≠ .change ∧ m.endPassed[i.val] = false ∧
      e.ahead m.finish ≤ e.stationReach st
    let bit := BitVec.twoPow 24 i.val
    let m1 : Mark :=
      { m with
        beginPassed := m.beginPassed ||| bit
        body := match m.body with
          | .change a j x late => .change a j x (late || commit)
          | y => y }
    let ended (x : Mark) : Mark := { x with endPassed := x.endPassed ||| bit }
    let hold (x : Mark) (y : Work) : Work := { y with track := y.track.update m.tag fun _ => x }
    let t := passStation e commit entry i w
    (¬acts ∨ (¬begins ∧ ¬ends) → t = w) ∧
    (acts → begins → ¬ends → t = beginPassage e i st m1 commit (hold m1 w)) ∧
    (acts → ¬begins → ends → t = markNotice e i st (ended m) .ends (hold (ended m) w)) ∧
    (acts → begins → ends →
      t = markNotice e i st (ended m1) .ends (hold (ended m1) (beginPassage e i st m1 commit (hold m1 w)))) ∧
    ∀ y, (beginPassage e i st m1 commit y).track = y.track ∧ (markNotice e i st m1 .ends y).track = y.track) ∧
  (∀ (e : Env) (report : Mark → Work → Work) (entry : Nat) (m : Mark) (w : Work), w.track.byEntry entry = some m →
    let active := m.withState .active
    let due := m.changeState? = some .committed ∧ e.ahead m.start ≤ 0
    (due → passDatum e report entry w = report active { w with track := w.track.update m.tag fun _ => active }) ∧
    (¬due → passDatum e report entry w = w)) ∧
  (∀ e : Env,
    let reach (x : LinePoint) : Int := match x with
      | some i => match e.stations[i] with
        | some st => e.stationReach st
        | none => 0
      | none => 0
    let rank (x : LinePoint) : Nat := match x with
      | some i => i.val
      | none => 24
    none ∈ linePoints e ∧ (∀ i : StationIx, some i ∈ linePoints e ↔ e.stations[i] ≠ none) ∧
    (linePoints e).Pairwise fun x y => reach y < reach x ∨ (reach y = reach x ∧ rank x < rank y)) ∧
  ∀ (e : Env) (except : Option Nat) (w : Work) (m : Mark),
    m ∈ (retireMarks e except w).track.marks ↔ m ∈ w.track.marks ∧
      ¬(m.isOpen = false ∧ e.passedKind .stacker m.finish = true ∧ except ≠ some m.entry ∧
        ∀ i j, m.pair? = some (i, j) → w.seq.running ≠ some j ∧
          ∀ k : Stand, ∀ q, w.stands[k].requirement = some q → q.changeTag ≠ m.tag)

/-- What a passage posts and pulses (R55, R58 to R60, R63, R64, R67). A STATION notice goes to the port of the owner role, none
where the owner is NONE, and the station's cue, if it has one, pulses after it. A mark other than a CHANGE: a notice of the
mark, its kind and the action, with the current value. A CHANGE begins by the kind of station: nothing at GATE, STACKER
and INSPECT; at KNIFE a notice with the sheet length, the cue, and the switch of the schedule at the mark's start; at SLITTER, for a
swapping change that has not begun at the other slitter, the active slitter is exchanged and the old one unconfirmed, and the
notice gives the loaded order of the new one and whether it is confirmed for the order that begins; at a setpoint station the ramp
in flight ends and a BEGIN notice gives the recipe value. A ramp step posts a STEP notice with the value delivered. A
pulse on a line that is high starts again and raises CUE_OVERLAP; each of two pulses at one evaluation is taken by itself, by
the model's choice (log entry 43). -/
def Obligations.PassageEffects : Prop :=
  (∀ (e : Env) (i : StationIx) (st : Station) (m : Mark) (late : Bool) (w : Work),
    let told (b : StationBody) (x : Work) : Work := match st.owner with
      | none => x
      | some r => post e (.station b) (e.portOfRole r) x
    let cued (x : Work) : Work := match st.cue with
      | none => x
      | some c => pulse e (stationCue c) x
    (∀ c : Fin 5, (stationCue c).val = c.val + 7) ∧
    (∀ action, markNotice e i st m action w =
      cued (told ⟨i, m.tag, m.kind, action, none, w.station.current[i], false, none, none⟩ w)) ∧
    (m.pair? = none → beginPassage e i st m late w = markNotice e i st m .begins w) ∧
    (∀ a j, m.pair? = some (a, j) →
      let t := beginPassage e i st m late w
      let swaps := a = 0 ∨ w.seq.scope a j ≠ .knife
      let done := ∃ k : StationIx, k ≠ i ∧ (∃ x, e.stations[k] = some x ∧ x.kind = .slitter) ∧
        m.beginPassed[k.val] = true
      let old := w.station.slitters
      let swapped : Work := { w with station := { w.station with slitters := match old.active with
        | .a => { old with active := .b, confirmedA := false }
        | .b => { old with active := .a, confirmedB := false } } }
      (st.kind ∈ [.gate, .stacker, .inspect] → t = w) ∧
      (st.kind = .knife → ∀ o, w.seq.find j = some o → t = switchSchedule e m.start a j m.lateFlag
        (cued (told ⟨i, m.tag, .change, .begins, none, o.given.length, late, some j, none⟩ w))) ∧
      (st.kind = .slitter → (¬swaps ∨ done) → t = w) ∧
      (st.kind = .slitter → swaps → ¬done → old.active = .a → t = cued (told
        ⟨i, m.tag, .change, .begins, none, 1, late, some j,
          some ⟨old.loadedB, decide (old.loadedB = some j) && old.confirmedB⟩⟩ swapped)) ∧
      (st.kind = .slitter → swaps → ¬done → old.active = .b → t = cued (told
        ⟨i, m.tag, .change, .begins, none, 0, late, some j,
          some ⟨old.loadedA, decide (old.loadedA = some j) && old.confirmedA⟩⟩ swapped)) ∧
      (st.kind ∈ [.preheat, .glue, .heat, .generic] →
        let v := recipeValue e w i j
        let w1 := (rampTest e (some m.start) false w i).setRamp i none
        let r : Ramp := ⟨w1.station.current[i], v, e.profiles[st.profile], 0, m.tag, m.start, late, j⟩
        let begun (x : Work) : Work := told ⟨i, m.tag, .change, .begins, none, v, late, some j, none⟩ x
        (v = 65535 → t = begun w1) ∧
        (v ≠ 65535 → t = rampTest e (pendingBegin e i w) true (begun (w1.setRamp i (some r))) i))) ∧
    ∀ (limit : Option Pos) (created : Bool) (r : Ramp), e.stations[i] = some st → w.station.ramps[i] = some r →
      let due (k : Nat) (s : ProfileStep) : Prop :=
        r.steps[k]? = some s ∧ r.nextStep ≤ k ∧ e.ahead (r.start.plus s.distance) ≤ e.stationReach st ∧
          ∀ t, limit = some t → e.ahead (r.start.plus s.distance) < e.ahead t
      ∀ k s, due k s → (∀ k' s', k < k' → ¬due k' s') →
        let v := rampValue r.oldValue r.newValue s.fraction
        rampTest e limit created w i =
          (cued (told ⟨i, r.changeTag, .change, .step, some k, v, created && r.late, some r.order, none⟩
            { w with station := { w.station with current := w.station.current.set i v } })).setRamp i
              (if k + 1 = r.steps.length then none else some { r with nextStep := k + 1 })) ∧
  ∀ (e : Env) (c : CueLine) (w : Work),
    let high : Work :=
      { w with cues := w.cues.set c (some (e.now + if e.table.cueWidth = 0 then 1 else e.table.cueWidth)) }
    (w.cues[c] = none → pulse e c w = high) ∧
    (w.cues[c] ≠ none → pulse e c w = raiseAlarm e .cueOverlap (.cueLine c) high ∧
      (pulse e c w).hasAlarm .cueOverlap (.cueLine c))

/-- Ramps (R57, R59 to R62). The value delivered goes from the old value at fraction 0 to the new value at 256, stays
between the two, and does not turn back as the fraction grows. A step test delivers the highest due step at or after the
next one, and the record goes with its last step; a limit leaves out the steps at or after it. A new begin ends the ramp
in flight, with the steps before its own start; it starts none where the recipe value is 65,535, and else one from the
current value to the recipe value by a copy of the profile, tested at once up to the next change whose begin is due
there too. -/
def Obligations.RampSteps : Prop :=
  (∀ old new : Nat,
    rampValue old new 0 = old ∧ rampValue old new 256 = new ∧
    ∀ f g, f ≤ g → g ≤ 256 →
      (old ≤ new → old ≤ rampValue old new f ∧ rampValue old new f ≤ rampValue old new g ∧
        rampValue old new g ≤ new) ∧
      (new ≤ old → new ≤ rampValue old new g ∧ rampValue old new g ≤ rampValue old new f ∧
        rampValue old new f ≤ old)) ∧
  (∀ (e : Env) (limit : Option Pos) (created : Bool) (w : Work) (i : StationIx) (st : Station) (r : Ramp),
    e.stations[i] = some st → w.station.ramps[i] = some r →
    let due (k : Nat) (s : ProfileStep) : Prop :=
      r.steps[k]? = some s ∧ r.nextStep ≤ k ∧ e.ahead (r.start.plus s.distance) ≤ e.stationReach st ∧
        ∀ t, limit = some t → e.ahead (r.start.plus s.distance) < e.ahead t
    let t := rampTest e limit created w i
    ((∀ k s, ¬due k s) → t = w) ∧
    ∀ k s, due k s → (∀ k' s', k < k' → ¬due k' s') → t.station =
      { w.station with
        current := w.station.current.set i (rampValue r.oldValue r.newValue s.fraction)
        ramps := w.station.ramps.set i (if k + 1 = r.steps.length then none else some { r with nextStep := k + 1 }) }) ∧
  (∀ (e : Env) (i : StationIx) (st : Station) (m : Mark) (j : Nat) (late : Bool) (w : Work),
    e.stations[i] = some st →
    let v := recipeValue e w i j
    let w1 := (rampTest e (some m.start) false w i).setRamp i none
    let r : Ramp := ⟨w1.station.current[i], v, e.profiles[st.profile], 0, m.tag, m.start, late, j⟩
    let t := changeover e i st m j late w
    (w.seq.find j = none → v = 65535) ∧
    (∀ o, w.seq.find j = some o → ∀ h : o.given.recipe < 32, v = e.recipes[o.given.recipe][i]) ∧
    (v = 65535 → t.station = w1.station) ∧
    (v ≠ 65535 →
      t.station = (rampTest e (pendingBegin e i w) true (w1.setRamp i (some r)) i).station)) ∧
  ∀ (e : Env) (i : StationIx) (st : Station) (w : Work), e.stations[i] = some st →
    let due (n : Mark) : Prop := n.bound = true ∧ n.beginPassed[i.val] = false ∧ e.ahead n.start ≤ e.stationReach st
    (st.actsOn.change = false → pendingBegin e i w = none) ∧
    (st.actsOn.change = true →
      ((∀ n ∈ w.track.marks, ¬due n) → pendingBegin e i w = none) ∧
      ∀ before n after, w.track.marks = before ++ n :: after → (∀ x ∈ before, ¬due x) → due n →
        pendingBegin e i w = some n.start)

/-- Cuts, flips and gate passages (R129, R131 to R134). The record of a cut is the next of the schedule, REJECT exactly
where a JOINT, DEFECT or MISMATCH mark overlaps it, under the first such mark in track order, with CUE5 high for the
pulse width, and the order's cuts tally goes up by 1. The announcement of a mark's extent flips each GOOD record that is
not past the gate and overlaps it, under that mark, and no other record. A gate passage sets the record's flag, and for
a REJECT alone CUE6 is high for the pulse width; the cut is counted once, as good or under the kind of its cause, and a
defect once more, under its code, which the causes list takes while it holds fewer than 8, or else among the others. -/
def Obligations.CutsAndTallies : Prop :=
  let causeBy (m : Mark) : Option Cause := match m.body with
    | .joint s _ => some ⟨.joint, s.val, m.tag⟩
    | .defect _ c => some ⟨.defect, c, m.tag⟩
    | .mismatch s _ => some ⟨.mismatch, s.val, m.tag⟩
    | .change _ _ _ _ => none
  (∀ (e : Env) (c : Schedule) (w : Work),
    let t := makeCut e c w
    let start := c.start.plus ((c.cuts * c.length : Nat) : Int)
    let finish := c.start.plus (((c.cuts + 1) * c.length : Nat) : Int)
    let clear (m : Mark) : Prop := ∀ y, markExtent e m = some y → (between e start finish).overlaps y = false
    t.sheet.schedule = some { c with cuts := c.cuts + 1 } ∧
    t.cues[(5 : CueLine)] = some (e.now + pulseWidth e) ∧ t.track = w.track ∧ t.stands = w.stands ∧
    t.seq = (w.updTallies c.order fun x => { x with cuts := x.cuts + 1 }).seq ∧
    ∃ cause, t.sheet.sheets = w.sheet.sheets ++ [⟨c.order, c.cuts + 1, start, c.length, c.outs, cause, false⟩] ∧
      (cause = none ↔ ∀ m ∈ w.track.marks, clear m) ∧
      ∀ before m after, w.track.marks = before ++ m :: after → (∀ x ∈ before, clear x) → ¬clear m →
        cause = causeBy m) ∧
  (∀ (e : Env) (m : Mark) (w : Work),
    let flips (x : Sheet) : Prop := x.gatePassed = false ∧ x.cause = none ∧
      ∃ y, markExtent e m = some y ∧ (between e x.start (x.start.plus x.length)).overlaps y = true
    ∃ f : Sheet → Sheet, (announceExtent e m w).sheet = { w.sheet with sheets := w.sheet.sheets.map f } ∧
      ∀ x, (flips x → f x = { x with cause := causeBy m }) ∧ (¬flips x → f x = x)) ∧
  (∀ (e : Env) (x : Sheet) (w : Work),
    let t := gatePassage e x w
    let passes (y : Sheet) : Sheet := if y.order = x.order ∧ y.cut = x.cut then { y with gatePassed := true } else y
    t.sheet = { w.sheet with sheets := w.sheet.sheets.map passes } ∧
    (x.cause = none → t.cues = w.cues) ∧
    (x.cause ≠ none → t.cues = w.cues.set (6 : CueLine) (some (e.now + pulseWidth e))) ∧
    ∀ o, w.seq.find x.order = some o → ∃ o', t.seq.find x.order = some o' ∧
      o'.tallies =
        { o.tallies.atGate x.cause with forecast := o'.tallies.forecast, short := o'.tallies.short }) ∧
  (∀ (t : Tallies) (cause : Option Cause), t.causes.length ≤ 8 →
    let u := t.atGate cause
    u.good + u.rejectJoint + u.rejectDefect + u.rejectMismatch =
      t.good + t.rejectJoint + t.rejectDefect + t.rejectMismatch + 1 ∧
    (u.causes.map Prod.snd).sum + u.otherCauses + t.rejectDefect =
      (t.causes.map Prod.snd).sum + t.otherCauses + u.rejectDefect ∧
    u.causes.length ≤ 8 ∧ u.cuts = t.cuts ∧ (u.good = t.good + 1 ↔ cause = none)) ∧
  ∀ (t : Tallies) (source mark : Nat),
    t.atGate none = { t with good := t.good + 1 } ∧
    t.atGate (some ⟨.joint, source, mark⟩) = { t with rejectJoint := t.rejectJoint + 1 } ∧
    t.atGate (some ⟨.mismatch, source, mark⟩) = { t with rejectMismatch := t.rejectMismatch + 1 } ∧
    let u : Tallies := { t with rejectDefect := t.rejectDefect + 1 }
    let v := t.atGate (some ⟨.defect, source, mark⟩)
    (∀ earlier n later, t.causes = earlier ++ (source, n) :: later → (∀ x ∈ earlier, x.1 ≠ source) →
      v = { u with causes := earlier ++ (source, n + 1) :: later }) ∧
    ((∀ x ∈ t.causes, x.1 ≠ source) →
      (t.causes.length < 8 → v = { u with causes := t.causes ++ [(source, 1)] }) ∧
      (8 ≤ t.causes.length → v = { u with otherCauses := t.otherCauses + 1 }))

/-- The forecast, the deficit report and ORDER_SHORT (R32, R141 to R143). A stretch overlaps another where they share a
position; a JOINT, a DEFECT and a closed MISMATCH cover start to end, an open MISMATCH all from its start on, or, for the forecast,
up to where the next joint of its stand can reach; a CHANGE covers nothing. The forecast of an order with a start and an end mark is
its good cuts, its GOOD records not yet at the gate, and, until its end at the knife is set, the cuts still to be made
before its end mark that no mark covers. A recompute takes the orders of the sequence in order: it notes each forecast,
and asks for the deficit of an order whose forecast falls short; a move that is refused raises ORDER_SHORT, once. With no order
short it only notes the forecasts. That the forecast of a start far behind is formed from the far-behind value is the
model's choice (log entry 38), and so is the depth of recomputes within recomputes (log entry 12). -/
def Obligations.ForecastAndDeficit : Prop :=
  (∀ x y : Extent, x.overlaps y = true ↔
    ∃ p : Int, x.lo ≤ p ∧ y.lo ≤ p ∧ (∀ h, x.hi = some h → p < h) ∧ ∀ h, y.hi = some h → p < h) ∧
  (∀ (e : Env) (m : Mark),
    (m.kind = .change → markExtent e m = none) ∧
    (m.kind ≠ .change → m.isOpen = true → markExtent e m = some ⟨e.ahead m.start, none⟩) ∧
    (m.kind ≠ .change → m.isOpen = false → markExtent e m = some ⟨e.ahead m.start, some (e.ahead m.finish)⟩)) ∧
  (∀ (e : Env) (w : Work) (o : Order),
    let covers (m : Mark) : Option Extent := match m.body with
      | .mismatch k true => some ⟨e.ahead m.start, some (e.splicerReach k + e.lead k)⟩
      | _ => markExtent e m
    ((o.startPos = none ∨ ∀ g, o.endTag = some g → w.track.find g = none) → forecast e w o = none) ∧
    ∀ s g m, o.startPos = some s → o.endTag = some g → w.track.find g = some m →
      let len := o.given.length
      let all := (e.ahead m.start - e.ahead s).toNat / len
      let clean (n : Nat) : Bool :=
        !(w.track.marks.filterMap covers).any (between e (s.plus (n * len : Nat)) (s.plus ((n + 1) * len : Nat))).overlaps
      let coming := w.sheet.sheets.filter fun x => x.order = o.tag ∧ x.cause = none ∧ x.gatePassed = false
      let unmade := ((List.range all).filter fun n => decide (o.tallies.cuts ≤ n) && clean n).length
      forecast e w o =
        some (o.tallies.good + coming.length + if o.tallies.endPos = none then unmade else 0)) ∧
  (∀ (e : Env) (w : Work), ∃ n, recompute e w =
    recomputePass e (recomputeWithin e n) (w.seq.sequence.map Order.tag) w) ∧
  (∀ (e : Env) (again : Work → Work) (tag : Nat) (rest : List Nat) (w : Work),
    recomputePass e again [] w = w ∧
    ((∀ o, w.seq.find tag = some o → forecast e w o = none) →
      recomputePass e again (tag :: rest) w = recomputePass e again rest w) ∧
    ∀ o f, w.seq.find tag = some o → forecast e w o = some f →
      let noted := w.updTallies tag fun t => { t with forecast := f }
      (o.given.required ≤ f → recomputePass e again (tag :: rest) w = recomputePass e again rest noted) ∧
      (f < o.given.required →
        let x := moveOrder e again tag (o.given.required - f) noted
        (x.2 = .refused → recomputePass e again (tag :: rest) w = recomputePass e again rest (raiseShort e tag x.1)) ∧
        (x.2 ≠ .refused → recomputePass e again (tag :: rest) w = recomputePass e again rest x.1))) ∧
  (∀ (e : Env) (tag : Nat) (w : Work) (o : Order), w.seq.find tag = some o →
    (o.tallies.short = true → raiseShort e tag w = w) ∧
    (o.tallies.short = false →
      raiseShort e tag w =
        raiseAlarm e .orderShort (.order tag) (w.updTallies tag fun t => { t with short := true }) ∧
      (raiseShort e tag w).hasAlarm .orderShort (.order tag))) ∧
  ∀ (e : Env) (w : Work), (w.seq.live.map Order.tag).Nodup →
    (∀ o ∈ w.seq.sequence, ∀ f, forecast e w o = some f → o.given.required ≤ f) →
    recompute e w =
      { w with
        seq :=
          { w.seq with
            sequence := w.seq.sequence.map fun o =>
              match forecast e w o with
              | some f => { o with tallies := { o.tallies with forecast := f } }
              | none => o } }

/-- The switch of the cut schedule (R128), a departure at the stacker (R136), and completion (R137, R138). A switch at
T from order i to order j makes only cuts of the two, those of i ending at or before T; j is the order cut from T on,
i's end is T where it was being cut, and a late change is noted in both. A departure takes the record off the list; a
GOOD one adds its outs to the good sheets and the stack, which closes at the stack size. With the order's end set and
no record of it left, a stack that holds sheets closes, the completion record is written, and the order leaves the
queue. That a position an order has not been given is 0 in its record is a default that no reachable state asks for
(log entry 35). -/
def Obligations.SwitchAndCompletion : Prop :=
  (∀ (e : Env) (t : Pos) (i j : Nat) (late : Bool) (w : Work) (o : Order), i ≠ j → w.seq.find j = some o →
    let x := switchSchedule e t i j late w
    let wasCut := ∃ c, w.sheet.schedule = some c ∧ c.order = i
    (∃ n, x.sheet.schedule = some ⟨j, t, o.given.length, o.given.outs, n⟩) ∧
    (∃ o', x.seq.find j = some o' ∧ o'.given = o.given ∧ o'.tallies.startAtKnife = some t ∧
      o'.tallies.lateChange = (late || o.tallies.lateChange)) ∧
    (∀ y, w.seq.find i = some y → ∃ y', x.seq.find i = some y' ∧
      (wasCut → y'.tallies.endPos = some t) ∧ (¬wasCut → y'.tallies.endPos = y.tallies.endPos) ∧
      (i ≠ 0 → y'.tallies.lateChange = (late || y.tallies.lateChange))) ∧
    (∃ made, x.sheet.sheets = w.sheet.sheets ++ made ∧ ∀ z ∈ made, z.gatePassed = false ∧
      (z.order = j ∨ (z.order = i ∧ e.ahead (z.start.plus z.length) ≤ e.ahead t))) ∧
    (i = 0 → x.cues[(5 : CueLine)] = some (e.now + pulseWidth e)) ∧ x.track = w.track ∧ x.stands = w.stands ∧
    x.station = w.station) ∧
  ∀ (e : Env) (x : Sheet) (w : Work) (o : Order), w.seq.find x.order = some o →
    let left := w.sheet.sheets.filter fun y => !y.isCut x.order x.cut
    let counted : Tallies :=
      if x.cause = none then
        { o.tallies with
          goodSheets := o.tallies.goodSheets + x.outs, currentStack := o.tallies.currentStack + x.outs }
      else o.tallies
    let closed (u : Tallies) : Tallies := { u with stacksClosed := u.stacksClosed + 1, currentStack := 0 }
    let u := if x.cause = none ∧ o.given.stackSize ≤ counted.currentStack then closed counted else counted
    let complete := u.endPos ≠ none ∧ ∀ y ∈ left, y.order ≠ x.order
    let t := departure e x w
    t.track = w.track ∧ t.stands = w.stands ∧ t.station = w.station ∧ t.cues = w.cues ∧
    (¬complete → t.sheet = { w.sheet with sheets := left } ∧ t.seq.find x.order = some { o with tallies := u }) ∧
    (complete →
      let f := if 0 < u.currentStack then closed u else u
      let r : Completion :=
        { order := x.order, start := (f.startAtKnife.map Pos.val).getD 0#32, finish := (f.endPos.map Pos.val).getD 0#32,
          cuts := f.cuts, good := f.good, rejectJoint := f.rejectJoint, rejectDefect := f.rejectDefect,
          rejectMismatch := f.rejectMismatch, causes := f.causes, otherCauses := f.otherCauses,
          goodSheets := f.goodSheets, shortfall := o.given.quantity - f.goodSheets,
          overrun := f.goodSheets - o.given.quantity, stacksClosed := f.stacksClosed, deferrals := o.deferrals,
          added := o.added, lateChange := f.lateChange, short := f.short }
      t.sheet = writeLog r { w.sheet with sheets := left } ∧
      t.seq.sequence.map Order.tag = (w.seq.sequence.map Order.tag).filter fun n => n != x.order)

/-! ## What every step keeps -/

/-- Every step keeps the tables, the odometer unit and the ports well kept. -/
def Obligations.EnvironmentKept : Prop :=
  ∀ s t : State, s.env.Ok → step s = .next t → t.env.Ok

/-- Every step keeps the notices and the alarm record within their capacities, with one flagged entry for a kind and
subject. -/
def Obligations.NoticeRoomKept : Prop :=
  ∀ s t : State, s.work.NoticeRoom → step s = .next t → t.work.NoticeRoom

/-- Every step keeps the track within its capacity, its tags distinct, and its entry numbers below the next. -/
def Obligations.TrackRoomKept : Prop :=
  ∀ s t : State, s.work.TrackRoom → step s = .next t → t.work.TrackRoom

/-- Every step keeps the order queue, the proposal list and the completion log within their capacities. -/
def Obligations.RunRoomKept : Prop :=
  ∀ s t : State, s.work.RunRoom → step s = .next t → t.work.RunRoom

/-! ## What only some commands change -/

/-- Apart from POWER_ON_RESET, no command takes the configuration, the opening or a port's role back, and an odometer only
runs forward, by at most 66 mm, at an edge of its own encoder (R1, R7, R9, R161, R170). -/
def Obligations.OnlyPowerOnTurnsBack : Prop :=
  ∀ (c : Instr) (s t : State), s.env.Ok → (∀ x e1 e2 e3, c ≠ .powerOnReset x e1 e2 e3) → exec c s = .next t →
    (s.env.configured = true → t.env.configured = true) ∧ (s.env.partOpen = true → t.env.partOpen = true) ∧
    (∀ p : Port, t.env.links[p].role = s.env.links[p].role ∧ t.env.links[p].band = s.env.links[p].band) ∧
    ∀ k : Encoder, ∃ n ≤ 66, t.env.encoders[k].odo = s.env.encoders[k].odo + BitVec.ofNat 32 n ∧
      (n ≠ 0 → ∃ levels, c = .quadratureEdge k levels)

/-- Apart from POWER_ON_RESET, each table and setting changes only by its own request, and a fill only by an edge, a
BRIDGE_SET or a LINE_TABLE (R1, R2, R11, R14, R52, R56, R57, R74, R108, R110, R148, R150, R155, R170, R173). -/
def Obligations.TablesChangeByTheirRequests : Prop :=
  ∀ (c : Instr) (s t : State), (∀ x e1 e2 e3, c ≠ .powerOnReset x e1 e2 e3) → exec c s = .next t →
    (t.env.table ≠ s.env.table ∨ t.env.configured ≠ s.env.configured → ∃ p, c = .lineTable p) ∧
    (t.env.stations ≠ s.env.stations ∨ t.env.staged ≠ s.env.staged → ∃ p, c = .stationSet p) ∧
    (t.env.recipes ≠ s.env.recipes → ∃ p, c = .recipeSet p) ∧
    (t.env.profiles ≠ s.env.profiles → ∃ p, c = .profileSet p) ∧
    (t.env.settings ≠ s.env.settings → ∃ p, c = .standSet p) ∧
    (t.env.classes ≠ s.env.classes → ∃ p, c = .classSet p) ∧ (t.env.ring ≠ s.env.ring → ∃ p, c = .relaySet p) ∧
    (t.env.alarmEnables ≠ s.env.alarmEnables → ∃ p, c = .alarmEnable p) ∧
    (t.env.baseFloors ≠ s.env.baseFloors → ∃ p, c = .floor p) ∧
    (t.env.partOpen ≠ s.env.partOpen → ∃ p, c = .openPart p) ∧
    (t.env.run ≠ s.env.run → ∃ p, c = .start p ∨ c = .lineReset p) ∧
    (t.env.bridges ≠ s.env.bridges →
      (∃ k levels, c = .quadratureEdge k levels) ∨ ∃ p, c = .bridgeSet p ∨ c = .lineTable p)

/-- Apart from POWER_ON_RESET, a ready reel changes only by REEL_LOAD, REEL_REMOVE, a JOINT or its stand's confirm deadline; an
enable only by STAND_ENABLE, SPLICE_FAIL or its stand's confirm deadline; a slitter's load only by SETUP_DONE, STATION_SET or
LINE_RESET; and the completion log only by an edge of E3 or LOG_TAKE (R54, R65, R68, R70, R71, R82 to R87, R137 to R140). -/
def Obligations.RecordsChangeByTheirCommands : Prop :=
  ∀ (c : Instr) (s t : State), (∀ x e1 e2 e3, c ≠ .powerOnReset x e1 e2 e3) → exec c s = .next t →
    (∀ k : Stand, t.work.stands[k].ready ≠ s.work.stands[k].ready →
      c = .confirmDeadlineExpiry k ∨ ∃ p, c = .reelLoad p ∨ c = .reelRemove p ∨ c = .joint p) ∧
    (∀ k : Stand, t.work.stands[k].enable ≠ s.work.stands[k].enable →
      c = .confirmDeadlineExpiry k ∨ ∃ p, c = .standEnable p ∨ c = .spliceFail p) ∧
    (t.work.station.slitters.loadedA ≠ s.work.station.slitters.loadedA ∨
        t.work.station.slitters.loadedB ≠ s.work.station.slitters.loadedB →
      ∃ p, c = .setupDone p ∨ c = .stationSet p ∨ c = .lineReset p) ∧
    (t.work.sheet.log ≠ s.work.sheet.log → (∃ levels, c = .quadratureEdge 2 levels) ∨ ∃ p, c = .logTake p)

/-- Apart from POWER_ON_RESET and ALARM_CLEAR, no command takes an entry off the alarm record or lowers its count
(R172, R174). -/
def Obligations.AlarmsStayUntilCleared : Prop :=
  ∀ (c : Instr) (s t : State), s.work.NoticeRoom → (∀ x e1 e2 e3, c ≠ .powerOnReset x e1 e2 e3) →
    (∀ p, c ≠ .alarmClear p) → exec c s = .next t →
    ∀ x ∈ s.work.alarms.entries, ∃ y ∈ t.work.alarms.entries,
      y.kind = x.kind ∧ y.subject = x.subject ∧ x.count ≤ y.count

end
end

