-- ==== Sys2Proof/Laws/State.lean ====
section
/-! SUPPORT. What each update of the state leaves as it was, field by field, and what it sets. -/

namespace Sys2Proof.Machine

/-! ### `Work.setStand` -/

@[simp] theorem Work.setStand_alarms (w : Work) (s : Stand) (r : StandRec) : (w.setStand s r).alarms = w.alarms := rfl
@[simp] theorem Work.setStand_notices (w : Work) (s : Stand) (r : StandRec) : (w.setStand s r).notices = w.notices := rfl
@[simp] theorem Work.setStand_cues (w : Work) (s : Stand) (r : StandRec) : (w.setStand s r).cues = w.cues := rfl
@[simp] theorem Work.setStand_track (w : Work) (s : Stand) (r : StandRec) : (w.setStand s r).track = w.track := rfl
@[simp] theorem Work.setStand_station (w : Work) (s : Stand) (r : StandRec) : (w.setStand s r).station = w.station := rfl
@[simp] theorem Work.setStand_seq (w : Work) (s : Stand) (r : StandRec) : (w.setStand s r).seq = w.seq := rfl
@[simp] theorem Work.setStand_prop (w : Work) (s : Stand) (r : StandRec) : (w.setStand s r).prop = w.prop := rfl
@[simp] theorem Work.setStand_sheet (w : Work) (s : Stand) (r : StandRec) : (w.setStand s r).sheet = w.sheet := rfl
@[simp] theorem Work.setStand_owed (w : Work) (s : Stand) (r : StandRec) : (w.setStand s r).owed = w.owed := rfl

/-! ### `Work.updStand` -/

@[simp] theorem Work.updStand_alarms (w : Work) (s : Stand) (f : StandRec → StandRec) : (w.updStand s f).alarms = w.alarms := rfl
@[simp] theorem Work.updStand_notices (w : Work) (s : Stand) (f : StandRec → StandRec) : (w.updStand s f).notices = w.notices := rfl
@[simp] theorem Work.updStand_cues (w : Work) (s : Stand) (f : StandRec → StandRec) : (w.updStand s f).cues = w.cues := rfl
@[simp] theorem Work.updStand_track (w : Work) (s : Stand) (f : StandRec → StandRec) : (w.updStand s f).track = w.track := rfl
@[simp] theorem Work.updStand_station (w : Work) (s : Stand) (f : StandRec → StandRec) : (w.updStand s f).station = w.station := rfl
@[simp] theorem Work.updStand_seq (w : Work) (s : Stand) (f : StandRec → StandRec) : (w.updStand s f).seq = w.seq := rfl
@[simp] theorem Work.updStand_prop (w : Work) (s : Stand) (f : StandRec → StandRec) : (w.updStand s f).prop = w.prop := rfl
@[simp] theorem Work.updStand_sheet (w : Work) (s : Stand) (f : StandRec → StandRec) : (w.updStand s f).sheet = w.sheet := rfl
@[simp] theorem Work.updStand_owed (w : Work) (s : Stand) (f : StandRec → StandRec) : (w.updStand s f).owed = w.owed := rfl

/-! ### `Work.setDesk` -/

@[simp] theorem Work.setDesk_alarms (w : Work) (p : Port) (d : Desk) : (w.setDesk p d).alarms = w.alarms := rfl
@[simp] theorem Work.setDesk_cues (w : Work) (p : Port) (d : Desk) : (w.setDesk p d).cues = w.cues := rfl
@[simp] theorem Work.setDesk_track (w : Work) (p : Port) (d : Desk) : (w.setDesk p d).track = w.track := rfl
@[simp] theorem Work.setDesk_station (w : Work) (p : Port) (d : Desk) : (w.setDesk p d).station = w.station := rfl
@[simp] theorem Work.setDesk_stands (w : Work) (p : Port) (d : Desk) : (w.setDesk p d).stands = w.stands := rfl
@[simp] theorem Work.setDesk_seq (w : Work) (p : Port) (d : Desk) : (w.setDesk p d).seq = w.seq := rfl
@[simp] theorem Work.setDesk_prop (w : Work) (p : Port) (d : Desk) : (w.setDesk p d).prop = w.prop := rfl
@[simp] theorem Work.setDesk_sheet (w : Work) (p : Port) (d : Desk) : (w.setDesk p d).sheet = w.sheet := rfl
@[simp] theorem Work.setDesk_owed (w : Work) (p : Port) (d : Desk) : (w.setDesk p d).owed = w.owed := rfl

/-! ### `Work.offerAt` -/

@[simp] theorem Work.offerAt_alarms (w : Work) (p : Port) (n : Notice) : (w.offerAt p n).alarms = w.alarms := rfl
@[simp] theorem Work.offerAt_cues (w : Work) (p : Port) (n : Notice) : (w.offerAt p n).cues = w.cues := rfl
@[simp] theorem Work.offerAt_track (w : Work) (p : Port) (n : Notice) : (w.offerAt p n).track = w.track := rfl
@[simp] theorem Work.offerAt_station (w : Work) (p : Port) (n : Notice) : (w.offerAt p n).station = w.station := rfl
@[simp] theorem Work.offerAt_stands (w : Work) (p : Port) (n : Notice) : (w.offerAt p n).stands = w.stands := rfl
@[simp] theorem Work.offerAt_seq (w : Work) (p : Port) (n : Notice) : (w.offerAt p n).seq = w.seq := rfl
@[simp] theorem Work.offerAt_prop (w : Work) (p : Port) (n : Notice) : (w.offerAt p n).prop = w.prop := rfl
@[simp] theorem Work.offerAt_sheet (w : Work) (p : Port) (n : Notice) : (w.offerAt p n).sheet = w.sheet := rfl
@[simp] theorem Work.offerAt_owed (w : Work) (p : Port) (n : Notice) : (w.offerAt p n).owed = w.owed := rfl

/-! ### `Work.unreturn` -/

@[simp] theorem Work.unreturn_alarms (w : Work) (t : Nat) : (w.unreturn t).alarms = w.alarms := rfl
@[simp] theorem Work.unreturn_cues (w : Work) (t : Nat) : (w.unreturn t).cues = w.cues := rfl
@[simp] theorem Work.unreturn_track (w : Work) (t : Nat) : (w.unreturn t).track = w.track := rfl
@[simp] theorem Work.unreturn_station (w : Work) (t : Nat) : (w.unreturn t).station = w.station := rfl
@[simp] theorem Work.unreturn_stands (w : Work) (t : Nat) : (w.unreturn t).stands = w.stands := rfl
@[simp] theorem Work.unreturn_seq (w : Work) (t : Nat) : (w.unreturn t).seq = w.seq := rfl
@[simp] theorem Work.unreturn_prop (w : Work) (t : Nat) : (w.unreturn t).prop = w.prop := rfl
@[simp] theorem Work.unreturn_sheet (w : Work) (t : Nat) : (w.unreturn t).sheet = w.sheet := rfl
@[simp] theorem Work.unreturn_owed (w : Work) (t : Nat) : (w.unreturn t).owed = w.owed := rfl

/-! ### `Work.updOrder` -/

@[simp] theorem Work.updOrder_alarms (w : Work) (t : Nat) (f : Order → Order) : (w.updOrder t f).alarms = w.alarms := rfl
@[simp] theorem Work.updOrder_notices (w : Work) (t : Nat) (f : Order → Order) : (w.updOrder t f).notices = w.notices := rfl
@[simp] theorem Work.updOrder_cues (w : Work) (t : Nat) (f : Order → Order) : (w.updOrder t f).cues = w.cues := rfl
@[simp] theorem Work.updOrder_track (w : Work) (t : Nat) (f : Order → Order) : (w.updOrder t f).track = w.track := rfl
@[simp] theorem Work.updOrder_station (w : Work) (t : Nat) (f : Order → Order) : (w.updOrder t f).station = w.station := rfl
@[simp] theorem Work.updOrder_stands (w : Work) (t : Nat) (f : Order → Order) : (w.updOrder t f).stands = w.stands := rfl
@[simp] theorem Work.updOrder_prop (w : Work) (t : Nat) (f : Order → Order) : (w.updOrder t f).prop = w.prop := rfl
@[simp] theorem Work.updOrder_sheet (w : Work) (t : Nat) (f : Order → Order) : (w.updOrder t f).sheet = w.sheet := rfl
@[simp] theorem Work.updOrder_owed (w : Work) (t : Nat) (f : Order → Order) : (w.updOrder t f).owed = w.owed := rfl

/-! ### `Work.updTallies` -/

@[simp] theorem Work.updTallies_alarms (w : Work) (t : Nat) (f : Tallies → Tallies) : (w.updTallies t f).alarms = w.alarms := rfl
@[simp] theorem Work.updTallies_notices (w : Work) (t : Nat) (f : Tallies → Tallies) : (w.updTallies t f).notices = w.notices := rfl
@[simp] theorem Work.updTallies_cues (w : Work) (t : Nat) (f : Tallies → Tallies) : (w.updTallies t f).cues = w.cues := rfl
@[simp] theorem Work.updTallies_track (w : Work) (t : Nat) (f : Tallies → Tallies) : (w.updTallies t f).track = w.track := rfl
@[simp] theorem Work.updTallies_station (w : Work) (t : Nat) (f : Tallies → Tallies) : (w.updTallies t f).station = w.station := rfl
@[simp] theorem Work.updTallies_stands (w : Work) (t : Nat) (f : Tallies → Tallies) : (w.updTallies t f).stands = w.stands := rfl
@[simp] theorem Work.updTallies_prop (w : Work) (t : Nat) (f : Tallies → Tallies) : (w.updTallies t f).prop = w.prop := rfl
@[simp] theorem Work.updTallies_sheet (w : Work) (t : Nat) (f : Tallies → Tallies) : (w.updTallies t f).sheet = w.sheet := rfl
@[simp] theorem Work.updTallies_owed (w : Work) (t : Nat) (f : Tallies → Tallies) : (w.updTallies t f).owed = w.owed := rfl

/-! ### `Work.setRamp` -/

@[simp] theorem Work.setRamp_alarms (w : Work) (i : StationIx) (r : Option Ramp) : (w.setRamp i r).alarms = w.alarms := rfl
@[simp] theorem Work.setRamp_notices (w : Work) (i : StationIx) (r : Option Ramp) : (w.setRamp i r).notices = w.notices := rfl
@[simp] theorem Work.setRamp_cues (w : Work) (i : StationIx) (r : Option Ramp) : (w.setRamp i r).cues = w.cues := rfl
@[simp] theorem Work.setRamp_track (w : Work) (i : StationIx) (r : Option Ramp) : (w.setRamp i r).track = w.track := rfl
@[simp] theorem Work.setRamp_stands (w : Work) (i : StationIx) (r : Option Ramp) : (w.setRamp i r).stands = w.stands := rfl
@[simp] theorem Work.setRamp_seq (w : Work) (i : StationIx) (r : Option Ramp) : (w.setRamp i r).seq = w.seq := rfl
@[simp] theorem Work.setRamp_prop (w : Work) (i : StationIx) (r : Option Ramp) : (w.setRamp i r).prop = w.prop := rfl
@[simp] theorem Work.setRamp_sheet (w : Work) (i : StationIx) (r : Option Ramp) : (w.setRamp i r).sheet = w.sheet := rfl
@[simp] theorem Work.setRamp_owed (w : Work) (i : StationIx) (r : Option Ramp) : (w.setRamp i r).owed = w.owed := rfl

/-! ### `Work.setCurrent` -/

@[simp] theorem Work.setCurrent_alarms (w : Work) (i : StationIx) (v : Nat) : (w.setCurrent i v).alarms = w.alarms := rfl
@[simp] theorem Work.setCurrent_notices (w : Work) (i : StationIx) (v : Nat) : (w.setCurrent i v).notices = w.notices := rfl
@[simp] theorem Work.setCurrent_cues (w : Work) (i : StationIx) (v : Nat) : (w.setCurrent i v).cues = w.cues := rfl
@[simp] theorem Work.setCurrent_track (w : Work) (i : StationIx) (v : Nat) : (w.setCurrent i v).track = w.track := rfl
@[simp] theorem Work.setCurrent_stands (w : Work) (i : StationIx) (v : Nat) : (w.setCurrent i v).stands = w.stands := rfl
@[simp] theorem Work.setCurrent_seq (w : Work) (i : StationIx) (v : Nat) : (w.setCurrent i v).seq = w.seq := rfl
@[simp] theorem Work.setCurrent_prop (w : Work) (i : StationIx) (v : Nat) : (w.setCurrent i v).prop = w.prop := rfl
@[simp] theorem Work.setCurrent_sheet (w : Work) (i : StationIx) (v : Nat) : (w.setCurrent i v).sheet = w.sheet := rfl
@[simp] theorem Work.setCurrent_owed (w : Work) (i : StationIx) (v : Nat) : (w.setCurrent i v).owed = w.owed := rfl

/-! ### `Work.updProposal` -/

@[simp] theorem Work.updProposal_alarms (w : Work) (t : Nat) (f : Proposal → Proposal) : (w.updProposal t f).alarms = w.alarms := rfl
@[simp] theorem Work.updProposal_notices (w : Work) (t : Nat) (f : Proposal → Proposal) : (w.updProposal t f).notices = w.notices := rfl
@[simp] theorem Work.updProposal_cues (w : Work) (t : Nat) (f : Proposal → Proposal) : (w.updProposal t f).cues = w.cues := rfl
@[simp] theorem Work.updProposal_track (w : Work) (t : Nat) (f : Proposal → Proposal) : (w.updProposal t f).track = w.track := rfl
@[simp] theorem Work.updProposal_station (w : Work) (t : Nat) (f : Proposal → Proposal) : (w.updProposal t f).station = w.station := rfl
@[simp] theorem Work.updProposal_stands (w : Work) (t : Nat) (f : Proposal → Proposal) : (w.updProposal t f).stands = w.stands := rfl
@[simp] theorem Work.updProposal_seq (w : Work) (t : Nat) (f : Proposal → Proposal) : (w.updProposal t f).seq = w.seq := rfl
@[simp] theorem Work.updProposal_sheet (w : Work) (t : Nat) (f : Proposal → Proposal) : (w.updProposal t f).sheet = w.sheet := rfl
@[simp] theorem Work.updProposal_owed (w : Work) (t : Nat) (f : Proposal → Proposal) : (w.updProposal t f).owed = w.owed := rfl

/-! ### `Work.giveUp` -/

@[simp] theorem Work.giveUp_alarms (w : Work) (r : Role) (t : Nat) : (w.giveUp r t).alarms = w.alarms := rfl
@[simp] theorem Work.giveUp_notices (w : Work) (r : Role) (t : Nat) : (w.giveUp r t).notices = w.notices := rfl
@[simp] theorem Work.giveUp_cues (w : Work) (r : Role) (t : Nat) : (w.giveUp r t).cues = w.cues := rfl
@[simp] theorem Work.giveUp_track (w : Work) (r : Role) (t : Nat) : (w.giveUp r t).track = w.track := rfl
@[simp] theorem Work.giveUp_station (w : Work) (r : Role) (t : Nat) : (w.giveUp r t).station = w.station := rfl
@[simp] theorem Work.giveUp_stands (w : Work) (r : Role) (t : Nat) : (w.giveUp r t).stands = w.stands := rfl
@[simp] theorem Work.giveUp_seq (w : Work) (r : Role) (t : Nat) : (w.giveUp r t).seq = w.seq := rfl
@[simp] theorem Work.giveUp_sheet (w : Work) (r : Role) (t : Nat) : (w.giveUp r t).sheet = w.sheet := rfl
@[simp] theorem Work.giveUp_owed (w : Work) (r : Role) (t : Nat) : (w.giveUp r t).owed = w.owed := rfl

/-! ### `Work.giveUpAll` -/

@[simp] theorem Work.giveUpAll_alarms (w : Work) (r : Role) : (w.giveUpAll r).alarms = w.alarms := rfl
@[simp] theorem Work.giveUpAll_notices (w : Work) (r : Role) : (w.giveUpAll r).notices = w.notices := rfl
@[simp] theorem Work.giveUpAll_cues (w : Work) (r : Role) : (w.giveUpAll r).cues = w.cues := rfl
@[simp] theorem Work.giveUpAll_track (w : Work) (r : Role) : (w.giveUpAll r).track = w.track := rfl
@[simp] theorem Work.giveUpAll_station (w : Work) (r : Role) : (w.giveUpAll r).station = w.station := rfl
@[simp] theorem Work.giveUpAll_stands (w : Work) (r : Role) : (w.giveUpAll r).stands = w.stands := rfl
@[simp] theorem Work.giveUpAll_seq (w : Work) (r : Role) : (w.giveUpAll r).seq = w.seq := rfl
@[simp] theorem Work.giveUpAll_sheet (w : Work) (r : Role) : (w.giveUpAll r).sheet = w.sheet := rfl
@[simp] theorem Work.giveUpAll_owed (w : Work) (r : Role) : (w.giveUpAll r).owed = w.owed := rfl

/-! ### `Work.oweDue` -/

@[simp] theorem Work.oweDue_alarms (w : Work) : w.oweDue.alarms = w.alarms := rfl
@[simp] theorem Work.oweDue_notices (w : Work) : w.oweDue.notices = w.notices := rfl
@[simp] theorem Work.oweDue_cues (w : Work) : w.oweDue.cues = w.cues := rfl
@[simp] theorem Work.oweDue_track (w : Work) : w.oweDue.track = w.track := rfl
@[simp] theorem Work.oweDue_station (w : Work) : w.oweDue.station = w.station := rfl
@[simp] theorem Work.oweDue_stands (w : Work) : w.oweDue.stands = w.stands := rfl
@[simp] theorem Work.oweDue_seq (w : Work) : w.oweDue.seq = w.seq := rfl
@[simp] theorem Work.oweDue_prop (w : Work) : w.oweDue.prop = w.prop := rfl
@[simp] theorem Work.oweDue_sheet (w : Work) : w.oweDue.sheet = w.sheet := rfl
@[simp] theorem Work.oweDue_owed (w : Work) : w.oweDue.owed = { w.owed with due := true } := rfl

/-! ### `Work.endProposal` -/

@[simp] theorem Work.endProposal_alarms (w : Work) (t : Nat) : (w.endProposal t).alarms = w.alarms := rfl
@[simp] theorem Work.endProposal_notices (w : Work) (t : Nat) : (w.endProposal t).notices = w.notices := rfl
@[simp] theorem Work.endProposal_cues (w : Work) (t : Nat) : (w.endProposal t).cues = w.cues := rfl
@[simp] theorem Work.endProposal_track (w : Work) (t : Nat) : (w.endProposal t).track = w.track := rfl
@[simp] theorem Work.endProposal_station (w : Work) (t : Nat) : (w.endProposal t).station = w.station := rfl
@[simp] theorem Work.endProposal_stands (w : Work) (t : Nat) : (w.endProposal t).stands = w.stands := rfl
@[simp] theorem Work.endProposal_seq (w : Work) (t : Nat) : (w.endProposal t).seq = w.seq := rfl
@[simp] theorem Work.endProposal_sheet (w : Work) (t : Nat) : (w.endProposal t).sheet = w.sheet := rfl

/-! ### `Work.unlink` -/

@[simp] theorem Work.unlink_alarms (w : Work) (i j : Nat) : (w.unlink i j).alarms = w.alarms := rfl
@[simp] theorem Work.unlink_notices (w : Work) (i j : Nat) : (w.unlink i j).notices = w.notices := rfl
@[simp] theorem Work.unlink_cues (w : Work) (i j : Nat) : (w.unlink i j).cues = w.cues := rfl
@[simp] theorem Work.unlink_track (w : Work) (i j : Nat) : (w.unlink i j).track = w.track := rfl
@[simp] theorem Work.unlink_station (w : Work) (i j : Nat) : (w.unlink i j).station = w.station := rfl
@[simp] theorem Work.unlink_stands (w : Work) (i j : Nat) : (w.unlink i j).stands = w.stands := rfl
@[simp] theorem Work.unlink_prop (w : Work) (i j : Nat) : (w.unlink i j).prop = w.prop := rfl
@[simp] theorem Work.unlink_sheet (w : Work) (i j : Nat) : (w.unlink i j).sheet = w.sheet := rfl
@[simp] theorem Work.unlink_owed (w : Work) (i j : Nat) : (w.unlink i j).owed = w.owed := rfl

/-! ### `Work.link` -/

@[simp] theorem Work.link_alarms (w : Work) (i j : Nat) (m : Mark) : (w.link i j m).alarms = w.alarms := rfl
@[simp] theorem Work.link_notices (w : Work) (i j : Nat) (m : Mark) : (w.link i j m).notices = w.notices := rfl
@[simp] theorem Work.link_cues (w : Work) (i j : Nat) (m : Mark) : (w.link i j m).cues = w.cues := rfl
@[simp] theorem Work.link_track (w : Work) (i j : Nat) (m : Mark) : (w.link i j m).track = w.track := rfl
@[simp] theorem Work.link_station (w : Work) (i j : Nat) (m : Mark) : (w.link i j m).station = w.station := rfl
@[simp] theorem Work.link_stands (w : Work) (i j : Nat) (m : Mark) : (w.link i j m).stands = w.stands := rfl
@[simp] theorem Work.link_prop (w : Work) (i j : Nat) (m : Mark) : (w.link i j m).prop = w.prop := rfl
@[simp] theorem Work.link_sheet (w : Work) (i j : Nat) (m : Mark) : (w.link i j m).sheet = w.sheet := rfl
@[simp] theorem Work.link_owed (w : Work) (i j : Nat) (m : Mark) : (w.link i j m).owed = w.owed := rfl

/-! ### `Work.beginRun` -/

@[simp] theorem Work.beginRun_alarms (w : Work) (f : Nat) (m : Mark) : (w.beginRun f m).alarms = w.alarms := rfl
@[simp] theorem Work.beginRun_notices (w : Work) (f : Nat) (m : Mark) : (w.beginRun f m).notices = w.notices := rfl
@[simp] theorem Work.beginRun_cues (w : Work) (f : Nat) (m : Mark) : (w.beginRun f m).cues = w.cues := rfl
@[simp] theorem Work.beginRun_track (w : Work) (f : Nat) (m : Mark) : (w.beginRun f m).track = w.track := rfl
@[simp] theorem Work.beginRun_station (w : Work) (f : Nat) (m : Mark) : (w.beginRun f m).station = w.station := rfl
@[simp] theorem Work.beginRun_stands (w : Work) (f : Nat) (m : Mark) : (w.beginRun f m).stands = w.stands := rfl
@[simp] theorem Work.beginRun_prop (w : Work) (f : Nat) (m : Mark) : (w.beginRun f m).prop = w.prop := rfl
@[simp] theorem Work.beginRun_sheet (w : Work) (f : Nat) (m : Mark) : (w.beginRun f m).sheet = w.sheet := rfl
@[simp] theorem Work.beginRun_owed (w : Work) (f : Nat) (m : Mark) : (w.beginRun f m).owed = w.owed := rfl

/-! ### `Work.enterOrder` -/

@[simp] theorem Work.enterOrder_alarms (w : Work) (g : OrderSpec) (x : OrderPlace) : (w.enterOrder g x).alarms = w.alarms := rfl
@[simp] theorem Work.enterOrder_notices (w : Work) (g : OrderSpec) (x : OrderPlace) : (w.enterOrder g x).notices = w.notices := rfl
@[simp] theorem Work.enterOrder_cues (w : Work) (g : OrderSpec) (x : OrderPlace) : (w.enterOrder g x).cues = w.cues := rfl
@[simp] theorem Work.enterOrder_track (w : Work) (g : OrderSpec) (x : OrderPlace) : (w.enterOrder g x).track = w.track := rfl
@[simp] theorem Work.enterOrder_station (w : Work) (g : OrderSpec) (x : OrderPlace) : (w.enterOrder g x).station = w.station := rfl
@[simp] theorem Work.enterOrder_stands (w : Work) (g : OrderSpec) (x : OrderPlace) : (w.enterOrder g x).stands = w.stands := rfl
@[simp] theorem Work.enterOrder_prop (w : Work) (g : OrderSpec) (x : OrderPlace) : (w.enterOrder g x).prop = w.prop := rfl
@[simp] theorem Work.enterOrder_sheet (w : Work) (g : OrderSpec) (x : OrderPlace) : (w.enterOrder g x).sheet = w.sheet := rfl
@[simp] theorem Work.enterOrder_owed (w : Work) (g : OrderSpec) (x : OrderPlace) : (w.enterOrder g x).owed = w.owed := rfl

/-! ### `Work.dropOrder` -/

@[simp] theorem Work.dropOrder_alarms (w : Work) (t : Nat) : (w.dropOrder t).alarms = w.alarms := rfl
@[simp] theorem Work.dropOrder_notices (w : Work) (t : Nat) : (w.dropOrder t).notices = w.notices := rfl
@[simp] theorem Work.dropOrder_cues (w : Work) (t : Nat) : (w.dropOrder t).cues = w.cues := rfl
@[simp] theorem Work.dropOrder_track (w : Work) (t : Nat) : (w.dropOrder t).track = w.track := rfl
@[simp] theorem Work.dropOrder_station (w : Work) (t : Nat) : (w.dropOrder t).station = w.station := rfl
@[simp] theorem Work.dropOrder_stands (w : Work) (t : Nat) : (w.dropOrder t).stands = w.stands := rfl
@[simp] theorem Work.dropOrder_prop (w : Work) (t : Nat) : (w.dropOrder t).prop = w.prop := rfl
@[simp] theorem Work.dropOrder_sheet (w : Work) (t : Nat) : (w.dropOrder t).sheet = w.sheet := rfl
@[simp] theorem Work.dropOrder_owed (w : Work) (t : Nat) : (w.dropOrder t).owed = w.owed := rfl

/-! ### `Work.release` -/

@[simp] theorem Work.release_alarms (w : Work) (o : Order) : (w.release o).alarms = w.alarms := rfl
@[simp] theorem Work.release_notices (w : Work) (o : Order) : (w.release o).notices = w.notices := rfl
@[simp] theorem Work.release_cues (w : Work) (o : Order) : (w.release o).cues = w.cues := rfl
@[simp] theorem Work.release_track (w : Work) (o : Order) : (w.release o).track = w.track := rfl
@[simp] theorem Work.release_station (w : Work) (o : Order) : (w.release o).station = w.station := rfl
@[simp] theorem Work.release_stands (w : Work) (o : Order) : (w.release o).stands = w.stands := rfl
@[simp] theorem Work.release_prop (w : Work) (o : Order) : (w.release o).prop = w.prop := rfl
@[simp] theorem Work.release_sheet (w : Work) (o : Order) : (w.release o).sheet = w.sheet := rfl
@[simp] theorem Work.release_owed (w : Work) (o : Order) : (w.release o).owed = w.owed := rfl

/-! ### `Work.takeNotice` -/

@[simp] theorem Work.takeNotice_alarms (w : Work) (p : Port) (n : Notice) : (w.takeNotice p n).alarms = w.alarms := rfl
@[simp] theorem Work.takeNotice_cues (w : Work) (p : Port) (n : Notice) : (w.takeNotice p n).cues = w.cues := rfl
@[simp] theorem Work.takeNotice_track (w : Work) (p : Port) (n : Notice) : (w.takeNotice p n).track = w.track := rfl
@[simp] theorem Work.takeNotice_station (w : Work) (p : Port) (n : Notice) : (w.takeNotice p n).station = w.station := rfl
@[simp] theorem Work.takeNotice_stands (w : Work) (p : Port) (n : Notice) : (w.takeNotice p n).stands = w.stands := rfl
@[simp] theorem Work.takeNotice_seq (w : Work) (p : Port) (n : Notice) : (w.takeNotice p n).seq = w.seq := rfl
@[simp] theorem Work.takeNotice_prop (w : Work) (p : Port) (n : Notice) : (w.takeNotice p n).prop = w.prop := rfl
@[simp] theorem Work.takeNotice_sheet (w : Work) (p : Port) (n : Notice) : (w.takeNotice p n).sheet = w.sheet := rfl
@[simp] theorem Work.takeNotice_owed (w : Work) (p : Port) (n : Notice) : (w.takeNotice p n).owed = w.owed := rfl

/-! ### `Work.lineReset` -/

@[simp] theorem Work.lineReset_alarms (w : Work) : (w.lineReset).alarms = w.alarms := rfl
@[simp] theorem Work.lineReset_cues (w : Work) : (w.lineReset).cues = w.cues := rfl

/-! ### `Env.setLink` -/

@[simp] theorem Env.setLink_now (e : Env) (p : Port) (l : Link) : (e.setLink p l).now = e.now := rfl
@[simp] theorem Env.setLink_nextClose (e : Env) (p : Port) (l : Link) : (e.setLink p l).nextClose = e.nextClose := rfl
@[simp] theorem Env.setLink_reofferAt (e : Env) (p : Port) (l : Link) : (e.setLink p l).reofferAt = e.reofferAt := rfl
@[simp] theorem Env.setLink_encoders (e : Env) (p : Port) (l : Link) : (e.setLink p l).encoders = e.encoders := rfl
@[simp] theorem Env.setLink_bridges (e : Env) (p : Port) (l : Link) : (e.setLink p l).bridges = e.bridges := rfl
@[simp] theorem Env.setLink_configured (e : Env) (p : Port) (l : Link) : (e.setLink p l).configured = e.configured := rfl
@[simp] theorem Env.setLink_table (e : Env) (p : Port) (l : Link) : (e.setLink p l).table = e.table := rfl
@[simp] theorem Env.setLink_stations (e : Env) (p : Port) (l : Link) : (e.setLink p l).stations = e.stations := rfl
@[simp] theorem Env.setLink_stationsValid (e : Env) (p : Port) (l : Link) : (e.setLink p l).stationsValid = e.stationsValid := rfl
@[simp] theorem Env.setLink_staged (e : Env) (p : Port) (l : Link) : (e.setLink p l).staged = e.staged := rfl
@[simp] theorem Env.setLink_recipes (e : Env) (p : Port) (l : Link) : (e.setLink p l).recipes = e.recipes := rfl
@[simp] theorem Env.setLink_profiles (e : Env) (p : Port) (l : Link) : (e.setLink p l).profiles = e.profiles := rfl
@[simp] theorem Env.setLink_settings (e : Env) (p : Port) (l : Link) : (e.setLink p l).settings = e.settings := rfl
@[simp] theorem Env.setLink_run (e : Env) (p : Port) (l : Link) : (e.setLink p l).run = e.run := rfl
@[simp] theorem Env.setLink_classes (e : Env) (p : Port) (l : Link) : (e.setLink p l).classes = e.classes := rfl
@[simp] theorem Env.setLink_ring (e : Env) (p : Port) (l : Link) : (e.setLink p l).ring = e.ring := rfl
@[simp] theorem Env.setLink_baseFloors (e : Env) (p : Port) (l : Link) : (e.setLink p l).baseFloors = e.baseFloors := rfl
@[simp] theorem Env.setLink_alarmEnables (e : Env) (p : Port) (l : Link) : (e.setLink p l).alarmEnables = e.alarmEnables := rfl
@[simp] theorem Env.setLink_partOpen (e : Env) (p : Port) (l : Link) : (e.setLink p l).partOpen = e.partOpen := rfl

/-! ### `Env.updLink` -/

@[simp] theorem Env.updLink_now (e : Env) (p : Port) (f : Link → Link) : (e.updLink p f).now = e.now := rfl
@[simp] theorem Env.updLink_nextClose (e : Env) (p : Port) (f : Link → Link) : (e.updLink p f).nextClose = e.nextClose := rfl
@[simp] theorem Env.updLink_reofferAt (e : Env) (p : Port) (f : Link → Link) : (e.updLink p f).reofferAt = e.reofferAt := rfl
@[simp] theorem Env.updLink_encoders (e : Env) (p : Port) (f : Link → Link) : (e.updLink p f).encoders = e.encoders := rfl
@[simp] theorem Env.updLink_bridges (e : Env) (p : Port) (f : Link → Link) : (e.updLink p f).bridges = e.bridges := rfl
@[simp] theorem Env.updLink_configured (e : Env) (p : Port) (f : Link → Link) : (e.updLink p f).configured = e.configured := rfl
@[simp] theorem Env.updLink_table (e : Env) (p : Port) (f : Link → Link) : (e.updLink p f).table = e.table := rfl
@[simp] theorem Env.updLink_stations (e : Env) (p : Port) (f : Link → Link) : (e.updLink p f).stations = e.stations := rfl
@[simp] theorem Env.updLink_stationsValid (e : Env) (p : Port) (f : Link → Link) : (e.updLink p f).stationsValid = e.stationsValid := rfl
@[simp] theorem Env.updLink_staged (e : Env) (p : Port) (f : Link → Link) : (e.updLink p f).staged = e.staged := rfl
@[simp] theorem Env.updLink_recipes (e : Env) (p : Port) (f : Link → Link) : (e.updLink p f).recipes = e.recipes := rfl
@[simp] theorem Env.updLink_profiles (e : Env) (p : Port) (f : Link → Link) : (e.updLink p f).profiles = e.profiles := rfl
@[simp] theorem Env.updLink_settings (e : Env) (p : Port) (f : Link → Link) : (e.updLink p f).settings = e.settings := rfl
@[simp] theorem Env.updLink_run (e : Env) (p : Port) (f : Link → Link) : (e.updLink p f).run = e.run := rfl
@[simp] theorem Env.updLink_classes (e : Env) (p : Port) (f : Link → Link) : (e.updLink p f).classes = e.classes := rfl
@[simp] theorem Env.updLink_ring (e : Env) (p : Port) (f : Link → Link) : (e.updLink p f).ring = e.ring := rfl
@[simp] theorem Env.updLink_baseFloors (e : Env) (p : Port) (f : Link → Link) : (e.updLink p f).baseFloors = e.baseFloors := rfl
@[simp] theorem Env.updLink_alarmEnables (e : Env) (p : Port) (f : Link → Link) : (e.updLink p f).alarmEnables = e.alarmEnables := rfl
@[simp] theorem Env.updLink_partOpen (e : Env) (p : Port) (f : Link → Link) : (e.updLink p f).partOpen = e.partOpen := rfl

/-! ### `Env.setEncoder` -/

@[simp] theorem Env.setEncoder_now (e : Env) (c : Encoder) (r : EncoderRec) : (e.setEncoder c r).now = e.now := rfl
@[simp] theorem Env.setEncoder_nextClose (e : Env) (c : Encoder) (r : EncoderRec) : (e.setEncoder c r).nextClose = e.nextClose := rfl
@[simp] theorem Env.setEncoder_reofferAt (e : Env) (c : Encoder) (r : EncoderRec) : (e.setEncoder c r).reofferAt = e.reofferAt := rfl
@[simp] theorem Env.setEncoder_bridges (e : Env) (c : Encoder) (r : EncoderRec) : (e.setEncoder c r).bridges = e.bridges := rfl
@[simp] theorem Env.setEncoder_configured (e : Env) (c : Encoder) (r : EncoderRec) : (e.setEncoder c r).configured = e.configured := rfl
@[simp] theorem Env.setEncoder_table (e : Env) (c : Encoder) (r : EncoderRec) : (e.setEncoder c r).table = e.table := rfl
@[simp] theorem Env.setEncoder_stations (e : Env) (c : Encoder) (r : EncoderRec) : (e.setEncoder c r).stations = e.stations := rfl
@[simp] theorem Env.setEncoder_stationsValid (e : Env) (c : Encoder) (r : EncoderRec) : (e.setEncoder c r).stationsValid = e.stationsValid := rfl
@[simp] theorem Env.setEncoder_staged (e : Env) (c : Encoder) (r : EncoderRec) : (e.setEncoder c r).staged = e.staged := rfl
@[simp] theorem Env.setEncoder_recipes (e : Env) (c : Encoder) (r : EncoderRec) : (e.setEncoder c r).recipes = e.recipes := rfl
@[simp] theorem Env.setEncoder_profiles (e : Env) (c : Encoder) (r : EncoderRec) : (e.setEncoder c r).profiles = e.profiles := rfl
@[simp] theorem Env.setEncoder_settings (e : Env) (c : Encoder) (r : EncoderRec) : (e.setEncoder c r).settings = e.settings := rfl
@[simp] theorem Env.setEncoder_run (e : Env) (c : Encoder) (r : EncoderRec) : (e.setEncoder c r).run = e.run := rfl
@[simp] theorem Env.setEncoder_classes (e : Env) (c : Encoder) (r : EncoderRec) : (e.setEncoder c r).classes = e.classes := rfl
@[simp] theorem Env.setEncoder_ring (e : Env) (c : Encoder) (r : EncoderRec) : (e.setEncoder c r).ring = e.ring := rfl
@[simp] theorem Env.setEncoder_baseFloors (e : Env) (c : Encoder) (r : EncoderRec) : (e.setEncoder c r).baseFloors = e.baseFloors := rfl
@[simp] theorem Env.setEncoder_alarmEnables (e : Env) (c : Encoder) (r : EncoderRec) : (e.setEncoder c r).alarmEnables = e.alarmEnables := rfl
@[simp] theorem Env.setEncoder_partOpen (e : Env) (c : Encoder) (r : EncoderRec) : (e.setEncoder c r).partOpen = e.partOpen := rfl
@[simp] theorem Env.setEncoder_links (e : Env) (c : Encoder) (r : EncoderRec) : (e.setEncoder c r).links = e.links := rfl

/-! ### `Env.reach` -/

@[simp] theorem Env.reach_nextClose (e : Env) (t : Nat) : (e.reach t).nextClose = e.nextClose := rfl
@[simp] theorem Env.reach_reofferAt (e : Env) (t : Nat) : (e.reach t).reofferAt = e.reofferAt := rfl
@[simp] theorem Env.reach_encoders (e : Env) (t : Nat) : (e.reach t).encoders = e.encoders := rfl
@[simp] theorem Env.reach_bridges (e : Env) (t : Nat) : (e.reach t).bridges = e.bridges := rfl
@[simp] theorem Env.reach_configured (e : Env) (t : Nat) : (e.reach t).configured = e.configured := rfl
@[simp] theorem Env.reach_table (e : Env) (t : Nat) : (e.reach t).table = e.table := rfl
@[simp] theorem Env.reach_stations (e : Env) (t : Nat) : (e.reach t).stations = e.stations := rfl
@[simp] theorem Env.reach_stationsValid (e : Env) (t : Nat) : (e.reach t).stationsValid = e.stationsValid := rfl
@[simp] theorem Env.reach_staged (e : Env) (t : Nat) : (e.reach t).staged = e.staged := rfl
@[simp] theorem Env.reach_recipes (e : Env) (t : Nat) : (e.reach t).recipes = e.recipes := rfl
@[simp] theorem Env.reach_profiles (e : Env) (t : Nat) : (e.reach t).profiles = e.profiles := rfl
@[simp] theorem Env.reach_settings (e : Env) (t : Nat) : (e.reach t).settings = e.settings := rfl
@[simp] theorem Env.reach_run (e : Env) (t : Nat) : (e.reach t).run = e.run := rfl
@[simp] theorem Env.reach_classes (e : Env) (t : Nat) : (e.reach t).classes = e.classes := rfl
@[simp] theorem Env.reach_ring (e : Env) (t : Nat) : (e.reach t).ring = e.ring := rfl
@[simp] theorem Env.reach_baseFloors (e : Env) (t : Nat) : (e.reach t).baseFloors = e.baseFloors := rfl
@[simp] theorem Env.reach_alarmEnables (e : Env) (t : Nat) : (e.reach t).alarmEnables = e.alarmEnables := rfl
@[simp] theorem Env.reach_partOpen (e : Env) (t : Nat) : (e.reach t).partOpen = e.partOpen := rfl
@[simp] theorem Env.reach_links (e : Env) (t : Nat) : (e.reach t).links = e.links := rfl

/-! ### What is set

An item is read by its index, or by the value of that index: the second is the form `simp` brings it to. -/

@[simp] theorem Work.setStand_self_val (w : Work) (s : Stand) (r : StandRec) :
    (w.setStand s r).stands[s.val] = r := by
  simp [Work.setStand]

theorem Work.setStand_self (w : Work) (s : Stand) (r : StandRec) : (w.setStand s r).stands[s] = r :=
  Work.setStand_self_val w s r

theorem Work.setStand_other (w : Work) (s t : Stand) (r : StandRec) (h : t ≠ s) :
    (w.setStand s r).stands[t] = w.stands[t] := by
  have h' : s.val ≠ t.val := fun x => h (Fin.ext x.symm)
  simp [Work.setStand, h']

@[simp] theorem Work.updStand_self_val (w : Work) (s : Stand) (f : StandRec → StandRec) :
    (w.updStand s f).stands[s.val] = f w.stands[s.val] := by
  simp [Work.updStand, Work.setStand]

theorem Work.updStand_self (w : Work) (s : Stand) (f : StandRec → StandRec) : (w.updStand s f).stands[s] = f w.stands[s] :=
  Work.updStand_self_val w s f

theorem Work.updStand_other (w : Work) (s t : Stand) (f : StandRec → StandRec) (h : t ≠ s) :
    (w.updStand s f).stands[t] = w.stands[t] := by
  have h' : s.val ≠ t.val := fun x => h (Fin.ext x.symm)
  simp [Work.updStand, Work.setStand, h']

@[simp] theorem Work.setDesk_self_val (w : Work) (p : Port) (d : Desk) :
    (w.setDesk p d).notices.desks[p.val] = d := by
  simp [Work.setDesk]

theorem Work.setDesk_self (w : Work) (p : Port) (d : Desk) : (w.setDesk p d).notices.desks[p] = d :=
  Work.setDesk_self_val w p d

theorem Work.setDesk_other (w : Work) (p q : Port) (d : Desk) (h : q ≠ p) :
    (w.setDesk p d).notices.desks[q] = w.notices.desks[q] := by
  have h' : p.val ≠ q.val := fun x => h (Fin.ext x.symm)
  simp [Work.setDesk, h']

@[simp] theorem Env.updLink_self_val (e : Env) (p : Port) (f : Link → Link) :
    (e.updLink p f).links[p.val] = f e.links[p.val] := by
  simp [Env.updLink, Env.setLink]

theorem Env.updLink_self (e : Env) (p : Port) (f : Link → Link) : (e.updLink p f).links[p] = f e.links[p] :=
  Env.updLink_self_val e p f

theorem Env.updLink_other (e : Env) (p q : Port) (f : Link → Link) (h : q ≠ p) :
    (e.updLink p f).links[q] = e.links[q] := by
  have h' : p.val ≠ q.val := fun x => h (Fin.ext x.symm)
  simp [Env.updLink, Env.setLink, h']

@[simp] theorem Env.setEncoder_self_val (e : Env) (c : Encoder) (r : EncoderRec) :
    (e.setEncoder c r).encoders[c.val] = r := by
  simp [Env.setEncoder]

theorem Env.setEncoder_self (e : Env) (c : Encoder) (r : EncoderRec) : (e.setEncoder c r).encoders[c] = r :=
  Env.setEncoder_self_val e c r

theorem Env.setEncoder_other (e : Env) (c d : Encoder) (r : EncoderRec) (h : d ≠ c) :
    (e.setEncoder c r).encoders[d] = e.encoders[d] := by
  have h' : c.val ≠ d.val := fun x => h (Fin.ext x.symm)
  simp [Env.setEncoder, h']

@[simp] theorem Work.setDesk_returned (w : Work) (p : Port) (d : Desk) :
    (w.setDesk p d).notices.returned = w.notices.returned := rfl

@[simp] theorem Env.reach_now (e : Env) (t : Nat) : (e.reach t).now = max e.now t := rfl

@[simp] theorem Work.updOrder_seq (w : Work) (t : Nat) (f : Order → Order) :
    (w.updOrder t f).seq = w.seq.update t f := rfl

@[simp] theorem Work.setRamp_current (w : Work) (i : StationIx) (r : Option Ramp) :
    (w.setRamp i r).station.current = w.station.current := rfl

@[simp] theorem Work.setRamp_slitters (w : Work) (i : StationIx) (r : Option Ramp) :
    (w.setRamp i r).station.slitters = w.station.slitters := rfl

@[simp] theorem Work.setCurrent_ramps (w : Work) (i : StationIx) (v : Nat) :
    (w.setCurrent i v).station.ramps = w.station.ramps := rfl

@[simp] theorem Work.setCurrent_slitters (w : Work) (i : StationIx) (v : Nat) :
    (w.setCurrent i v).station.slitters = w.station.slitters := rfl

@[simp] theorem State.finish_pending (s : State) (x : Env × Work) : (s.finish x).pending = s.pending := rfl
@[simp] theorem State.finish_env (s : State) (x : Env × Work) : (s.finish x).env = x.1 := rfl
@[simp] theorem State.finish_work (s : State) (x : Env × Work) : (s.finish x).work = settle x.1 x.2 := rfl

end Sys2Proof.Machine
end

