-- ==== Sys2Proof/Laws/Notices.lean ====
section
/-! SUPPORT. What the notice unit and the alarm record can change: themselves, and the partial responses of proposals
whose notices are dropped; and with no proposal outstanding, themselves alone. -/

namespace Sys2Proof.Machine

theorem NoticeFrame.refl (w : Work) : NoticeFrame w w := ⟨rfl, rfl, rfl, rfl, rfl, rfl, rfl, rfl, id⟩

theorem NoticeFrame.trans {a b c : Work} (h : NoticeFrame a b) (g : NoticeFrame b c) : NoticeFrame a c where
  cues := g.cues.trans h.cues
  track := g.track.trans h.track
  station := g.station.trans h.station
  stands := g.stands.trans h.stands
  seq := g.seq.trans h.seq
  sheet := g.sheet.trans h.sheet
  owed := g.owed.trans h.owed
  propTag := g.propTag.trans h.propTag
  noProposal x := g.noProposal (h.noProposal x)

/-- A state with other notices and another alarm record. -/
theorem NoticeFrame.replace (w : Work) (a : AlarmRecord) (n : NoticeUnit) :
    NoticeFrame w { w with alarms := a, notices := n } := ⟨rfl, rfl, rfl, rfl, rfl, rfl, rfl, rfl, id⟩

theorem setDesk_frame (w : Work) (p : Port) (d : Desk) : NoticeFrame w (w.setDesk p d) :=
  NoticeFrame.replace w w.alarms _

theorem offerAt_frame (w : Work) (p : Port) (n : Notice) : NoticeFrame w (w.offerAt p n) := setDesk_frame w p _

theorem coalesce_frame (w : Work) (dest : Option Port) (b : NoticeBody) (n : Nat) :
    NoticeFrame w (coalesce w dest b n) := by
  unfold coalesce
  split
  · exact setDesk_frame w _ _
  · exact NoticeFrame.refl w

theorem tryDirected_frame {e : Env} {n : Notice} {dest : Option Port} {w w' : Work}
    (h : tryDirected e n dest w = some w') : NoticeFrame w w' := by
  unfold tryDirected at h
  repeat' split at h
  all_goals first
    | cases h; exact coalesce_frame _ _ _ _
    | cases h; exact offerAt_frame _ _ _
    | cases h

theorem enterReturn_frame (n : Notice) (w : Work) : NoticeFrame w (enterReturn n w).1 := by
  unfold enterReturn
  dsimp only
  repeat' split
  all_goals exact NoticeFrame.replace w w.alarms _

theorem walkFrom_frame (e : Env) (n : Notice) (start : Option Port) (lap : Bool) (first : Port) (w : Work) :
    NoticeFrame w (walkFrom e n start lap first w).1 := by
  unfold walkFrom
  split
  · exact offerAt_frame _ _ _
  · exact enterReturn_frame _ _

theorem place_frame (e : Env) (n : Notice) (w : Work) : NoticeFrame w (place e n w).1 := by
  unfold place
  split
  · split
    · next h => exact tryDirected_frame h
    · exact enterReturn_frame _ _
  · exact walkFrom_frame _ _ _ _ _ _

theorem giveUp_frame (w : Work) (r : Role) (tag : Nat) : NoticeFrame w (w.giveUp r tag) :=
  ⟨rfl, rfl, rfl, rfl, rfl, rfl, rfl, rfl, fun h => by simp [Work.giveUp, h]⟩

theorem noticeGivenUp_frame (e : Env) (n : Notice) (w : Work) : NoticeFrame w (noticeGivenUp e n w) := by
  unfold noticeGivenUp
  split
  · exact giveUp_frame _ _ _
  · exact NoticeFrame.refl w

theorem recordDrop_frame (e : Env) (d : Notice) (w : Work) : NoticeFrame w (recordDrop e d w).1 := by
  have h : ∀ a n, NoticeFrame w (noticeGivenUp e d { w with alarms := a, notices := n }) := fun a n =>
    (NoticeFrame.replace w a n).trans (noticeGivenUp_frame _ _ _)
  unfold recordDrop
  dsimp only
  split <;> exact h _ _

theorem afterPlace_frame (e : Env) (x : Work × Option Notice) : NoticeFrame x.1 (afterPlace e x).1 := by
  obtain ⟨w, d⟩ := x
  cases d with
  | none => exact NoticeFrame.refl w
  | some d => exact recordDrop_frame e d w

theorem postOnce_frame (e : Env) (b : NoticeBody) (src : Option Port) (w : Work) :
    NoticeFrame w (postOnce e b src w).1 := by
  unfold postOnce
  dsimp only
  split
  · exact (NoticeFrame.replace w w.alarms _).trans (coalesce_frame _ _ _ _)
  · exact ((NoticeFrame.replace w w.alarms _).trans (place_frame e _ _)).trans (afterPlace_frame e _)

theorem postChain_frame (e : Env) : ∀ (n : Nat) (b : NoticeBody) (src : Option Port) (w : Work),
    NoticeFrame w (postChain e n b src w)
  | 0, b, src, w => postOnce_frame e b src w
  | n + 1, b, src, w => by
    have h := postOnce_frame e b src w
    unfold postChain
    split
    · next w' hw => rw [hw] at h; exact h
    · next w' c hw => rw [hw] at h; exact h.trans (postChain_frame e n c none w')

/-- What posting a notice can change. -/
theorem post_frame (e : Env) (b : NoticeBody) (src : Option Port) (w : Work) : NoticeFrame w (post e b src w) :=
  postChain_frame e _ b src w

/-- What raising an alarm can change. -/
theorem raiseAlarm_frame (e : Env) (k : AlarmKind) (x : Subject) (w : Work) : NoticeFrame w (raiseAlarm e k x w) := by
  unfold raiseAlarm
  dsimp only
  split
  · exact (NoticeFrame.replace w _ w.notices).trans (post_frame _ _ _ _)
  · exact NoticeFrame.replace w _ w.notices

theorem finishPlace_frame (e : Env) (x : Work × Option Notice) : NoticeFrame x.1 (finishPlace e x) := by
  have h := afterPlace_frame e x
  unfold finishPlace
  split
  · next w hw => rw [hw] at h; exact h
  · next w b hw => rw [hw] at h; exact h.trans (post_frame _ _ _ _)

theorem unreturn_frame (w : Work) (t : Nat) : NoticeFrame w (w.unreturn t) := NoticeFrame.replace w w.alarms _

theorem reofferOne_frame (e : Env) (w : Work) (t : Nat) : NoticeFrame w (reofferOne e w t) := by
  unfold reofferOne
  repeat' split
  · exact NoticeFrame.refl w
  · next h => exact (tryDirected_frame h).trans (unreturn_frame _ _)
  · exact NoticeFrame.refl w
  · exact (offerAt_frame _ _ _).trans (unreturn_frame _ _)
  · exact NoticeFrame.replace w w.alarms _

theorem foldl_frame {α : Type} (f : Work → α → Work) (h : ∀ w x, NoticeFrame w (f w x)) :
    ∀ (l : List α) (w : Work), NoticeFrame w (l.foldl f w)
  | [], w => NoticeFrame.refl w
  | x :: rest, w => (h w x).trans (foldl_frame f h rest (f w x))

/-- What a re-offer can change. -/
theorem reoffer_frame (e : Env) (w : Work) : NoticeFrame w (reoffer e w) := foldl_frame _ (reofferOne_frame e) _ w

theorem afterFloor_frame (e : Env) (p : Port) (n : Nat) (w : Work) : NoticeFrame w (afterFloor e p n w) := by
  unfold afterFloor
  split
  · exact reoffer_frame e w
  · exact NoticeFrame.refl w

theorem finishTaken_frame (e : Env) (p : Port) (f : Notice → Bool) (w : Work) : NoticeFrame w (finishTaken e p f w) :=
  (setDesk_frame w p _).trans (afterFloor_frame e p _ _)

theorem undesk_frame (w : Work) (p : Port) (tag : Nat) : NoticeFrame w (w.undesk p tag) := setDesk_frame w p _

theorem giveBack_frame (e : Env) (p : Port) (w : Work) (n : Notice) : NoticeFrame w (giveBack e p w n) := by
  unfold giveBack
  split
  · exact ((undesk_frame w p _).trans (enterReturn_frame n _)).trans (finishPlace_frame e _)
  · exact ((undesk_frame w p _).trans (walkFrom_frame e n _ _ _ _)).trans (finishPlace_frame e _)

/-- What emptying a DOWN port's queues can change. -/
theorem emptyDesk_frame (e : Env) (p : Port) (w : Work) : NoticeFrame w (emptyDesk e p w) :=
  (foldl_frame _ (giveBack_frame e p) _ w).trans (afterFloor_frame e p _ _)

/-- With no proposal outstanding and nothing owed, the notice unit leaves the part between two events. -/
theorem NoticeFrame.calm {w w' : Work} (h : NoticeFrame w w') (c : w.calm) : w'.calm :=
  ⟨h.noProposal c.1, h.owed.trans c.2⟩

end Sys2Proof.Machine
end

