-- ==== Sys2Proof/Laws/Alarms.lean ====
section
/-! SUPPORT. The alarm record only gains: a raise and a posting keep every entry, its flag, and its count up to 255 (R172);
and a raised alarm stands in the record. -/

namespace Sys2Proof.Machine

/-- Every entry and overflow entry of a record stands in another, flagged where it was, with a count no lower than before
or 255. -/
structure AlarmsKept (a b : AlarmRecord) : Prop where
  entries : ∀ x ∈ a.entries, ∃ y ∈ b.entries,
    y.kind = x.kind ∧ y.subject = x.subject ∧ (x.flag = true → y.flag = true) ∧ min x.count 255 ≤ y.count
  overflow : ∀ k : Fin 16, a.overflow[k].flag = true → b.overflow[k].flag = true

theorem AlarmsKept.refl (a : AlarmRecord) : AlarmsKept a a :=
  ⟨fun x hx => ⟨x, hx, rfl, rfl, id, Nat.min_le_left _ _⟩, fun _ h => h⟩

theorem AlarmsKept.trans {a b c : AlarmRecord} (h : AlarmsKept a b) (g : AlarmsKept b c) : AlarmsKept a c where
  entries x hx := by
    obtain ⟨y, hy, k1, s1, f1, n1⟩ := h.entries x hx
    obtain ⟨z, hz, k2, s2, f2, n2⟩ := g.entries y hy
    exact ⟨z, hz, k2.trans k1, s2.trans s1, fun f => f2 (f1 f), by omega⟩
  overflow k f := g.overflow k (h.overflow k f)

/-- A raise logged (R172) keeps the record. -/
theorem log_kept (a : AlarmRecord) (k : AlarmKind) (s : Subject) : AlarmsKept a (a.log k s).1 := by
  unfold AlarmRecord.log
  split
  · refine ⟨fun x hx => ⟨if x.names k s then { x with flag := true, count := sat255 x.count } else x,
      List.mem_map_of_mem (f := fun y => if y.names k s then { y with flag := true, count := sat255 y.count } else y) hx,
      ?_⟩, fun _ h => h⟩
    split <;> simp [sat255]
  · split
    · exact ⟨fun x hx => ⟨x, List.mem_append_left _ hx, rfl, rfl, id, Nat.min_le_left _ _⟩, fun _ h => h⟩
    · refine ⟨fun x hx => ⟨x, hx, rfl, rfl, id, Nat.min_le_left _ _⟩, fun j hj => ?_⟩
      by_cases h : k.index.val = j.val
      · simp [h]
      · simpa [h] using hj

/-- A raise logged stands in the record. -/
theorem log_hasAlarm (w : Work) (k : AlarmKind) (s : Subject) :
    Work.hasAlarm { w with alarms := (w.alarms.log k s).1 } k s := by
  unfold Work.hasAlarm AlarmRecord.log
  split
  · next x hx =>
    have hn := List.find?_some hx
    refine Or.inl ⟨_, List.mem_map_of_mem (List.mem_of_find?_eq_some hx), ?_⟩
    simp [hn]
    simpa [AlarmEntry.names] using hn
  · split
    · exact Or.inl ⟨⟨k, s, true, 1⟩, by simp, rfl, rfl, rfl⟩
    · exact Or.inr (by simp)

theorem hasAlarm_kept {w w' : Work} (h : AlarmsKept w.alarms w'.alarms) {k : AlarmKind} {s : Subject}
    (g : w.hasAlarm k s) : w'.hasAlarm k s := by
  rcases g with ⟨x, hx, hk, hs, hf⟩ | g
  · obtain ⟨y, hy, k1, s1, f1, _⟩ := h.entries x hx
    exact Or.inl ⟨y, hy, k1.trans hk, s1.trans hs, f1 hf⟩
  · exact Or.inr (h.overflow _ g)

theorem coalesce_alarms (w : Work) (dest : Option Port) (b : NoticeBody) (n : Nat) :
    (coalesce w dest b n).alarms = w.alarms := by
  unfold coalesce
  split <;> rfl

theorem tryDirected_alarms {e : Env} {n : Notice} {dest : Option Port} {w w' : Work}
    (h : tryDirected e n dest w = some w') : w'.alarms = w.alarms := by
  unfold tryDirected at h
  repeat' split at h
  all_goals first
    | cases h; exact coalesce_alarms _ _ _ _
    | cases h; rfl
    | cases h

theorem enterReturn_alarms (n : Notice) (w : Work) : (enterReturn n w).1.alarms = w.alarms := by
  unfold enterReturn
  dsimp only
  repeat' split
  all_goals rfl

theorem walkFrom_alarms (e : Env) (n : Notice) (start : Option Port) (lap : Bool) (first : Port) (w : Work) :
    (walkFrom e n start lap first w).1.alarms = w.alarms := by
  unfold walkFrom
  split
  · rfl
  · exact enterReturn_alarms _ _

theorem place_alarms (e : Env) (n : Notice) (w : Work) : (place e n w).1.alarms = w.alarms := by
  unfold place
  split
  · split
    · next h => exact tryDirected_alarms h
    · exact enterReturn_alarms _ _
  · exact walkFrom_alarms _ _ _ _ _ _

theorem noticeGivenUp_alarms (e : Env) (n : Notice) (w : Work) : (noticeGivenUp e n w).alarms = w.alarms := by
  unfold noticeGivenUp
  split <;> rfl

theorem recordDrop_alarms (e : Env) (d : Notice) (w : Work) : AlarmsKept w.alarms (recordDrop e d w).1.alarms := by
  unfold recordDrop
  dsimp only
  split <;> (rw [noticeGivenUp_alarms]; exact log_kept _ _ _)

theorem afterPlace_alarms (e : Env) (x : Work × Option Notice) : AlarmsKept x.1.alarms (afterPlace e x).1.alarms := by
  obtain ⟨w, d⟩ := x
  cases d with
  | none => exact AlarmsKept.refl _
  | some d => exact recordDrop_alarms e d w

theorem postOnce_alarms (e : Env) (b : NoticeBody) (src : Option Port) (w : Work) :
    AlarmsKept w.alarms (postOnce e b src w).1.alarms := by
  unfold postOnce
  dsimp only
  split
  · rw [coalesce_alarms]; exact AlarmsKept.refl _
  · refine AlarmsKept.trans ?_ (afterPlace_alarms e _)
    rw [place_alarms]
    exact AlarmsKept.refl _

theorem postChain_alarms (e : Env) : ∀ (n : Nat) (b : NoticeBody) (src : Option Port) (w : Work),
    AlarmsKept w.alarms (postChain e n b src w).alarms
  | 0, b, src, w => postOnce_alarms e b src w
  | n + 1, b, src, w => by
    have h := postOnce_alarms e b src w
    unfold postChain
    split
    · next w' hw => rw [hw] at h; exact h
    · next w' c hw => rw [hw] at h; exact h.trans (postChain_alarms e n c none w')

/-- A posting keeps the record. -/
theorem post_alarms (e : Env) (b : NoticeBody) (src : Option Port) (w : Work) :
    AlarmsKept w.alarms (post e b src w).alarms := postChain_alarms e _ b src w

/-- A raise keeps the record. -/
theorem raiseAlarm_kept (e : Env) (k : AlarmKind) (s : Subject) (w : Work) :
    AlarmsKept w.alarms (raiseAlarm e k s w).alarms := by
  have h := log_kept w.alarms k s
  unfold raiseAlarm
  dsimp only
  split
  · exact h.trans (post_alarms e _ none { w with alarms := (w.alarms.log k s).1 })
  · exact h

/-- A raised alarm stands in the record (R172). -/
theorem raiseAlarm_hasAlarm (e : Env) (k : AlarmKind) (s : Subject) (w : Work) : (raiseAlarm e k s w).hasAlarm k s := by
  have h := log_hasAlarm w k s
  unfold raiseAlarm
  dsimp only
  split
  · exact hasAlarm_kept (post_alarms e _ none { w with alarms := (w.alarms.log k s).1 }) h
  · exact h

end Sys2Proof.Machine
end

