-- ==== Sys2Proof/WellFormed.lean ====
section
/-! DEFINITION. Well-formed commands. The ports, encoders, stands and cue lines are bounded by their types; two
operands carry a bound of the spec that their type does not: a proposal tag is 1 to 65,535 (section 7.2), and a
received frame is at least one byte (R163: the bytes that arrive between two gaps). -/

namespace Sys2Proof

/-- The operand bounds of a command, as a check that computes. -/
def Instr.wellFormed : Instr → Bool
  | .proposalDeadlineExpiry tag => decide (1 ≤ tag) && decide (tag ≤ 65535)
  | .receivedFrame _ _ bytes => !bytes.isEmpty
  | .powerOnReset _ _ _ _ => true
  | .quadratureEdge _ _ => true
  | .speedPeriodClose => true
  | .cuePulseEnd _ => true
  | .confirmDeadlineExpiry _ => true
  | .lateReportWindowEnd _ => true
  | .reofferTimerExpiry => true
  | .responseFrame _ => true
  | .portTimeout _ => true
  | .status _ => true
  | .read _ => true
  | .peek _ => true
  | .take _ => true
  | .done _ => true
  | .floor _ => true
  | .lineTable _ => true
  | .stationSet _ => true
  | .recipeSet _ => true
  | .profileSet _ => true
  | .classSet _ => true
  | .relaySet _ => true
  | .alarmEnable _ => true
  | .alarmClear _ => true
  | .openPart _ => true
  | .start _ => true
  | .orderAdd _ => true
  | .orderWithdraw _ => true
  | .orderRelease _ => true
  | .lineReset _ => true
  | .logTake _ => true
  | .standSet _ => true
  | .reelLoad _ => true
  | .reelRemove _ => true
  | .diameter _ => true
  | .joint _ => true
  | .spliceFail _ => true
  | .standEnable _ => true
  | .bridgeSet _ => true
  | .respond _ => true
  | .setupDone _ => true
  | .defect _ => true

end Sys2Proof
end

