-- ==== Sys2Proof/Laws/PerInstr.lean ====
section
/-! SUPPORT. Statements about every command, one lemma per constructor of `Instr`. -/

namespace Sys2Proof.Laws

/-- The only ill-formed commands: a deadline of a tag that no proposal can have, and a received frame of no bytes. -/
def IllFormed.Statement (i : Instr) : Prop :=
  i.wellFormed = true ∨ (∃ t, i = .proposalDeadlineExpiry t ∧ (t = 0 ∨ 65535 < t)) ∨ (∃ p g, i = .receivedFrame p g [])

theorem IllFormed.powerOnReset (x : Straps) (e1 e2 e3 : QuadLevels) : IllFormed.Statement (.powerOnReset x e1 e2 e3) := .inl rfl

theorem IllFormed.quadratureEdge (e : Encoder) (l : QuadLevels) : IllFormed.Statement (.quadratureEdge e l) := .inl rfl

theorem IllFormed.speedPeriodClose : IllFormed.Statement (.speedPeriodClose) := .inl rfl

theorem IllFormed.cuePulseEnd (c : CueLine) : IllFormed.Statement (.cuePulseEnd c) := .inl rfl

theorem IllFormed.confirmDeadlineExpiry (s : Stand) : IllFormed.Statement (.confirmDeadlineExpiry s) := .inl rfl

theorem IllFormed.lateReportWindowEnd (s : Stand) : IllFormed.Statement (.lateReportWindowEnd s) := .inl rfl

theorem IllFormed.proposalDeadlineExpiry (t : Nat) : IllFormed.Statement (.proposalDeadlineExpiry t) := by
  by_cases h : 1 ≤ t ∧ t ≤ 65535
  · exact .inl (by simp [Instr.wellFormed, h])
  · exact .inr (.inl ⟨t, rfl, by omega⟩)

theorem IllFormed.reofferTimerExpiry : IllFormed.Statement (.reofferTimerExpiry) := .inl rfl

theorem IllFormed.receivedFrame (p : Port) (g : Bool) (bytes : List Byte) : IllFormed.Statement (.receivedFrame p g bytes) := by
  cases bytes with
  | nil => exact .inr (.inr ⟨p, g, rfl⟩)
  | cons b rest => exact .inl rfl

theorem IllFormed.responseFrame (p : Port) : IllFormed.Statement (.responseFrame p) := .inl rfl

theorem IllFormed.portTimeout (p : Port) : IllFormed.Statement (.portTimeout p) := .inl rfl

theorem IllFormed.status (p : Port) : IllFormed.Statement (.status p) := .inl rfl

theorem IllFormed.read (p : Port) : IllFormed.Statement (.read p) := .inl rfl

theorem IllFormed.peek (p : Port) : IllFormed.Statement (.peek p) := .inl rfl

theorem IllFormed.take (p : Port) : IllFormed.Statement (.take p) := .inl rfl

theorem IllFormed.done (p : Port) : IllFormed.Statement (.done p) := .inl rfl

theorem IllFormed.floor (p : Port) : IllFormed.Statement (.floor p) := .inl rfl

theorem IllFormed.lineTable (p : Port) : IllFormed.Statement (.lineTable p) := .inl rfl

theorem IllFormed.stationSet (p : Port) : IllFormed.Statement (.stationSet p) := .inl rfl

theorem IllFormed.recipeSet (p : Port) : IllFormed.Statement (.recipeSet p) := .inl rfl

theorem IllFormed.profileSet (p : Port) : IllFormed.Statement (.profileSet p) := .inl rfl

theorem IllFormed.classSet (p : Port) : IllFormed.Statement (.classSet p) := .inl rfl

theorem IllFormed.relaySet (p : Port) : IllFormed.Statement (.relaySet p) := .inl rfl

theorem IllFormed.alarmEnable (p : Port) : IllFormed.Statement (.alarmEnable p) := .inl rfl

theorem IllFormed.alarmClear (p : Port) : IllFormed.Statement (.alarmClear p) := .inl rfl

theorem IllFormed.openPart (p : Port) : IllFormed.Statement (.openPart p) := .inl rfl

theorem IllFormed.start (p : Port) : IllFormed.Statement (.start p) := .inl rfl

theorem IllFormed.orderAdd (p : Port) : IllFormed.Statement (.orderAdd p) := .inl rfl

theorem IllFormed.orderWithdraw (p : Port) : IllFormed.Statement (.orderWithdraw p) := .inl rfl

theorem IllFormed.orderRelease (p : Port) : IllFormed.Statement (.orderRelease p) := .inl rfl

theorem IllFormed.lineReset (p : Port) : IllFormed.Statement (.lineReset p) := .inl rfl

theorem IllFormed.logTake (p : Port) : IllFormed.Statement (.logTake p) := .inl rfl

theorem IllFormed.standSet (p : Port) : IllFormed.Statement (.standSet p) := .inl rfl

theorem IllFormed.reelLoad (p : Port) : IllFormed.Statement (.reelLoad p) := .inl rfl

theorem IllFormed.reelRemove (p : Port) : IllFormed.Statement (.reelRemove p) := .inl rfl

theorem IllFormed.diameter (p : Port) : IllFormed.Statement (.diameter p) := .inl rfl

theorem IllFormed.joint (p : Port) : IllFormed.Statement (.joint p) := .inl rfl

theorem IllFormed.spliceFail (p : Port) : IllFormed.Statement (.spliceFail p) := .inl rfl

theorem IllFormed.standEnable (p : Port) : IllFormed.Statement (.standEnable p) := .inl rfl

theorem IllFormed.bridgeSet (p : Port) : IllFormed.Statement (.bridgeSet p) := .inl rfl

theorem IllFormed.respond (p : Port) : IllFormed.Statement (.respond p) := .inl rfl

theorem IllFormed.setupDone (p : Port) : IllFormed.Statement (.setupDone p) := .inl rfl

theorem IllFormed.defect (p : Port) : IllFormed.Statement (.defect p) := .inl rfl

end Sys2Proof.Laws
end

