-- ==== Sys2Proof/Laws/Ports.lean ====
section
/-! SUPPORT. What applying a queued request can do, once for every request; what settling and the due test can do; and
that a part between two events owes nothing. -/

namespace Sys2Proof.Machine

/-! ## Settling -/

/-- A proposal that is effective is what `takeEffect` acts on. -/
theorem takeEffect_eq_none (e : Env) (w : Work) (h : ∀ p ∈ w.prop.list.head?, p.effective = false) :
    takeEffect e w = none := by
  unfold takeEffect
  split
  · rfl
  · next p rest hl =>
    have hp := h p (by simp [hl])
    unfold Proposal.effective at hp
    split <;> simp_all

/-- Between two events there is no round of work to do. -/
theorem settleRound_atRest (e : Env) (w : Work) (h : w.atRest) : settleRound e w = none := by
  obtain ⟨h1, h2, h3⟩ := h
  have hf : w.prop.list.find? Proposal.complete = none := List.find?_eq_none.mpr (by simpa using h1)
  simp [settleRound, takeEffect_eq_none e w h2, hf, h3]

/-- Between two events settling changes nothing. -/
theorem settle_atRest (e : Env) (w : Work) (h : w.atRest) : settle e w = w := by
  unfold settle Config.settleBound
  rw [settleLoop, settleRound_atRest e w h]

/-- With no proposal outstanding and nothing owed, the part is between two events. -/
theorem Work.calm.atRest {w : Work} (h : w.calm) : w.atRest := by
  obtain ⟨h1, h2⟩ := h
  simp [Work.atRest, h1, h2]

/-- What settles at once is a complete set of responses, or a decided first record. -/
theorem unsettled_eq_false (w : Work) :
    unsettled w = false ↔
      (∀ p ∈ w.prop.list, p.complete = false) ∧ ∀ p ∈ w.prop.list.head?, p.effective = false := by
  cases h : w.prop.list <;> simp [unsettled, h]

/-- A round where a set of responses is complete and no record waits to take effect forms the result (R119). -/
theorem settleRound_complete (e : Env) (w : Work) (p : Proposal)
    (h : ∀ q ∈ w.prop.list.head?, q.effective = false) (hp : w.prop.list.find? Proposal.complete = some p) :
    settleRound e w = some (formResult e p w) := by simp [settleRound, takeEffect_eq_none e w h, hp]

/-- What the due test does after the guard and the retry (R113): it waits for what settles first, or issues for the mark
that is due, or does nothing more. -/
theorem dueTest_cases (e : Env) (w w1 : Work)
    (h1 : w1 = retryWaiting e (guardAll e { w with owed := { w.owed with due := false } })) :
    (unsettled w1 = true ∧ dueTest e w = w1.oweDue) ∨
    (unsettled w1 = false ∧ dueMark e w1 = none ∧ dueTest e w = w1) ∨
    ∃ m, unsettled w1 = false ∧ dueMark e w1 = some m ∧ dueTest e w = (firstIssue e m w1).oweDue := by
  simp only [dueTest, ← h1]
  cases h : unsettled w1 <;> cases hm : dueMark e w1 <;> simp

/-! ## Applying the request at the head of a queue -/

/-- What applying the request at the head does: its entries are given back, its meaning is taken, what it owes is done,
and its port has its answer. -/
theorem applyHead_of_head {s : State} {p : Port} {q : Queued} {rest : List Queued} {r : Request} {body : List Byte}
    (f : Env → Work → List Byte → Answer) (h : HeadOf s p q rest r body) :
    applyHead p r f s =
      { s with
        env := answered (f (popped s.env p rest) s.work body).env p q (f (popped s.env p rest) s.work body).code
          (f (popped s.env p rest) s.work body).body
        work := settle (f (popped s.env p rest) s.work body).env (f (popped s.env p rest) s.work body).work } := by
  obtain ⟨h1, h2, h3⟩ := h
  subst h2 h3
  simp only [applyHead, h1, if_true]
  rfl

/-- A queue whose head is no such request is left as it is. -/
theorem applyHead_other {s : State} {p : Port} (r : Request) (f : Env → Work → List Byte → Answer)
    (h : ∀ q ∈ s.env.links[p].inbound.head?, q.request ≠ r) : applyHead p r f s = s := by
  unfold applyHead
  split
  · rfl
  · next q rest hq =>
    have := h q (by rw [hq]; rfl)
    simp [this]

/-- An answer that leaves the part between two events. -/
theorem applyHead_applied {s : State} {p : Port} {q : Queued} {rest : List Queued} {r : Request} {body : List Byte}
    {f : Env → Work → List Byte → Answer} {c : Code} {b : List Byte} {e : Env} {w : Work}
    (h : HeadOf s p q rest r body) (hf : f (popped s.env p rest) s.work body = ⟨c, b, e, w⟩) (hw : w.atRest) :
    applyHead p r f s = appliedState s p q c b e w := by
  rw [applyHead_of_head f h, hf]
  simp [appliedState, settle_atRest _ _ hw]

/-- An answer that leaves no proposal outstanding and nothing owed. -/
theorem applyHead_calm {s : State} {p : Port} {q : Queued} {rest : List Queued} {r : Request} {body : List Byte}
    {f : Env → Work → List Byte → Answer} {c : Code} {b : List Byte} {e : Env} {w : Work}
    (h : HeadOf s p q rest r body) (hf : f (popped s.env p rest) s.work body = ⟨c, b, e, w⟩) (hw : w.calm) :
    applyHead p r f s = appliedState s p q c b e w := applyHead_applied h hf hw.atRest

/-- An answer that changes nothing, between two events. -/
theorem applyHead_refused {s : State} {p : Port} {q : Queued} {rest : List Queued} {r : Request} {body : List Byte}
    (f : Env → Work → List Byte → Answer) (c : Code) (h : HeadOf s p q rest r body) (hw : s.work.atRest)
    (hf : f (popped s.env p rest) s.work body = refuse c (popped s.env p rest) s.work) :
    applyHead p r f s = refusedState s p q rest c := by
  rw [applyHead_of_head f h, hf]
  simp [refuse, refusedState, settle_atRest _ _ hw]

/-- Applying a request leaves the command queue alone. -/
@[simp] theorem applyHead_pending (p : Port) (r : Request) (f : Env → Work → List Byte → Answer) (s : State) :
    (applyHead p r f s).pending = s.pending := by
  unfold applyHead
  split
  · rfl
  · split <;> rfl

end Sys2Proof.Machine
end

