-- ==== Sys2Proof/Laws/Stands.lean ====
section
/-! SUPPORT. What an evaluation of a stand's level and fire conditions can change: the notices, the alarm record, the cues,
and that stand's level, phase and late-report window. -/

namespace Sys2Proof.Machine

/-- With no proposal outstanding the notice unit leaves the proposal unit alone. -/
theorem NoticeFrame.prop_eq {w w' : Work} (h : NoticeFrame w w') (c : w.calm) : w'.prop = w.prop := by
  have h1 := h.noProposal c.1
  have h2 := h.propTag
  have h3 := c.1
  revert h1 h2 h3
  cases w'.prop
  cases w.prop
  simp_all

theorem StandFrame.refl (k : Stand) (w : Work) : StandFrame k w w :=
  ⟨rfl, rfl, rfl, rfl, rfl, rfl, fun _ _ => rfl, rfl, rfl, rfl, rfl, rfl, rfl⟩

theorem StandFrame.trans {k : Stand} {a b c : Work} (h : StandFrame k a b) (g : StandFrame k b c) :
    StandFrame k a c where
  track := g.track.trans h.track
  station := g.station.trans h.station
  seq := g.seq.trans h.seq
  prop := g.prop.trans h.prop
  sheet := g.sheet.trans h.sheet
  owed := g.owed.trans h.owed
  others x hx := (g.others x hx).trans (h.others x hx)
  running := g.running.trans h.running
  ready := g.ready.trans h.ready
  feedStart := g.feedStart.trans h.feedStart
  enable := g.enable.trans h.enable
  requirement := g.requirement.trans h.requirement
  openMismatch := g.openMismatch.trans h.openMismatch

/-- A part with no proposal outstanding and nothing owed stays so. -/
theorem StandFrame.calm {k : Stand} {w w' : Work} (h : StandFrame k w w') (c : w.calm) : w'.calm := by
  unfold Work.calm
  rw [h.prop, h.owed]
  exact c

/-- The notice unit leaves the stands alone. -/
theorem NoticeFrame.stand {w w' : Work} (h : NoticeFrame w w') (c : w.calm) (k : Stand) : StandFrame k w w' where
  track := h.track
  station := h.station
  seq := h.seq
  prop := h.prop_eq c
  sheet := h.sheet
  owed := h.owed
  others x _ := by rw [h.stands]
  running := by rw [h.stands]
  ready := by rw [h.stands]
  feedStart := by rw [h.stands]
  enable := by rw [h.stands]
  requirement := by rw [h.stands]
  openMismatch := by rw [h.stands]

theorem setCue_stand (k : Stand) (w : Work) (v : Vector (Option Nat) 12) : StandFrame k w { w with cues := v } :=
  ⟨rfl, rfl, rfl, rfl, rfl, rfl, fun _ _ => rfl, rfl, rfl, rfl, rfl, rfl, rfl⟩

/-- A stand with another level, phase and late-report window. -/
theorem setStand_stand (k : Stand) (w : Work) (l : ReelLevel) (p : Phase) (d : Option Nat) :
    StandFrame k w (w.setStand k { w.stands[k] with level := l, phase := p, lateWindow := d }) where
  track := rfl
  station := rfl
  seq := rfl
  prop := rfl
  sheet := rfl
  owed := rfl
  others x hx := by
    have h : k.val ≠ x.val := fun e => hx (Fin.ext e.symm)
    simp [Work.setStand, h]
  running := by simp [Work.setStand]
  ready := by simp [Work.setStand]
  feedStart := by simp [Work.setStand]
  enable := by simp [Work.setStand]
  requirement := by simp [Work.setStand]
  openMismatch := by simp [Work.setStand]

/-- A phase re-evaluated is the stand with some phase. -/
theorem rephase_eq (r : StandRec) : ∃ p, r.rephase = { r with phase := p } := by
  unfold StandRec.rephase
  split
  · exact ⟨r.phase, rfl⟩
  · exact ⟨_, rfl⟩

theorem pulse_stand (e : Env) (c : CueLine) {w : Work} (h : w.calm) (k : Stand) : StandFrame k w (pulse e c w) := by
  unfold pulse
  dsimp only
  split
  · exact setCue_stand k w _
  · exact (setCue_stand k w _).trans ((raiseAlarm_frame _ _ _ _).stand ((setCue_stand k w _).calm h) k)

/-- What setting a level can change. -/
theorem setLevel_stand (e : Env) (k : Stand) (l : ReelLevel) (u : Nat) {w : Work} (h : w.calm) :
    StandFrame k w (setLevel e k l u w) := by
  unfold setLevel
  dsimp only
  split
  · exact StandFrame.refl k w
  · obtain ⟨p, hp⟩ := rephase_eq { w.stands[k] with level := l }
    rw [hp]
    have h0 : StandFrame k w (w.setStand k { w.stands[k] with level := l, phase := p }) := setStand_stand k w l p _
    have h1 := h0.trans ((post_frame e (.reel k l u) none _).stand (h0.calm h) k)
    have h2 := fun a => h1.trans ((raiseAlarm_frame e a (.stand k) _).stand (h1.calm h) k)
    repeat' split
    · exact (h2 _).trans ((raiseAlarm_frame _ _ _ _).stand ((h2 _).calm h) k)
    · exact h2 _
    · exact h2 _
    · exact h1

/-- What evaluating the level of a stand can change (R75). -/
theorem evalLevel_stand (e : Env) (k : Stand) (fresh : Bool) {w : Work} (h : w.calm) :
    StandFrame k w (evalLevel e k fresh w) := by
  unfold evalLevel
  dsimp only
  split <;> exact setLevel_stand _ _ _ _ h

/-- What a fire can change (R79). -/
theorem fire_stand (e : Env) (k : Stand) {w : Work} (h : w.calm) : StandFrame k w (fire e k w) := by
  unfold fire
  dsimp only
  have h0 : StandFrame k w (w.setStand k { w.stands[k] with phase := .fired (snapshotNow e k w.stands[k]), lateWindow := none }) :=
    setStand_stand k w _ _ _
  have h1 := h0.trans (pulse_stand e (standCue k) (h0.calm h) k)
  exact h1.trans ((post_frame _ _ _ _).stand (h1.calm h) k)

/-- All that an evaluation of the fire conditions can do: nothing, a fire in WATCH, or a late one (R76, R79, R80). -/
theorem evalFire_cases (e : Env) (sudden : Bool) (k : Stand) (w : Work) :
    evalFire e sudden k w = w ∨
    (w.stands[k].phase = .watch ∧ (gradeHolds e k w.stands[k] = true ∨ runoutHolds e k w.stands[k] = true) ∧
      (evalFire e sudden k w = fire e k w ∨
        sudden = true ∧ gradeHolds e k w.stands[k] = true ∧
          evalFire e sudden k w = raiseAlarm e .spliceLate (.stand k) (fire e k w))) := by
  unfold evalFire
  dsimp only
  generalize w.stands[k] = r
  repeat' split
  all_goals simp_all

/-- What evaluating the fire conditions of a stand can change (R76). -/
theorem evalFire_stand (e : Env) (sudden : Bool) (k : Stand) {w : Work} (h : w.calm) :
    StandFrame k w (evalFire e sudden k w) := by
  have hf := fire_stand e k h
  unfold evalFire
  dsimp only
  repeat' split
  · exact hf.trans ((raiseAlarm_frame _ _ _ _).stand (hf.calm h) k)
  · exact hf
  · exact hf
  · exact StandFrame.refl k w
  · exact StandFrame.refl k w

end Sys2Proof.Machine
end

