-- ==== Sys2Proof/Laws/Track.lean ====
section
/-! SUPPORT. What entering a mark and extending the chain can do in the plain cases: a track with room takes the mark in its
place and returns its tag (R34); a refused mark ends the extension, and with no running order there is
nothing to extend (R103). -/

namespace Sys2Proof.Machine

/-- A mark put in its place is found by its entry number, where that number is new. -/
theorem find_insertMark (b : Word) (x : Mark) (n : Nat) (hx : x.entry = n) :
    ∀ l : List Mark, (∀ m ∈ l, m.entry < n) → (insertMark b x l).find? (fun m => m.entry == n) = some x
  | [], _ => by simp [insertMark, hx]
  | a :: l, h => by
    have ha : (a.entry == n) = false := by
      have := h a (by simp)
      simp only [beq_eq_false_iff_ne]
      omega
    unfold insertMark
    split
    · simp [hx]
    · simp [ha, find_insertMark b x n hx l fun m hm => h m (by simp [hm])]

/-- Handing a mark to a track with room (R34): it is entered with the next free tag and its flags clear. -/
theorem handIn_room (e : Env) (body : MarkBody) (s : Pos) (n : Nat) (w : Work) (h : w.track.marks.length < 192)
    (hm : ∀ m ∈ w.track.marks, m.entry < w.track.entryCount) :
    handIn e body s n w =
      ({ w with track := w.track.put e body s n 0 0 },
        some ⟨assignTag (w.track.marks.map Mark.tag) w.track.nextTag, body, s, n, 0, 0, w.track.entryCount⟩) := by
  unfold handIn makeRoom recordMark Config.trackLimit
  rw [if_pos h]
  simp only [Track.newest, Track.byEntry, Track.put, Nat.add_sub_cancel]
  rw [find_insertMark e.b _ w.track.entryCount rfl _ hm]

/-- A round of an extension whose mark the full track refuses ends it: nothing is left that would extend the chain again
before an entry leaves the track (R36, R103). -/
theorem extendLoop_refused (e : Env) (n : Nat) (w : Work) (i j : Order) (p : Placed)
    (h : toExtend w = some (i, j)) (hw : w.track.window.length < Config.planWindow)
    (hp : placement e w.seq { i with planned := i.plannedNow } j.tag = some p)
    (hf : ¬w.track.marks.length < Config.trackLimit)
    (hm : freeEntry e (w.updOrder i.tag fun o => { o with planned := p.planned }) = none) :
    (extendLoop e (n + 1) w).seq.trackRefused = true ∧ (extendLoop e (n + 1) w).owed.extend = false := by
  simp [extendLoop, h, hw, hp, hf, hm]

/-- With no running order an extension of the chain only clears its two indications (R103). -/
theorem extendChain_idle (e : Env) (w : Work) (h : w.seq.running = none) :
    extendChain e w =
      { w with
        seq := { w.seq with noPlace := false, trackRefused := false }
        owed := { w.owed with extend := false } } := by
  have h0 : ∀ l : List Order, l.dropWhile (fun o => some o.tag != (none : Option Nat)) = [] := by
    intro l
    induction l with
    | nil => rfl
    | cons a l ih => simp [ih]
  unfold extendChain Config.orderLimit
  rw [extendLoop]
  simp only [toExtend, h, h0]
  rfl

end Sys2Proof.Machine
end

