-- ==== Sys2Proof/Tests/Slice0.lean ====
section
/-! SUPPORT. Tests of single commands and operations on small states, with expected values from the volume's worked figures
and tables; the smoke of `wellFormed`; and, for each statement with hypotheses, a concrete state that meets them. -/

namespace Sys2Proof.Tests

open Sys2Proof.Machine

/-! Each test waits for the kernel's check of all that stands before it, so the tests are taken one after another. -/
set_option Elab.async false

/-! ## States -/

/-- The state a command leaves. -/
def run (c : Instr) (s : State) : State :=
  match exec c s with
  | .next t => t
  | _ => s

/-- A waited request with frame tag 7. -/
def asked (r : Request) (body : List Byte) : Queued := ⟨r, 7, false, body⟩

/-- A state with that request at the head of a port's queue. -/
def withRequest (s : State) (p : Port) (r : Request) (body : List Byte) : State :=
  { s with env := s.env.updLink p fun l => { l with inbound := [asked r body], slots := [⟨7, none⟩] } }

theorem headed (s : State) (p : Port) (r : Request) (body : List Byte) :
    HeadOf (withRequest s p r body) p (asked r body) [] r body :=
  ⟨by simp [withRequest, Env.updLink, Env.setLink], rfl, rfl⟩

/-- The code and body of the answer to a request, applied at a port. -/
def answerOf (s : State) (p : Port) (c : Instr) : Option (Code × List Byte) :=
  ((run c s).env.links[p].slots.head?).bind Slot.content

/-- The worked line of chapter 11: its table, with every pitch 1 mm. -/
def table : LineTable where
  path := #v[14000, 14000, 14000, 14000, 30000]
  fixedLength := #v[22000, 22000]
  takeUp := #v[5939, 5939]
  fillMax := #v[120000, 120000]
  lowThreshold := #v[20000, 20000]
  highThreshold := #v[100000, 100000]
  levelHysteresis := #v[5000, 5000]
  pitch := #v[256000, 256000, 256000]
  minSheet := 500
  maxWidth := 3000
  minTrim := 20
  minOrder := 10000
  aimOffset := 2000
  guardDistance := 20000
  dKnife := 60000
  dDry := 120000
  lineMargin := 60000
  retryDistance := 10000
  deferralLimit := 4
  responseTimeout := 2000
  reofferInterval := 1000
  cueWidth := 20

def actsOnChange : ActsOn := ⟨true, false, false, false⟩

/-- A board station of the dry end. -/
def board (k : StationKind) (d : Nat) : Station := ⟨k, .board, d, some .dry, none, actsOnChange, false, 0⟩

def stations : Vector (Option Station) 24 :=
  ((((Vector.replicate 24 none).set 0 (some (board .slitter 18000))).set 1 (some (board .slitter 21000))).set 2
    (some (board .knife 30000))).set 3 (some (board .gate 41500)) |>.set 4 (some (board .stacker 52000))

/-- An OPEN port with a role. -/
def opened (r : Role) : Link := { Link.powerOn 0 r with state := .opened, timer := some 2000, framed := true }

/-- A CONFIGURED part with its stations, its ports OPEN. -/
def line : State :=
  { State.reset with env :=
    { State.reset.env with
      configured := true
      table := table
      stations := stations
      stationsValid := true
      staged := stations
      partOpen := true
      links := #v[opened .planner, opened .wet, opened .dry, opened .view] } }

def spec (tag : Nat) : OrderSpec := ⟨tag, #v[1, 1, 1, 1, 1], 2500, 0, 1000, 2, [1200, 1200], 0, 1000, 5, 100⟩
def order (tag : Nat) : Order := Order.fresh (spec tag)

/-- The line with one order queued, and with one held. -/
def queued : State := { line with work := { line.work with seq := { line.work.seq with sequence := [order 9] } } }
def held : State := { line with work := { line.work with seq := { line.work.seq with held := [order 9] } } }

def reel : Reel := ⟨5, 1, 2500, 200, 100, 1200⟩

/-- The line with a stand in a state. -/
def withStand (k : Stand) (f : StandRec → StandRec) : State := { line with work := line.work.updStand k f }

def loaded : State := withStand 0 fun r => { r with ready := some reel }
def snapshot : Snapshot := ⟨1000#32, 40000, 500, .grade, 4000⟩
def fired : State := withStand 0 fun r => { r with ready := some reel, enable := true, phase := .fired snapshot }
def running : State := withStand 0 fun r => { r with running := .reel reel ⟨100000, 0, false⟩ }

def notice (tag priority : Nat) : Notice := ⟨tag, priority, .directed (some 0), .order 9, 0⟩

/-- The line with notices at LP0. -/
def withDesk (offer taken : List Notice) : State :=
  { line with work := line.work.setDesk 0 ⟨offer, taken⟩ }

theorem line_calm : line.work.calm := ⟨rfl, rfl⟩
theorem line_room : line.work.TrackRoom := by constructor <;> decide

def proposal : Proposal := ⟨4, 1, .line, .collecting 900, some .pending, some .pending, some .pending, 0⟩

/-- The line with proposals outstanding. -/
def proposed (l : List Proposal) : State := { line with work := { line.work with prop := ⟨l, 5⟩ } }

/-! ## Well-formed commands -/

theorem test_tag_zero_ill_formed : (Instr.proposalDeadlineExpiry 0).wellFormed = false := by decide +kernel
theorem test_tag_too_great_ill_formed : (Instr.proposalDeadlineExpiry 65536).wellFormed = false := by decide +kernel
theorem test_tag_well_formed : (Instr.proposalDeadlineExpiry 65535).wellFormed = true := by decide +kernel
theorem test_empty_frame_ill_formed : (Instr.receivedFrame 0 true []).wellFormed = false := by decide +kernel
theorem test_frame_well_formed : (Instr.receivedFrame 0 true [0xD3]).wellFormed = true := by decide +kernel

/-- No row of the table has bits, so no word spells a command. -/
theorem test_no_word_spells_a_command : decodeTableWord 32 7 = none := by decide +kernel

/-! ## Numbers, frames and kinds (R162 to R164) -/

/-- The published check value of the CRC with this generator, start and no inversion, over "123456789". -/
theorem test_crc_check_value :
    crc16 [0x31, 0x32, 0x33, 0x34, 0x35, 0x36, 0x37, 0x38, 0x39] = 0x29B1#16 := by decide +kernel

theorem test_status_frame_reads :
    readFrame (writeRequest 0x01 9 1 []) = some ⟨0x01, 9, true, []⟩ := by decide +kernel

theorem test_bad_crc_refused : readFrame [0xD3, 0x01, 9, 0, 0, 0, 0] = none := by decide +kernel

theorem test_kinds : Request.ofKind 0x10 = some .lineTable ∧ Request.ofKind 0x25 = some .logTake ∧
    Request.ofKind 0x42 = some .defect ∧ Request.ofKind 0x07 = none := by decide +kernel

theorem test_negative_number : putInt 4 (-2) = [0xFF, 0xFF, 0xFF, 0xFE] := by decide +kernel

/-! ## Power-on (R161) -/

/-- Bands 3, 4, 0 and open: VIEW, PLANNER at the second rate, PLANNER refused, VIEW. -/
def straps : Straps := ⟨.meets 3, .meets 4, .meetsNone, .isOpen⟩

theorem test_roles : allPorts.map (Straps.role straps) = [.view, .planner, .view, .view] := by decide +kernel

theorem test_strap_conflict :
    (run (.powerOnReset straps ⟨false, false⟩ ⟨true, false⟩ ⟨true, true⟩) line).work.alarms.entries =
      [⟨.strapConflict, ⟨.port, 2⟩, true, 1⟩] := by decide +kernel

theorem test_power_on_closes_the_part :
    (run (.powerOnReset straps ⟨false, false⟩ ⟨true, false⟩ ⟨true, true⟩) line).env.partOpen = false := by decide +kernel

/-! ## Section 1.6: counting, speed and levels -/

def e3 : EncoderRec := { EncoderRec.powerOn ⟨false, false⟩ with residue := 230000, odo := 7000000 }

theorem test_forward_count :
    (forwardCount 50000 e3).1.residue = 24000 ∧ (forwardCount 50000 e3).2 = 1 := by decide +kernel

theorem test_debt_paid_first :
    (forwardCount 50000 { e3 with residue := 24000, debt := 150000 }).1.debt = 100000 ∧
    (forwardCount 50000 { e3 with residue := 24000, debt := 150000 }).2 = 0 := by decide +kernel

theorem test_debt_clamp :
    ((reverseCount 16000000 { e3 with debt := 112000000 }).1.debt,
      (reverseCount 16000000 { e3 with debt := 112000000 }).2) = (128000000, true) ∧
    (reverseCount 16000000 { e3 with debt := 128000000 }).2 = false := by decide +kernel

theorem test_speed :
    (EncoderRec.close { e3 with
      odo := 134, lastClose := 0, history := [0, 134, 134, 133, 133, 133, 133, 133, 133, 133] }).speed = 6665 := by
  decide +kernel

theorem test_levels_of_bridge_1 :
    bridgeLevel 20000 100000 5000 19000 .normal = .low ∧ bridgeLevel 20000 100000 5000 23000 .low = .low ∧
    bridgeLevel 20000 100000 5000 25000 .low = .normal ∧ bridgeLevel 20000 100000 5000 120000 .normal = .high ∧
    bridgeLevel 20000 100000 5000 119000 .high = .high ∧ bridgeLevel 20000 100000 5000 95000 .high = .normal := by
  decide +kernel

theorem test_edge_advances :
    (run (.quadratureEdge 2 ⟨true, false⟩) line).env.encoders[(2 : Encoder)].odo = 1 := by decide +kernel

theorem test_reverse_edge :
    (run (.quadratureEdge 2 ⟨false, true⟩) line).env.encoders[(2 : Encoder)].debt = 256000 := by decide +kernel

theorem test_period_close : (run .speedPeriodClose line).env.nextClose = 40 := by decide +kernel

/-- BRIDGE_SET 1, 130,000 returns the clamped fill. -/
theorem test_bridge_set_clamps :
    answerOf (withRequest line 1 .bridgeSet [1, 0, 1, 0xFB, 0xD0]) 1 (.bridgeSet 1) =
      some (.ok, [0x01, 0xD4, 0xC0]) := by decide +kernel

theorem test_bridge_set_alarms :
    (run (.bridgeSet 1) (withRequest line 1 .bridgeSet [1, 0, 1, 0xFB, 0xD0])).work.alarms.entries.map
      AlarmEntry.kind = [.bridgeFull, .bridgeHigh] := by decide +kernel

/-! ## Chapter 2: take-up, reel length, defect spans -/

/-- conv at take-up 5,939 (1.45) of the 14,000 mm path, and back. -/
theorem test_conv : conv 5939 14000 = 9655 ∧ convToMedium 5939 9655 = 13999 := by decide +kernel

theorem test_defect_span_split : splitAtGate (-42200) (-40000) 41500 = ⟨701, some (-41499, -40000)⟩ := by decide +kernel

/-! ## The link (R163 to R169) -/

def statusFrame : List Byte := writeRequest 0x01 9 0 []

theorem test_frame_queued :
    ((run (.receivedFrame 0 true statusFrame) line).env.links[(0 : Port)].inbound.map Queued.request) =
      [.status] := by decide +kernel

theorem test_bad_frame_counted :
    (run (.receivedFrame 0 true [0xD3]) line).env.links[(0 : Port)].frameErrors = 1 := by decide +kernel

theorem test_response_frame :
    (run (.responseFrame 0) { line with env := line.env.updLink 0 fun l =>
      { l with slots := [⟨7, some (.ok, [])⟩] } }).env.links[(0 : Port)].sent.take 4 = [0x3D, 7, 0, 0] := by decide +kernel

theorem test_port_timeout : (run (.portTimeout 2) line).env.links[(2 : Port)].state = .down := by decide +kernel

/-! ## Requests -/

theorem test_status : (answerOf (withRequest line 3 .status []) 3 (.status 3)).map Prod.fst = some .ok := by decide +kernel
theorem test_status_ill_formed : answerOf (withRequest line 3 .status [2]) 3 (.status 3) = some (.range, []) := by
  decide +kernel
theorem test_read_configuration :
    (answerOf (withRequest line 3 .read [1, 0]) 3 (.read 3)).map Prod.fst = some .ok := by decide +kernel
theorem test_read_unknown_chapter : answerOf (withRequest line 3 .read [11, 0]) 3 (.read 3) = some (.range, []) := by
  decide +kernel
theorem test_peek_empty : answerOf (withRequest line 0 .peek []) 0 (.peek 0) = some (.empty, []) := by decide +kernel
theorem test_take_most_urgent :
    ((run (.take 0) (withRequest (withDesk [notice 1 5, notice 2 3, notice 3 3] []) 0 .take
      [])).work.notices.desks[(0 : Port)].taken.map Notice.tag) = [2] := by decide +kernel
theorem test_take_busy :
    answerOf (withRequest (withDesk [notice 9 0] [notice 1 5, notice 2 5, notice 3 5, notice 4 5]) 0 .take []) 0
      (.take 0) = some (.busy, []) := by decide +kernel
theorem test_done :
    (run (.done 0) (withRequest (withDesk [] [notice 1 5]) 0 .done [0, 1])).work.notices.desks[(0 : Port)].taken =
      [] := by decide +kernel
theorem test_floor : (run (.floor 0) (withRequest line 0 .floor [5])).env.baseFloors[(0 : Port)] = 5 := by decide +kernel
theorem test_floor_too_great : answerOf (withRequest line 0 .floor [17]) 0 (.floor 0) = some (.range, []) := by decide +kernel
theorem test_line_table_minimum_sheet :
    (run (.lineTable 0) (withRequest line 0 .lineTable [20, 0x02, 0x58])).env.table.minSheet = 600 := by decide +kernel
theorem test_line_table_out_of_range :
    answerOf (withRequest line 0 .lineTable [20, 0x00, 0xC8]) 0 (.lineTable 0) = some (.range, []) := by decide +kernel
theorem test_station_set_apply :
    answerOf (withRequest line 0 .stationSet [0, 1]) 0 (.stationSet 0) = some (.ok, []) := by decide +kernel
theorem test_station_set_no_knife :
    answerOf (withRequest line 0 .stationSet [1, 2, 255, 1]) 0 (.stationSet 0) = some (.range, [1, 0]) := by decide +kernel
theorem test_recipe_set :
    (run (.recipeSet 0) (withRequest line 0 .recipeSet [1, 31, 23, 1, 0])).env.recipes[(31 : Fin 32)][(23 : Fin 24)] =
      256 := by decide +kernel
theorem test_profile_set :
    (run (.profileSet 0) (withRequest line 0 .profileSet [7, 1, 0, 0, 5, 1, 0])).env.profiles[(7 : Fin 8)] =
      [⟨5, 256⟩] := by decide +kernel
theorem test_profile_short_of_whole :
    answerOf (withRequest line 0 .profileSet [7, 1, 0, 0, 5, 0, 255]) 0 (.profileSet 0) = some (.range, []) := by decide +kernel
theorem test_class_set_clamps :
    (run (.classSet 0) (withRequest line 0 .classSet [3, 200, 0])).env.classes[(3 : Fin 8)].priority = 15 := by decide +kernel
theorem test_relay_set :
    (run (.relaySet 0) (withRequest line 0 .relaySet [2, 2, 1, 1])).env.ring = ⟨[2, 1], 1⟩ := by decide +kernel
theorem test_alarm_enable :
    (run (.alarmEnable 0) (withRequest line 0 .alarmEnable [15, 0])).env.alarmEnables[(15 : Fin 16)] = false := by decide +kernel
theorem test_alarm_clear_unknown :
    answerOf (withRequest line 0 .alarmClear [0, 1, 1, 0, 2]) 0 (.alarmClear 0) = some (.unknown, []) := by decide +kernel
theorem test_open_unconfigured :
    answerOf (withRequest State.reset 0 .openPart [0, 0, 0, 0, 0, 0, 0, 0]) 0 (.openPart 0) = some (.state, []) := by
  decide +kernel
/-- c0 = b − g_knife + gap, 2,000 mm upstream of the knife; mark tag 1. -/
theorem test_start :
    answerOf (withRequest queued 0 .start [0, 0x07, 0xD0]) 0 (.start 0) =
      some (.ok, [0xFF, 0xFF, 0x92, 0xA0, 0, 1]) := by decide +kernel
theorem test_start_running : (run (.start 0) (withRequest queued 0 .start [0, 0x07, 0xD0])).env.run = .running := by
  decide +kernel

def orderBody : List Byte :=
  [0, 8, 1, 1, 1, 1, 1, 0x09, 0xC4, 0, 0x03, 0xE8, 2, 2, 0x04, 0xB0, 0x04, 0xB0, 0, 0, 0x03, 0xE9, 5, 0, 100, 0]

/-- 1,001 sheets at 2 out take 501 cuts. -/
theorem test_order_add : answerOf (withRequest queued 0 .orderAdd orderBody) 0 (.orderAdd 0) = some (.ok, [0, 1, 0xF5]) := by
  decide +kernel
theorem test_order_withdraw :
    (run (.orderWithdraw 0) (withRequest queued 0 .orderWithdraw [0, 9])).work.seq.sequence = [] := by decide +kernel
theorem test_order_release :
    (run (.orderRelease 0) (withRequest held 0 .orderRelease [0, 9])).work.seq.sequence.map Order.tag = [9] := by decide +kernel
theorem test_line_reset : (run (.lineReset 0) (withRequest queued 0 .lineReset [])).work.seq.sequence = [] := by decide +kernel
theorem test_log_take_empty : answerOf (withRequest line 0 .logTake []) 0 (.logTake 0) = some (.empty, []) := by decide +kernel
theorem test_stand_set :
    (run (.standSet 1) (withRequest line 1 .standSet [4, 0, 0x03, 0xE9])).env.settings[(4 : Stand)].leadTime = 1001 := by
  decide +kernel
theorem test_reel_load_threads :
    answerOf (withRequest line 1 .reelLoad [0, 0, 0, 0, 5, 1, 0x09, 0xC4, 0, 200, 100, 0x04, 0xB0]) 1 (.reelLoad 1) =
      some (.ok, [1, 0x04, 0xB0]) := by decide +kernel
theorem test_reel_remove :
    (run (.reelRemove 1) (withRequest loaded 1 .reelRemove [0, 0])).work.stands[(0 : Stand)].ready = none := by decide +kernel
theorem test_diameter_clamps :
    (run (.diameter 1) (withRequest running 1 .diameter [0, 0xFF, 0xFF])).env.links[(1 : Port)].sensorClamp = true := by
  decide +kernel
theorem test_joint_position :
    answerOf (withRequest fired 1 .joint [0]) 1 (.joint 1) = some (.ok, [0, 0, 0x8C, 0xA0, 0, 1]) := by decide +kernel
theorem test_splice_fail :
    (run (.spliceFail 1) (withRequest fired 1 .spliceFail [0])).work.stands[(0 : Stand)].phase = .idle := by decide +kernel
theorem test_stand_enable :
    (run (.standEnable 1) (withRequest line 1 .standEnable [3, 1])).work.stands[(3 : Stand)].enable = true := by decide +kernel
theorem test_respond_unknown : answerOf (withRequest line 2 .respond [0, 1, 0]) 2 (.respond 2) = some (.unknown, []) := by
  decide +kernel
theorem test_setup_done :
    (run (.setupDone 2) (withRequest queued 2 .setupDone [1, 0, 9])).work.station.slitters.loadedB = some 9 := by decide +kernel
theorem test_setup_done_active :
    answerOf (withRequest queued 2 .setupDone [0, 0, 9]) 2 (.setupDone 2) = some (.state, []) := by decide +kernel
/-- A defect reported at the gate, 0 to 500 mm behind it, lies wholly past the gate. -/
theorem test_defect_at_the_gate :
    answerOf (withRequest line 3 .defect [3, 0, 0, 0x01, 0xF4, 7]) 3 (.defect 3) =
      some (.ok, [0, 0, 2, 0x01, 0xF4]) := by decide +kernel

/-! ## Timed commands -/

theorem test_pulse_end :
    (run (.cuePulseEnd 5) { line with work := { line.work with cues := line.work.cues.set 5 (some 20) } }).work.cues[
      (5 : CueLine)] = none := by decide +kernel
theorem test_confirm_deadline_timed :
    (run (.confirmDeadlineExpiry 0) fired).work.stands[(0 : Stand)].lateWindow = some 7000 := by decide +kernel
theorem test_late_window_end :
    (run (.lateReportWindowEnd 0) (withStand 0 fun r => { r with lateWindow := some 5 })).work.stands[
      (0 : Stand)].lateWindow = none := by decide +kernel
theorem test_reoffer_timer : (run .reofferTimerExpiry line).env.reofferAt = 2000 := by decide +kernel
theorem test_proposal_deadline_gone : run (.proposalDeadlineExpiry 1) line = line := by decide +kernel

/-! ## Worked figures of chapters 2, 4, 6 and 9 -/

theorem test_liner_reel :
    (⟨1, 1, 2500, 250, 100, 1200⟩ : Reel).remaining = 4492484 := by decide +kernel
theorem test_medium_reel :
    (⟨1, 1, 2500, 180, 100, 1100⟩ : Reel).remaining = 5235996 ∧ conv 5939 5215996 = 3597359 := by decide +kernel
theorem test_feasible_cut : feasibleCut 1070400 1250 = 857 := by decide +kernel
theorem test_ramp_steps : rampValue 400 1000 64 = 550 ∧ rampValue 400 1000 128 = 700 ∧ rampValue 700 500 64 = 650 := by
  decide +kernel

/-- The WET port of section 9.9: STATION 3 is taken before REEL 6, which is then not presentable; SPLICE 0 is. -/
theorem test_floors_at_the_port :
    presentable line.env (withDesk [notice 901 6] [notice 902 3]).work 0 = [] ∧
    (presentable line.env (withDesk [notice 901 6, notice 903 0] [notice 902 3]).work 0).map Notice.tag = [903] := by
  decide +kernel

/-- The return list at its limit (section 9.9): an ALARM of priority 4 takes the place of the last STACK of priority 8. -/
theorem test_return_list_at_its_limit :
    let w : Work := { line.work with notices := { line.work.notices with returned :=
      [notice 1 6, notice 2 8, notice 3 6, notice 4 8, notice 5 6, notice 6 8, notice 7 6, notice 8 6] } }
    (enterReturn (notice 9 4) w).2.map Notice.tag = some 6 ∧ (enterReturn (notice 9 10) w).2.map Notice.tag = some 9 := by
  decide +kernel

/-- The turn-away of section 9.9: with the floors at 3 and a full queue the walk ends with the lap flag set. -/
theorem test_walk_turned_away :
    let e : Env := { line.env with ring := ⟨[0, 3], 3⟩, baseFloors := #v[3, 16, 16, 3] }
    walk e line.work 4 (walkBound e.ring) false 0 = (none, true) := by decide +kernel

theorem test_scope :
    specScope (spec 1) { spec 2 with width := 2400 } = .line ∧ specScope (spec 1) { spec 2 with score := 1 } = .dry ∧
    specScope (spec 1) { spec 2 with length := 1100 } = .knife := by decide +kernel

/-- R95: an order of one sheet too few out, and one whose slits leave too little trim. -/
theorem test_order_checks :
    orderCheck table { spec 1 with outs := 3 } = some 4 ∧
    orderCheck table { spec 1 with slits := [1250, 1231] } = some 5 ∧
    orderCheck table { spec 1 with slits := [1250, 1230] } = none := by decide +kernel

/-- The chain of section 6.8, its mark 712 in a state: 301 runs, 302 is committed, 303 and 304 are planned. -/
def chainSpec (tag grade score length quantity : Nat) : OrderSpec :=
  ⟨tag, #v[grade, 1, 1, 1, 1], 2500, 0, length, 1, [1200], score, quantity, 0, 100⟩
def chainMark (tag i j start : Nat) (st : ChangeState) (entry : Nat) : Mark :=
  ⟨tag, .change i j st false, ⟨BitVec.ofNat 32 start, false⟩, 0, 0, 0, entry⟩
def inChain (g : OrderSpec) (start first : Nat) (last : Option Nat) : Order :=
  { Order.fresh g with startPos := some ⟨BitVec.ofNat 32 start, false⟩, startTag := some first, endTag := last }
def chain (st : ChangeState) : State :=
  { line with
    env :=
      { line.env with
        run := .running
        table := { table with dDry := 150000, lineMargin := 364000 }
        encoders := line.env.encoders.set 2 { EncoderRec.powerOn ⟨false, false⟩ with odo := 20400000#32 } }
    work :=
      { line.work with
        track := ⟨[chainMark 710 0 301 20000000 .active 0, chainMark 711 301 302 20500000 .committed 1,
          chainMark 712 302 303 20860000 st 2, chainMark 713 303 304 21180000 .planned 3], 714, 4⟩
        seq :=
          ⟨[{ inChain (chainSpec 301 1 0 1000 500) 20000000 710 (some 711) with runningFlag := true, endCommitted := true },
            inChain (chainSpec 302 2 0 1200 300) 20500000 711 (some 712),
            inChain (chainSpec 303 2 1 800 400) 20860000 712 (some 713),
            inChain (chainSpec 304 2 1 1000 250) 21180000 713 none], [], some 301, false, false⟩ } }

/-- The chain's environment with the board at a position. -/
def chainAt (b : Nat) : Env :=
  { (chain .planned).env with
    encoders := line.env.encoders.set 2 { EncoderRec.powerOn ⟨false, false⟩ with odo := BitVec.ofNat 32 b } }

/-- The uncommitted marks: their tags, orders and starts. -/
def planOf (w : Work) : List (Nat × Option (Nat × Nat) × Nat) :=
  w.track.uncommittedChanges.map fun m => (m.tag, m.pair?, m.start.val.toNat)

/-- Section 6.8: 303 is withdrawn; 712 leads to 304 at its old place, and 304 has no successor. -/
theorem test_withdraw_replans :
    planOf (run (.orderWithdraw 0) (withRequest (chain .planned) 0 .orderWithdraw [0x01, 0x2F])).work =
      [(712, some (302, 304), 20860000)] := by decide +kernel

/-- R103: a mark that left the track before the refusal of an extension is no reason to extend again after it. -/
theorem test_refusal_ends_the_extension :
    let w := (chain .planned).work
    let full : Work :=
      { w with
        seq := { w.seq with sequence := w.seq.sequence ++ [order 305] }
        track := { w.track with marks := .replicate 188 ⟨1, .joint 0 false, ⟨20390000#32, false⟩, 1, 0, 0, 9⟩ ++ w.track.marks }
        owed := ⟨true, false⟩ }
    let t := extendLoop (chain .planned).env 32 full
    (t.owed.extend, t.seq.trackRefused, t.alarms.entries.map fun x => (x.kind, x.count)) =
      (false, true, [(.trackFull, 1)]) := by decide +kernel

/-- A proposal of mark 712 whose retry position has passed, while no DRY port is OPEN and mark 713 is due: the re-issue
is deferred at once (R115, R119), and while it waits nothing younger is issued (R113). -/
def retried : Env × Work :=
  ({ (chain .proposed).env with
      table := { (chain .proposed).env.table with dKnife := 1000000 }
      links := line.env.links.set 2 { opened .dry with state := .down } },
    { (chain .proposed).work with
      prop := ⟨[⟨4, 712, .dry, .waiting ⟨20400000#32, false⟩, some .ready, some .notReady, none, 1⟩], 5⟩ })

theorem test_retry_settles_before_an_issue :
    let w := proposalTest retried.1 retried.2
    w.prop.list.map (fun p => (p.tag, p.changeTag, p.deferrals, p.status.num)) = [(5, 712, 2, 2)] ∧ w.prop.nextTag = 6 := by
  decide +kernel

/-- The deficit of section 8.8: 600 sheets at 2 out and 4 extra cuts, with 10 cuts GOOD at the gate and 10 in the list,
after the joints at 30,100,000 and 30,150,000; the next of stand 3 can reach 30,195,500. -/
def shortOf45 : Env × Work :=
  let g : OrderSpec := ⟨402, #v[1, 1, 1, 1, 1], 2500, 0, 1000, 2, [1200, 1200], 0, 600, 4, 100⟩
  ({ line.env with
      run := .running
      table := { table with path := #v[14000, 14000, 14000, 118000, 30000], takeUp := #v[4096, 4096] }
      settings := line.env.settings.set 3 { StandSettings.powerOn with leadTime := 1000 }
      encoders := (line.env.encoders.set 1 { EncoderRec.powerOn ⟨false, false⟩ with speed := 5000 }).set 2
        { EncoderRec.powerOn ⟨false, false⟩ with odo := 30050500#32 } },
    { line.work with
      track := ⟨[chainMark 1 0 402 30000000 .active 0, ⟨2, .joint 0 false, ⟨30099500#32, false⟩, 1000, 0, 0, 1⟩,
        ⟨3, .joint 3 false, ⟨30149500#32, false⟩, 1000, 0, 0, 2⟩, ⟨4, .mismatch 3 true, ⟨30150000#32, false⟩, 0, 0, 0, 3⟩,
        chainMark 5 402 403 30304000 .planned 4], 6, 5⟩
      sheet := { line.work.sheet with sheets := (List.range 10).map fun k =>
        ⟨402, k + 11, ⟨BitVec.ofNat 32 (30010000 + k * 1000), false⟩, 1000, 2, none, false⟩ }
      seq :=
        ⟨[{ inChain g 30000000 1 (some 5) with
            runningFlag := true, tallies := { Tallies.zero with cuts := 20, good := 10 } },
          inChain { g with tag := 403, score := 1 } 30304000 5 none], [], some 402, false, false⟩ })

theorem test_deficit_of_45 :
    planOf (recompute shortOf45.1 shortOf45.2) = [(5, some (402, 403), 30349000)] ∧
    (recompute shortOf45.1 shortOf45.2).seq.sequence.head?.map (fun o => (o.added, o.tallies.forecast)) =
      some (45, 300) := by decide +kernel

/-! ## States that meet the hypotheses of the statements -/

/-- There is a state with a request at the head of a port's queue, between two events with no proposal outstanding and a
well-kept track, that has a property. -/
def Asked (p : Port) (r : Request) (body : List Byte) (C : State → Prop) : Prop :=
  ∃ (s : State) (q : Queued) (rest : List Queued), HeadOf s p q rest r body ∧ s.work.calm ∧ s.work.atRest ∧
    s.work.TrackRoom ∧ C s

theorem asked_of {p : Port} {r : Request} {body : List Byte} {C : State → Prop} (s : State) (hc : s.work.calm)
    (ht : s.work.TrackRoom) (h : C (withRequest s p r body)) : Asked p r body C :=
  ⟨withRequest s p r body, asked r body, [], headed s p r body, hc,
    ⟨by simp [withRequest, hc.1], by simp [withRequest, hc.1], hc.2⟩, ht, h⟩

/-- The same on the line as it stands but for its blocks' state, whose track is empty. -/
theorem asked_line {p : Port} {r : Request} {body : List Byte} {C : State → Prop} (s : State)
    (hc : s.work.prop = line.work.prop ∧ s.work.owed = line.work.owed) (ht : s.work.track = line.work.track)
    (h : C (withRequest s p r body)) : Asked p r body C := by
  refine asked_of s ⟨?_, ?_⟩ ?_ h
  · rw [hc.1]; rfl
  · rw [hc.2]; rfl
  · constructor <;> rw [ht] <;> decide +kernel

theorem asked_here {p : Port} {r : Request} {body : List Byte} {C : State → Prop}
    (h : C (withRequest line p r body)) : Asked p r body C := asked_line line ⟨rfl, rfl⟩ rfl h

theorem atRest_line : line.work.atRest := ⟨by decide +kernel, by decide +kernel, rfl⟩

theorem witness_StepRunsTheFrontCommand :
    ({ line with pending := [.speedPeriodClose] } : State).pending = .speedPeriodClose :: [] := rfl

theorem witness_IdleStepAndRequestNotAtHead :
    line.pending = [] ∧ (∀ q ∈ line.env.links[(0 : Port)].inbound.head?, q.request ≠ .read) ∧
    ∀ q ∈ (withRequest line 0 .status []).env.links[(0 : Port)].inbound.head?, q.request ≠ .read := by decide +kernel

theorem witness_EdgesAndReverseCounts_edges : State.reset.work.atRest ∧ State.reset.env.table.pitch[(2 : Encoder)] = 0 :=
  ⟨⟨by decide +kernel, by decide +kernel, rfl⟩, rfl⟩

/-- The line with an encoder's residue and debt. -/
def withE3 (pitch residue debt : Nat) : State :=
  { line with env :=
    { line.env with
      table := { table with pitch := #v[256000, 256000, pitch] }
      encoders := line.env.encoders.set 2
        { EncoderRec.powerOn ⟨false, false⟩ with residue := residue, debt := debt } } }

/-- A count that advances by 66 mm, one that advances by none, and one that pays debt off exactly. -/
theorem witness_ForwardCount :
    (withE3 50000 0 50000).work.atRest ∧ decodeEdge ⟨false, false⟩ ⟨true, false⟩ = .forward ∧
    (255999 + (16777215 - (withE3 16777215 255999 0).env.encoders[(2 : Encoder)].debt)) / 256000 = 66 ∧
    (0 + (50000 - (withE3 50000 0 50000).env.encoders[(2 : Encoder)].debt)) / 256000 = 0 ∧
    (∀ k : Bridge, (withE3 16777215 255999 0).env.bridges[k].fill ≤ (withE3 16777215 255999 0).env.table.fillMax[k]) :=
  ⟨atRest_line, by decide +kernel⟩

/-- An arrival at the clamp, and a count that finds the debt there. -/
theorem witness_EdgesAndReverseCounts_reverse :
    (withE3 256000 0 128000000).work.calm ∧ decodeEdge ⟨false, false⟩ ⟨false, true⟩ = .reverse ∧
    ((withE3 256000 0 127999999).env.encoders[(2 : Encoder)].debt < 128000000 ∧
      min ((withE3 256000 0 127999999).env.encoders[(2 : Encoder)].debt + 256000) 128000000 = 128000000) ∧
    ¬(withE3 256000 0 128000000).env.encoders[(2 : Encoder)].debt < 128000000 := ⟨line_calm, by decide +kernel⟩

theorem witness_SpeedPeriod :
    line.work.calm ∧ (∀ k : Stand, line.work.stands[k].phase ≠ .watch) ∧ line.work.track.uncommittedChanges = [] :=
  ⟨line_calm, by decide +kernel, rfl⟩

/-- An invalid frame at a port in step, and the first one after power-on, which comes after a gap. -/
theorem witness_FrameValidity :
    [0xD3#8] ≠ [] ∧ line.env.links[(0 : Port)].framed = true ∧ readFrame [0xD3#8] = none ∧ line.work.atRest ∧
    State.reset.env.links[(0 : Port)].framed = false ∧ State.reset.work.atRest :=
  ⟨by decide +kernel, rfl, by decide +kernel, atRest_line, rfl, by decide +kernel, by decide +kernel, rfl⟩

theorem witness_RequestFramesRoundTrip :
    (List.replicate 120 (0 : Byte)).length ≤ 120 ∧ (readFrame statusFrame).isSome = true ∧ 0 < 256 ^ 0 ∧
    255 < 256 ^ (0 + 1) ∧ 4294967295 < 256 ^ (3 + 1) := by decide +kernel

/-- A number of two bytes and one of four, written out. -/
theorem test_numbers_written : putNat 2 258 = [1, 2] ∧ putNat 4 4294967040 = [255, 255, 255, 0] := by decide +kernel

/-- A link with outstanding responses, and one whose queue has room for no long body. -/
def busyLink (n : Nat) (r : Role) : Link := { Link.powerOn 0 r with slots := List.replicate n ⟨0, none⟩ }
def fullLink : Link := { Link.powerOn 0 .planner with inbound := [asked .lineTable (List.replicate 120 0),
  asked .lineTable (List.replicate 120 0)] }

theorem witness_Admission :
    4 ≤ (busyLink 4 .view).slots.length ∧ (busyLink 3 .view).slots.length < 4 ∧
    (∀ r : Request, r.kind ≠ (0x07 : Byte)) ∧ Request.permitted .start .wet = false ∧
    (Request.permitted .start .planner = true ∧ Request.inHold .start .planner = false) ∧
    (Request.permitted .status .planner = true ∧ Request.inHold .status .planner = true ∧
      fullLink.freeEntries < 1 + (0 + 7) / 8 ∧ 1 + (120 + 7) / 8 ≤ (Link.powerOn 0 .planner).freeEntries) := by
  refine ⟨by decide +kernel, by decide +kernel, fun r => ?_, by decide +kernel, by decide +kernel, by decide +kernel⟩
  cases r <;> decide +kernel

theorem witness_ValidFrame :
    (readFrame statusFrame = some ⟨0x01, 9, false, []⟩ ∧ line.work.calm) ∧ statusFrame ≠ [] ∧
    (State.reset.env.links[(0 : Port)].framed = false ∧ State.reset.env.links[(0 : Port)].state = .hold) ∧
    (line.env.links[(0 : Port)].framed = true ∧ line.env.links[(0 : Port)].state = .opened) ∧
    ((opened .wet).framed = true ∧ ({ opened .wet with state := .down } : Link).state = .down ∧
      ({ opened .wet with state := .hold } : Link).state = .hold) :=
  ⟨⟨by decide +kernel, line_calm⟩, by decide +kernel, ⟨rfl, rfl⟩, ⟨rfl, rfl⟩, rfl, rfl, rfl⟩

theorem witness_ResponseSent :
    (∃ s : State, s.env.links[(0 : Port)].slots = ⟨7, some (.ok, [])⟩ :: []) ∧
    (withRequest line 0 .status []).env.links[(0 : Port)].slots = [] ++ ⟨7, none⟩ :: [] ∧
    line.env.links[(0 : Port)].slots = [] ∧ (asked .status []).posted = false ∧
    ({ asked .floor [3] with posted := true } : Queued).posted = true ∧ Code.range ≠ .ok :=
  ⟨⟨{ line with env := line.env.updLink 0 fun l => { l with slots := [⟨7, some (.ok, [])⟩] } }, by decide +kernel⟩,
    by decide +kernel, rfl, rfl, rfl, by decide +kernel⟩

theorem witness_PortGoesDown :
    State.reset.env.links[(0 : Port)].state ≠ .opened ∧ line.env.links[(2 : Port)].state = .opened ∧
    line.env.links[(2 : Port)].timer = some 2000 ∧ line.work.calm ∧
    proposal.collecting = true ∧ proposal.response .dry = some .pending ∧ proposal.response .planner ≠ some .pending :=
  ⟨by decide +kernel, rfl, rfl, line_calm, rfl, by decide +kernel, by decide +kernel⟩

theorem witness_ReadsAnswer :
    Asked 0 .status [] (fun _ => True) ∧ Asked 0 .status [0] (fun _ => True) ∧ Asked 3 .status [1] (fun _ => True) ∧
    Asked 3 .read [1, 0] (fun _ => True) ∧
    Asked 0 .peek [] (fun s => 4 ≤ s.work.notices.desks[(0 : Port)].taken.length) ∧
    Asked 0 .peek [] (fun s => s.work.notices.desks[(0 : Port)].taken.length < 4 ∧ presentable s.env s.work 0 = []) ∧
    Asked 0 .peek [] (fun s => s.work.notices.desks[(0 : Port)].taken.length < 4 ∧
      presentable s.env s.work 0 = [notice 1 5] ++ notice 2 3 :: [notice 3 3]) := by
  refine ⟨asked_here trivial, asked_here trivial,
    asked_here trivial, asked_here trivial,
    asked_line (withDesk [] [notice 1 5, notice 2 5, notice 3 5, notice 4 5]) ⟨rfl, rfl⟩ rfl ?_,
    asked_here ?_,
    asked_line (withDesk [notice 1 5, notice 2 3, notice 3 3] []) ⟨rfl, rfl⟩ rfl ?_⟩ <;> decide +kernel

theorem witness_TakeAndDone_take :
    Asked 0 .take [] (fun s => 4 ≤ s.work.notices.desks[(0 : Port)].taken.length) ∧
    Asked 0 .take [] (fun s => s.work.notices.desks[(0 : Port)].taken.length < 4 ∧ presentable s.env s.work 0 = []) ∧
    Asked 0 .take [] (fun s => s.work.notices.desks[(0 : Port)].taken.length < 4 ∧
      presentable s.env s.work 0 = [notice 1 5] ++ notice 2 3 :: [notice 3 3]) := by
  refine ⟨asked_line (withDesk [] [notice 1 5, notice 2 5, notice 3 5, notice 4 5]) ⟨rfl, rfl⟩ rfl ?_,
    asked_here ?_,
    asked_line (withDesk [notice 1 5, notice 2 3, notice 3 3] []) ⟨rfl, rfl⟩ rfl ?_⟩ <;> decide +kernel

/-- DONE of no notice, of one below the top, which raises no floor, and of the top one, which does. -/
theorem witness_TakeAndDone_done :
    getOne 2 [0, 1] = some 1 ∧ Asked 0 .done [0, 1] (fun s => ∀ n ∈ s.work.notices.desks[(0 : Port)].taken, n.tag ≠ 1) ∧
    (notice 1 3).body = .order 9 ∧
    Asked 0 .done [0, 1] (fun s => s.work.notices.desks[(0 : Port)].taken = [notice 2 0] ++ notice 1 3 :: [] ∧
      currentFloor s.env (s.work.setDesk 0 ⟨[], [notice 2 0]⟩) 0 ≤ currentFloor s.env s.work 0) ∧
    Asked 0 .done [0, 1] (fun s => s.work.notices.desks[(0 : Port)].taken = [] ++ notice 1 3 :: [] ∧
      currentFloor s.env s.work 0 < currentFloor s.env (s.work.setDesk 0 ⟨[], []⟩) 0) := by
  refine ⟨by decide +kernel, asked_here ?_, rfl,
    asked_line (withDesk [] [notice 2 0, notice 1 3]) ⟨rfl, rfl⟩ rfl ?_,
    asked_line (withDesk [] [notice 1 3]) ⟨rfl, rfl⟩ rfl ?_⟩ <;> decide +kernel

/-- The PROPOSAL notice that the DRY port has taken, with one response left PENDING and with two. -/
def asksDry : Notice := ⟨1, 2, .directed (some 2), .proposal ⟨4, 1, .line, 8, 9, 0#32⟩, 0⟩
def half : Proposal := { proposal with wet := some .ready }
def dryTakes (y : Proposal) : State :=
  { proposed [y] with work := (proposed [y]).work.setDesk 2 ⟨[], [asksDry]⟩ }

theorem witness_TakeAndDone_proposal :
    HeadOf (withRequest (dryTakes half) 2 .done [0, 1]) 2 (asked .done [0, 1]) [] .done [0, 1] ∧
    (∀ y ∈ [half, proposal], (∀ z ∈ (dryTakes y).work.prop.list, z.complete = false) ∧
      (∀ z ∈ (dryTakes y).work.prop.list.head?, z.effective = false) ∧ (dryTakes y).work.owed = ⟨false, false⟩ ∧
      (dryTakes y).work.notices.desks[(2 : Port)].taken = [] ++ asksDry :: [] ∧
      y ∈ (dryTakes y).work.prop.list ∧ y.tag = 4) ∧
    (half.giveUp .dry).complete = true ∧ (proposal.giveUp .dry).complete = false ∧
    (dryTakes half).env.links[(2 : Port)].role = .dry :=
  ⟨headed _ 2 .done [0, 1], by decide +kernel⟩

/-- A floor of 17; one of 16 that is no rise; one of 16 that is. -/
theorem witness_FloorSets :
    Asked 0 .floor [17] (fun _ => 16 < (17 : Byte).toNat) ∧
    Asked 0 .floor [16] (fun s => ¬(s.work.notices.desks[(0 : Port)].taken = [] ∧
      s.env.baseFloors[(0 : Port)] < (16 : Byte).toNat)) ∧
    Asked 0 .floor [16] (fun s => s.work.notices.desks[(0 : Port)].taken = [] ∧
      s.env.baseFloors[(0 : Port)] < (16 : Byte).toNat) := by
  refine ⟨asked_here ?_, asked_here ?_,
    asked_line { line with env := { line.env with baseFloors := .replicate 4 15 } } ⟨rfl, rfl⟩ rfl ?_⟩ <;>
    decide +kernel

theorem witness_ReofferTimer : line.work.calm ∧ line.work.notices.returned = [] := ⟨line_calm, rfl⟩

/-- A STATION notice of one station, kind and action, about a mark; a relayed notice; a ring that goes LP0, LP3, LP2 and
has its stop at LP3; a return list. -/
def stationBody (markTag : Nat) : StationBody := ⟨3, markTag, .change, .begins, none, 400, false, some 9, none⟩
def stationNotice (tag posted : Nat) : Notice := ⟨tag, 3, .directed (some 0), .station (stationBody posted), posted⟩
def relayed (lap : Bool) : Notice := { notice 9 4 with delivery := .relayed none lap }
def ringed (floors : Vector Nat 4) : Env := { line.env with ring := ⟨[0, 3, 2], 3⟩, baseFloors := floors }
def returning (l : List Notice) : Work := { line.work with notices := { line.work.notices with returned := l } }
def lossNotice : Notice := ⟨7, 5, .relayed none true, .alarm .noticeLost (.noticeClass .order) 1, 0⟩

/-- Directed: a match after another notice, no match with room and with none, and a destination that is DOWN. -/
theorem witness_NoticeDelivery_directed :
    let n := stationNotice 6 2
    n.delivery = .directed (some 0) ∧ n.body = .station (stationBody 2) ∧
    (stationNotice 5 1).body = .station (stationBody 1) ∧ (stationBody 1).station = (stationBody 2).station ∧
    (stationBody 1).markKind = (stationBody 2).markKind ∧ (stationBody 1).action = (stationBody 2).action ∧
    (withDesk [notice 1 5, stationNotice 5 1] []).work.notices.desks[(0 : Port)].offer =
      [notice 1 5] ++ stationNotice 5 1 :: [] ∧
    (∀ y, (notice 1 5).body ≠ .station y) ∧ line.env.links[(0 : Port)].state = .opened ∧
    (withDesk (.replicate 15 (notice 1 5)) []).work.notices.desks[(0 : Port)].offer.length < 16 ∧
    16 ≤ (withDesk (.replicate 16 (notice 1 5)) []).work.notices.desks[(0 : Port)].offer.length ∧
    State.reset.env.links[(0 : Port)].state ≠ .opened ∧
    ({ n with delivery := .directed none } : Notice).delivery = .directed none :=
  ⟨rfl, rfl, rfl, rfl, rfl, rfl, rfl, nofun, by decide +kernel⟩

/-- Relayed: taken by the first port, behind the stop, and by none. -/
theorem witness_NoticeDelivery_relayed :
    let walked (floors : Vector Nat 4) := walk (ringed floors) line.work 4 (walkBound (ringed floors).ring) false 0
    (ringed (.replicate 4 4)).ring.Ok ∧ (relayed true).delivery = .relayed none true ∧
    (relayed true).priority = 4 ∧ ([0, 3, 2] : List Port) = [] ++ 0 :: [3, 2] ∧ (1 : Port) ∉ ([0, 3, 2] : List Port) ∧
    ([0, 3, 2] : List Port) = [0] ++ 3 :: [2] ∧ (3 :: [2] ++ [0] : List Port) = [] ++ 3 :: [2, 0] ∧
    (∀ p : Port, line.env.links[p].state = .opened ∧ line.work.notices.desks[p].offer.length < 16) ∧
    (4 < currentFloor (ringed (.replicate 4 5)) line.work 0 ∧ (walked (.replicate 4 5)).1 = some 0) ∧
    ((∀ p ∈ ([0, 3] : List Port), ¬4 < currentFloor (ringed #v[4, 5, 5, 4]) line.work p) ∧
      4 < currentFloor (ringed #v[4, 5, 5, 4]) line.work 2 ∧ walked #v[4, 5, 5, 4] = (some 2, true)) ∧
    (∀ p ∈ ([0, 3, 2] : List Port), ¬4 < currentFloor (ringed (.replicate 4 4)) line.work p) ∧
    walked (.replicate 4 4) = (none, true) :=
  ⟨by constructor <;> decide +kernel, by decide +kernel⟩

/-- The return list with room for one; full, for a more urgent notice and for one as urgent as the one that would go; and
dropped notices: a PROPOSAL, another, and an ALARM that reports NOTICE_LOST. -/
theorem witness_NoticeDelivery_returned :
    let before := [notice 1 6, notice 2 8, notice 3 6, notice 4 8, notice 5 6]
    let after := [notice 7 7, notice 8 6]
    (returning (.replicate 7 (notice 1 6))).notices.returned.length < 8 ∧
    8 ≤ (before ++ notice 6 8 :: after).length ∧ (∀ x ∈ before, x.priority ≤ (notice 6 8).priority) ∧
    (∀ x ∈ after, x.priority < (notice 6 8).priority) ∧ (∀ x ∈ before ++ after, x.tag ≠ (notice 6 8).tag) ∧
    (notice 9 7).priority < (notice 6 8).priority ∧ (notice 6 8).priority ≤ (notice 9 8).priority ∧
    asksDry.body = .proposal ⟨4, 1, .line, 8, 9, 0#32⟩ ∧ asksDry.delivery = .directed (some 2) ∧
    (notice 1 6).body = .order 9 ∧ lossNotice.body = .alarm .noticeLost (.noticeClass .order) 1 ∧
    ({ line.env with alarmEnables := .replicate 16 false } : Env).alarmEnables[AlarmKind.noticeLost.index] = false := by
  decide +kernel

/-- The return list with an entry between two others; what the entry may meet is in the witnesses of NoticeDelivery. -/
theorem witness_ReofferTimer_entry :
    let meets (n : Notice) := (returning [notice 1 6, n, notice 2 6]).notices.returned = [notice 1 6] ++ n :: [notice 2 6] ∧
      ∀ m ∈ [notice 1 6] ++ [notice 2 6], m.tag ≠ n.tag
    meets (stationNotice 6 2) ∧ meets (relayed true) ∧
    (walk (ringed (.replicate 4 5)) (returning []) 4 (walkBound (ringed (.replicate 4 5)).ring) false 0).1 = some 0 ∧
    (walk (ringed (.replicate 4 4)) (returning []) 4 (walkBound (ringed (.replicate 4 4)).ring) false 0).1 = none := by
  decide +kernel

/-- Notices of a port that goes DOWN: directed and relayed ones, walked on to a port and to none; a return list with room and
one that drops; a drop that posts and one that does not. -/
theorem witness_PortGoesDown_notices :
    let full := returning (.replicate 8 (notice 1 6))
    let on (floor : Nat) := walk (ringed (.replicate 4 floor)) line.work 4 6 true (nextInRing (ringed (.replicate 4 floor)).ring 0)
    (asksDry.delivery = .directed (some 2) ∧ (relayed true).delivery = .relayed none true) ∧
    (walkBound (ringed (.replicate 4 5)).ring = 6 ∧ (on 5).1 = some 3 ∧ (on 4).1 = none) ∧
    (enterReturn asksDry line.work).2 = none ∧ (enterReturn (notice 9 6) full).2 = some (notice 9 6) ∧
    (recordDrop line.env lossNotice full).2 = none ∧ (recordDrop line.env (notice 9 6) full).2 ≠ none := by decide +kernel

/-- The line with a mark of its track, and with the run RUNNING. -/
def marked (m : Mark) : State :=
  { line with work := { line.work with track := ⟨[m], 2, 1⟩ } }
def inRun (s : State) : State := { s with env := { s.env with run := .running } }
def jointMark : Mark := ⟨1, .joint 0 false, ⟨500#32, false⟩, 1000, 0, 0, 0⟩

theorem room_of_jointMark : (marked jointMark).work.TrackRoom := by constructor <;> decide +kernel

theorem witness_LineTableRequest :
    (getSettings tableWidths [20, 0x02, 0x58] = some [⟨20, 600⟩] ∧ 34 ≤ (34 : Byte).toNat) ∧
    Asked 0 .lineTable [20, 0x02, 0x58] (fun s => s.env.run ≠ .idle) ∧
    Asked 0 .lineTable [20, 0x02, 0x58] (fun s => s.work.track.marks ≠ []) ∧
    Asked 0 .lineTable [20, 0x02, 0x58, 34, 0] (fun s => s.env.run = .idle ∧ s.work.track.marks = [] ∧
      getSettings tableWidths [20, 0x02, 0x58, 34, 0] = none) ∧
    Asked 0 .lineTable [22, 20, 22, 21] (fun s => s.env.run = .idle ∧ s.work.track.marks = [] ∧
      getSettings tableWidths [22, 20, 22, 21] = some [⟨22, 20⟩, ⟨22, 21⟩] ∧ ¬[22, 22].Nodup) ∧
    Asked 0 .lineTable [] (fun s => s.env.run = .idle ∧ s.work.track.marks = [] ∧
      getSettings tableWidths [] = some []) ∧
    Asked 0 .lineTable [20, 0x02, 0x58] (fun s => s.env.run = .idle ∧ s.work.track.marks = [] ∧
      getSettings tableWidths [20, 0x02, 0x58] = some [⟨20, 600⟩] ∧
      tableAccepted s.env s.work (candidateTable s.env.table [⟨20, 600⟩]) = true) ∧
    Asked 0 .lineTable [20, 0x00, 0xC8] (fun s => s.env.run = .idle ∧ s.work.track.marks = [] ∧
      getSettings tableWidths [20, 0x00, 0xC8] = some [⟨20, 200⟩] ∧
      (candidateTable s.env.table [⟨20, 200⟩]).fieldsOk = false) := by
  refine ⟨?_, asked_line (inRun line) ⟨rfl, rfl⟩ rfl ?_, asked_of (marked jointMark) line_calm room_of_jointMark ?_,
    asked_here ?_, asked_here ?_, asked_here ?_,
    asked_here ?_, asked_here ?_⟩ <;> decide +kernel

theorem witness_StationSetRequest :
    getStationSet [0, 1] = some ([], true) ∧ getStationSet [0, 0] = some ([], false) ∧ settingsOf [] = some [] ∧
    settingsOf [⟨24, none⟩] = none ∧ Asked 0 .stationSet [0, 1] (fun s => s.env.run = .running) ∧
    Asked 0 .stationSet [0, 0] (fun s => s.env.run = .idle) ∧
    Asked 0 .stationSet [0, 1] (fun s => stationSetCheck s.env (Vector.replicate 24 none) = some (1, none)) ∧
    Asked 0 .stationSet [0, 1] (fun s => stationSetCheck s.env s.env.staged = none) := by
  refine ⟨?_, ?_, ?_, ?_, asked_line (inRun line) ⟨rfl, rfl⟩ rfl ?_, asked_here ?_,
    asked_here ?_, asked_here ?_⟩ <;> decide +kernel

/-- Recipe lists: one place twice, a bad setting among good ones, and none. -/
theorem witness_RecipeProfileAndSetup_tables :
    Asked 0 .recipeSet [2, 31, 23, 0, 1, 31, 23, 255, 255] (fun _ =>
      getRecipeSet [2, 31, 23, 0, 1, 31, 23, 255, 255] = some ([[31, 23, 1]] ++ [31, 23, 65535] :: [])) ∧
    Asked 0 .recipeSet [2, 0, 0, 0, 1, 32, 23, 0, 1] (fun _ =>
      getRecipeSet [2, 0, 0, 0, 1, 32, 23, 0, 1] = some [[0, 0, 1], [32, 23, 1]]) ∧
    Asked 0 .recipeSet [0] (fun _ => getRecipeSet [0] = some []) ∧
    Asked 0 .profileSet [7, 1, 0, 0, 5, 1, 0] (fun _ => getProfileSet [7, 1, 0, 0, 5, 1, 0] = some (7, [⟨5, 256⟩]) ∧
      profileOk [⟨5, 256⟩] = true) ∧
    Asked 0 .profileSet [8, 1, 0, 0, 5, 1, 0] (fun _ => getProfileSet [8, 1, 0, 0, 5, 1, 0] = some (8, [⟨5, 256⟩])) := by
  refine ⟨asked_here ?_, asked_here ?_, asked_here ?_,
    asked_here ?_, asked_here ?_⟩ <;> decide +kernel

theorem witness_ClassAndRing :
    (∀ body ∈ ([[7, 16, 0], [8, 0, 0], [2, 3, 1, 0, 1], [3, 3, 1, 0, 3], [3, 3, 1, 1, 3], [8, 3, 1, 0, 0], [3, 3, 1, 2, 3],
      [3, 3, 1, 1, 4]] : List (List Byte)), Asked 0 .classSet body fun _ => True) ∧
    (∀ body ∈ ([[4, 3, 2, 1, 0, 0], [0, 0], [1, 4, 0], [2, 1, 1, 1], [1, 3, 0]] : List (List Byte)),
      Asked 0 .relaySet body fun _ => True) ∧
    (classOf 7 = some .order ∧ classOf 2 = some .station ∧ roleOf 1 = some .wet ∧ classOf 3 = some .alarm ∧
      roleOf 3 = some .view) ∧
    (0 : Port) ∈ ([3, 2, 1, 0] : List Port) ∧ ([3, 2, 1, 0] : List Port).Nodup ∧ 4 ≤ (4 : Byte).toNat ∧
    ¬([1, 1] : List Byte).Nodup ∧ (0 : Byte) ∉ ([3] : List Byte) :=
  ⟨fun _ _ => asked_here trivial, fun _ _ => asked_here trivial, by decide +kernel⟩

theorem witness_AlarmEnableRequest :
    Asked 0 .alarmEnable [16, 1] (fun _ => True) ∧ Asked 0 .alarmEnable [254, 0] (fun _ => True) ∧
    Asked 0 .alarmEnable [15, 1] (fun _ => True) ∧ Asked 0 .alarmEnable [255, 0] (fun _ => True) ∧
    ({ line.env with alarmEnables := .replicate 16 false } : Env).alarmEnables[AlarmKind.reverse.index] = false :=
  ⟨asked_here trivial, asked_here trivial,
    asked_here trivial, asked_here trivial, by decide +kernel⟩

/-- The line with an entry of the alarm record. -/
def alarmed : State :=
  { line with work := { line.work with alarms := { line.work.alarms with entries := [⟨.bridgeLow, ⟨.bridge, 1⟩, true, 1⟩] } } }

/-- A raise of a held entry whose count is at its limit, of none with room for one, and of none in a full record. -/
theorem witness_AlarmRaiseAndClear_raise :
    let spare (n : Nat) : AlarmEntry := ⟨.spliceLate, ⟨.stand, n⟩, true, 1⟩
    let entry : AlarmEntry := ⟨.bridgeLow, ⟨.bridge, 1⟩, false, 255⟩
    (entry.kind = .bridgeLow ∧ entry.subject = .bridge 0 ∧
      ∀ z ∈ [spare 0] ++ [spare 1], ¬(z.kind = .bridgeLow ∧ z.subject = .bridge 0)) ∧
    (∀ z ∈ (List.range 64).map spare, ¬(z.kind = .bridgeLow ∧ z.subject = .bridge 0)) ∧
    ((List.range 63).map spare).length < 64 ∧ 64 ≤ ((List.range 64).map spare).length := by decide +kernel

theorem witness_AlarmRaiseAndClear_clear :
    Asked 0 .alarmClear [2] (fun _ => True) ∧ Asked 0 .alarmClear [1, 15] (fun _ => AlarmKind.cueOverlap.index.val = 15) ∧
    Asked 0 .alarmClear [1, 16] (fun _ => True) ∧
    Asked 0 .alarmClear [0, 3, 2, 0, 1] (fun _ => SubjectType.stand ∉ subjectTypes .bridgeLow) ∧
    Asked 0 .alarmClear [0, 3, 1, 0, 1] (fun s => SubjectType.bridge ∈ subjectTypes .bridgeLow ∧
      s.work.alarms.entries = []) ∧
    Asked 0 .alarmClear [0, 3, 1, 0, 1] (fun s => ∃ y ∈ s.work.alarms.entries, y.kind = .bridgeLow ∧
      y.subject = ⟨.bridge, 1⟩) := by
  refine ⟨asked_here trivial, asked_here ?_,
    asked_here trivial, asked_here ?_, asked_here ?_,
    asked_line alarmed ⟨rfl, rfl⟩ rfl ?_⟩ <;> decide +kernel

def inHold : State := { State.reset with env := { State.reset.env with configured := true, table := table } }

theorem witness_OpenRequest :
    Asked 0 .openPart [0, 99, 0, 0, 0, 0, 0, 0] (fun _ =>
      exact (getNats [2, 2, 2, 2] [0, 99, 0, 0, 0, 0, 0, 0]) = some (#v[99, 0, 0, 0] : Vector Nat 4).toList) ∧
    Asked 0 .openPart [0, 100, 0, 0, 0, 0, 0x27, 0x10] (fun s => s.env.configured = false) ∧
    Asked 0 .openPart [0, 100, 0, 0, 0, 0, 0x27, 0x10] (fun s => s.env.configured = true ∧ s.env.partOpen = true ∧
      exact (getNats [2, 2, 2, 2] [0, 100, 0, 0, 0, 0, 0x27, 0x10]) = some (#v[100, 0, 0, 10000] : Vector Nat 4).toList) ∧
    Asked 0 .openPart [0, 100, 0, 0, 0, 0, 0x27, 0x10] (fun s => s.env.configured = true ∧ s.env.partOpen = false ∧
      s.work.notices.returned = []) := by
  refine ⟨asked_here ?_, asked_line State.reset ⟨rfl, rfl⟩ rfl ?_,
    asked_here ?_, asked_line inHold ⟨rfl, rfl⟩ rfl ?_⟩ <;> decide +kernel

theorem witness_RecipeProfileAndSetup_setup :
    Asked 2 .setupDone [2, 0, 9] (fun _ => True) ∧
    Asked 2 .setupDone [0, 0, 9] (fun s => s.work.station.slitters.active = .a) ∧
    Asked 2 .setupDone [1, 0, 9] (fun s => s.env.stationsValid = false) ∧
    Asked 2 .setupDone [1, 0, 9] (fun s => s.env.stationsValid = true ∧ s.work.station.slitters.active ≠ .b ∧
      s.work.track.marks.any (unswapped s.env s.work) = false ∧ s.work.seq.find 9 = none) ∧
    Asked 2 .setupDone [1, 0, 9] (fun s => s.env.stationsValid = true ∧ s.work.station.slitters.active ≠ .b ∧
      s.work.track.marks.any (unswapped s.env s.work) = false ∧ s.work.seq.find 9 ≠ none) ∧
    Asked 2 .setupDone [0, 0, 9] (fun s => s.env.stationsValid = true ∧ s.work.station.slitters.active ≠ .a ∧
      s.work.track.marks.any (unswapped s.env s.work) = false ∧ s.work.seq.find 9 ≠ none) := by
  refine ⟨asked_here trivial, asked_here ?_,
    asked_line State.reset ⟨rfl, rfl⟩ rfl ?_, asked_here ?_, asked_line queued ⟨rfl, rfl⟩ rfl ?_,
    asked_line { queued with work := { queued.work with station :=
      { queued.work.station with slitters := ⟨.b, none, none, false, false⟩ } } } ⟨rfl, rfl⟩ rfl ?_⟩ <;> decide +kernel

theorem witness_BridgeFills :
    Asked 1 .bridgeSet [3, 0, 0, 0, 0] (fun _ => exact (getNats [1, 4] [3, 0, 0, 0, 0]) = some [3, 0]) ∧
    Asked 1 .bridgeSet [2, 255, 255, 255, 255] (fun _ =>
      exact (getNats [1, 4] [2, 255, 255, 255, 255]) = some [2, 4294967295]) ∧ line.work.calm ∧
    (line.env.bridges[(0 : Bridge)].fill ≠ line.env.table.fillMax[(0 : Bridge)] ∧
      line.env.bridges[(0 : Bridge)].level = .low) ∧
    (let e : Env := { line.env with bridges := .replicate 2 ⟨19999, .normal⟩ }
     e.bridges[(1 : Bridge)].fill ≠ 0 ∧ bridgeLevel 20000 100000 5000 0 e.bridges[(1 : Bridge)].level = .low) := by
  refine ⟨asked_here ?_, asked_here ?_, line_calm, ?_⟩ <;> decide +kernel

theorem witness_StandSetRequest :
    getSettings standWidths [0, 0x03, 0xE9] = some [⟨0, 1001⟩] ∧ getSettings standWidths [0, 0x13, 0x89] = some [⟨0, 5001⟩] ∧
    Asked 1 .standSet [] (fun _ => True) ∧ Asked 1 .standSet [0, 11, 0] (fun _ => getSettings standWidths [11, 0] = none) ∧
    Asked 1 .standSet [5, 0, 0x03, 0xE9] (fun _ => True) ∧
    Asked 1 .standSet [4, 0, 0x13, 0x89] (fun _ => standSettingOk ⟨0, 5001⟩ = false) ∧
    Asked 1 .standSet [4, 0, 0x03, 0xE9] (fun s => settingsAccepted s.env.settings[(4 : Stand)] [⟨0, 1001⟩] = true) ∧
    Asked 1 .standSet [0, 9, 1, 0x86, 0xA0] (fun s =>
      getSettings standWidths [9, 1, 0x86, 0xA0] = some [⟨9, 100000⟩] ∧
      settingsAccepted s.env.settings[(0 : Stand)] [⟨9, 100000⟩] = true ∧
      s.env.usable 0 s.work.stands[(0 : Stand)].running ≠ none) ∧
    (0 < 1 ∧ 1 ≤ StandSettings.powerOn.last ∧ StandSettings.powerOn.last < StandSettings.powerOn.arm ∧
      StandSettings.powerOn.arm < StandSettings.powerOn.warn) ∧
    (rawLevel StandSettings.powerOn 0).rank ≤ ReelLevel.last.rank ∧
    ReelLevel.last.rank < (rawLevel StandSettings.powerOn 10000000).rank := by
  refine ⟨by decide +kernel, by decide +kernel, asked_here trivial,
    asked_here ?_, asked_here trivial,
    asked_here ?_, asked_here ?_, asked_line running ⟨rfl, rfl⟩ rfl ?_,
    ?_, ?_, ?_⟩ <;> decide +kernel

def loadBody (stand : Byte) : List Byte := [stand, 0, 0, 0, 5, 1, 0x09, 0xC4, 0, 200, 100, 0x04, 0xB0]

theorem witness_ReelRequests_load :
    exact (getNats [1, 4, 1, 2, 2, 1, 2] (loadBody 4)) = some [4, 5, 1, 2500, 200, 100, 1200] ∧
    Asked 1 .reelLoad (loadBody 5) (fun _ =>
      exact (getNats [1, 4, 1, 2, 2, 1, 2] (loadBody 5)) = some [5, 5, 1, 2500, 200, 100, 1200]) ∧
    Asked 1 .reelLoad (loadBody 0) (fun _ => loaded.work.stands[(0 : Stand)].ready ≠ none) ∧
    Asked 1 .reelLoad (loadBody 4) (fun s => s.env.run = .idle ∧ s.work.stands[(4 : Stand)].running = .none ∧
      s.work.stands[(4 : Stand)].ready = none ∧ s.work.stands[(4 : Stand)].phase.isFired = false) ∧
    Asked 1 .reelLoad (loadBody 0) (fun s => s.work.stands[(0 : Stand)].running ≠ .none ∧
      s.work.stands[(0 : Stand)].ready = none ∧ s.work.stands[(0 : Stand)].phase.isFired = false) := by
  refine ⟨by decide +kernel, asked_here ?_, asked_line loaded ⟨rfl, rfl⟩ rfl ?_,
    asked_here ?_, asked_line running ⟨rfl, rfl⟩ rfl ?_⟩ <;> decide +kernel

theorem witness_ReelRequests_remove :
    Asked 1 .reelRemove [5, 0] (fun _ => True) ∧ Asked 1 .reelRemove [4, 2] (fun _ => True) ∧
    Asked 1 .reelRemove [0, 0] (fun s => s.work.stands[(0 : Stand)].ready = none) ∧
    Asked 1 .reelRemove [0, 0] (fun s => s.work.stands[(0 : Stand)].ready ≠ none ∧
      s.work.stands[(0 : Stand)].phase.isFired = false) ∧
    Asked 1 .reelRemove [0, 1] (fun s => s.env.run = .running) ∧
    Asked 1 .reelRemove [0, 1] (fun s => s.env.run = .idle ∧ s.work.stands[(0 : Stand)].running ≠ .none ∧
      s.work.stands[(0 : Stand)].phase.isFired = false) := by
  refine ⟨asked_here trivial, asked_here trivial,
    asked_here ?_, asked_line loaded ⟨rfl, rfl⟩ rfl ?_, asked_line (inRun line) ⟨rfl, rfl⟩ rfl ?_,
    asked_line running ⟨rfl, rfl⟩ rfl ?_⟩ <;> decide +kernel

theorem witness_ReelRequests_diameter :
    Asked 1 .diameter [5, 0, 0] (fun _ => exact (getNats [1, 2] [5, 0, 0]) = some [5, 0]) ∧
    Asked 1 .diameter [4, 0, 0] (fun s => s.work.stands[(4 : Stand)].running = .none) ∧
    Asked 1 .diameter [0, 0x07, 0x08] (fun s => s.work.stands[(0 : Stand)].running = .reel reel ⟨100000, 0, false⟩ ∧
      exact (getNats [1, 2] [0, 0x07, 0x08]) = some [0, 1800]) := by
  refine ⟨asked_here ?_, asked_here ?_, asked_line running ⟨rfl, rfl⟩ rfl ?_⟩ <;>
    decide +kernel

theorem witness_EnableAndSpliceEnds_enable :
    Asked 1 .spliceFail [5] (fun _ => True) ∧
    Asked 1 .spliceFail [0] (fun s => s.work.stands[(0 : Stand)].phase.isFired = false) ∧
    Asked 1 .spliceFail [0] (fun s => s.work.stands[(0 : Stand)].phase.isFired = true) ∧
    Asked 1 .standEnable [5, 1] (fun _ => True) ∧
    Asked 1 .standEnable [0, 0] (fun s => s.work.stands[(0 : Stand)].phase.isFired = true) ∧
    Asked 1 .standEnable [0, 0] (fun s => s.work.stands[(0 : Stand)].phase.isFired = false) ∧
    Asked 1 .standEnable [0, 1] (fun s => s.work.stands[(0 : Stand)].phase.isFired = false) := by
  refine ⟨asked_here trivial, asked_here ?_, asked_line fired ⟨rfl, rfl⟩ rfl ?_,
    asked_here trivial, asked_line fired ⟨rfl, rfl⟩ rfl ?_, asked_here ?_,
    asked_here ?_⟩ <;> decide +kernel

theorem witness_JointRequest :
    Asked 1 .joint [5] (fun s => s.work.track.marks.length < 192) ∧
    Asked 1 .joint [4] (fun s => s.work.track.marks.length < 192 ∧ s.work.stands[(4 : Stand)].lateWindow = none) ∧
    Asked 1 .joint [0] (fun s => s.work.track.marks.length < 192 ∧ s.work.stands[(0 : Stand)].phase.isFired = true) ∧
    Asked 1 .joint [4] (fun s => s.work.track.marks.length < 192 ∧
      s.work.stands[(4 : Stand)].phase.isFired = false ∧ s.work.stands[(4 : Stand)].lateWindow ≠ none) := by
  refine ⟨asked_here ?_, asked_here ?_, asked_line fired ⟨rfl, rfl⟩ rfl ?_,
    asked_line (withStand 4 fun r => { r with lateWindow := some 7 }) ⟨rfl, rfl⟩ rfl ?_⟩ <;> decide +kernel

theorem witness_EnableAndSpliceEnds_ends :
    fired.work.calm ∧ (∀ m : ConfirmMode, ({ fired.env.settings[(0 : Stand)] with mode := m } : StandSettings).mode = m) ∧
    line.work.stands[(0 : Stand)].phase.isFired = false ∧ fired.work.stands[(0 : Stand)].phase = .fired snapshot ∧
    fired.env.settings[(0 : Stand)].mode = .sensorOrTimed ∧ line.work.cues[(0 : CueLine)] = none ∧
    ({ line.work with cues := line.work.cues.set 11 (some 7) } : Work).cues[(11 : CueLine)] = some 7 ∧
    line.work.stands[(0 : Stand)].lateWindow = none ∧
    (withStand 4 fun r => { r with lateWindow := some 7 }).work.stands[(4 : Stand)].lateWindow = some 7 :=
  ⟨line_calm, fun _ => rfl, by decide +kernel⟩

/-- Stand 0 in WATCH with a ready reel and a requirement of grade 1, its aim a distance beyond reach and lead. -/
def aimed (beyond : Int) : State :=
  withStand 0 fun r =>
    { r with
      ready := some reel, enable := true, phase := .watch
      requirement := some ⟨1, ⟨BitVec.ofInt 32 (line.env.fireReach 0 + beyond), false⟩, 1, 2500⟩ }
/-- Stand 0 in WATCH at ARM, with a ready reel and a running reel of a usable length. -/
def thin (usable : Nat) : State :=
  withStand 0 fun r =>
    { r with
      ready := some reel, enable := true, phase := .watch, level := .arm, running := .reel reel ⟨usable, 0#32, false⟩ }

/-- A fire for a requirement and one without; a grade condition that just holds and one that just does not; a runout condition
at the margin and beyond it; a stand that is not in WATCH; and an enable that makes a fire late. -/
theorem witness_FireTakesASnapshot :
    let q (beyond : Int) : Requirement := ⟨1, ⟨BitVec.ofInt 32 (line.env.fireReach 0 + beyond), false⟩, 1, 2500⟩
    let margin := line.env.lead 0 + line.env.settings[(0 : Stand)].runoutMargin
    let r (s : State) := s.work.stands[(0 : Stand)]
    let limit := line.env.splicerReach 0 + line.env.lead 0
    loaded.work.calm ∧ (aimed 0).work.calm ∧
    Asked 1 .standEnable [0, 1] (fun s => (r s).phase.isFired = false ∧ (r s).requirement = some (q 0) ∧
      (r s).ready = some reel ∧ s.env.ahead (q 0).aim ≤ s.env.splicerReach 0 + s.env.lead 0) ∧
    ((r (aimed 0)).requirement = some (q 0) ∧ (r (aimed 0)).ready = some reel ∧ (r (aimed 0)).phase = .watch ∧
      reel.suits (q 0).grade (q 0).width = true ∧ line.env.ahead (q 0).aim ≤ limit ∧ ¬line.env.ahead (q 1).aim ≤ limit) ∧
    ((r loaded).requirement = none ∧ (r loaded).ready = some reel ∧ (r loaded).phase ≠ .watch) ∧
    (r (thin margin)).phase = .watch ∧ (r (thin margin)).level = .arm ∧ (r (thin margin)).requirement = none ∧
    line.env.usable 0 (r (thin margin)).running = some margin ∧
    line.env.usable 0 (r (thin (margin + 1))).running = some (margin + 1) :=
  ⟨line_calm, line_calm, asked_line (aimed 0) ⟨rfl, rfl⟩ rfl (by decide +kernel), by decide +kernel⟩

theorem room_of_chain : (chain .planned).work.TrackRoom := by constructor <;> decide +kernel

/-- A track full of JOINT marks. -/
def fullTrack : Work :=
  { line.work with track :=
    ⟨(List.range 192).map fun n => ⟨n + 1, .joint 0 false, ⟨BitVec.ofNat 32 n, false⟩, 1, 0, 0, n⟩, 193, 192⟩ }
def openMark : Mark := ⟨1, .mismatch 0 true, ⟨500#32, false⟩, 0, 0, 0, 0⟩

theorem witness_MarksEnterTheTrack :
    line.work.TrackRoom ∧ fullTrack.TrackRoom ∧ (marked openMark).work.TrackRoom ∧
    (marked openMark).work.track.find 1 = some openMark ∧ openMark.body = .mismatch 0 true ∧
    line.work.track.defects.length < 160 ∧ line.work.track.marks.length < 192 ∧
    (MarkBody.joint 0 false).kind ≠ .change ∧ 192 ≤ fullTrack.track.marks.length ∧
    (mergeCandidates line.env fullTrack.track).length < 2 := by
  refine ⟨line_room, by constructor <;> decide +kernel, by constructor <;> decide +kernel, ?_⟩
  decide +kernel

/-- Stand 0 while the chain runs, with a running reel of a grade, and with the requirement of the change to 302. -/
def standing (f : StandRec → StandRec) : Work := (chain .planned).work.updStand 0 f
def fed (grade : Nat) : Running := .reel { reel with grade := grade } ⟨100000, 0, false⟩
def need : Requirement := ⟨711, ⟨20498000#32, false⟩, 2, 2500⟩
def jointAt (x : Nat) : JointCase := ⟨⟨BitVec.ofNat 32 x, false⟩, ⟨BitVec.ofNat 32 (x + 500), false⟩, .none⟩
def beforeChange : JointCase := jointAt 20450000
def behindChange : JointCase := jointAt 20500400

/-- A requirement to create, one held, and none to create. -/
theorem witness_RequirementsAndMismatches_rule :
    let e := (chain .planned).env
    let bound := (chain .planned).work.track.boundChanges
    (standing id).stands[(0 : Stand)].requirement = none ∧
    bound[0]? = some (chainMark 710 0 301 20000000 .active 0) ∧
    bound[1]? = some (chainMark 711 301 302 20500000 .committed 1) ∧ e.splicerReach 0 < e.ahead ⟨20500000#32, false⟩ ∧
    runningSuits (standing id) 0 .none 301 = false ∧
    runningSuits (standing id) 0 (fed 1) 301 = true ∧ runningSuits (standing id) 0 (fed 1) 302 = false ∧
    (standing id).seq.find 301 ≠ none ∧ (standing id).seq.find 302 ≠ none ∧
    (standing fun r => { r with requirement := some need }).stands[(0 : Stand)].requirement ≠ none ∧
    line.work.track.boundChanges = [] := by decide +kernel

/-- Joints before and behind the change of a requirement that is met; unsuited ones with none, with one unmet; a suited
one. -/
theorem witness_RequirementsAndMismatches_joint :
    let e := (chain .planned).env
    let met := standing fun r => { r with requirement := some need, running := fed 2 }
    let unmet := standing fun r => { r with requirement := some need }
    let suited := standing fun r => { r with running := fed 1 }
    (chain .planned).work.TrackRoom ∧ (chain .planned).work.track.marks.length < 192 ∧
    runningMeets (fed 2) need = true ∧ runningMeets .none need = false ∧
    orderAt e met beforeChange.pos = some 301 ∧ runningSuits met 0 (fed 2) 301 = false ∧
    e.ahead beforeChange.pos < e.ahead (need.change e met) ∧ e.ahead (need.change e met) ≤ e.ahead behindChange.pos ∧
    orderAt e unmet behindChange.pos = some 302 ∧ runningSuits unmet 0 .none 302 = false ∧
    orderAt e suited beforeChange.pos = some 301 ∧ runningSuits suited 0 (fed 1) 301 = true := by
  refine ⟨room_of_chain, ?_⟩
  decide +kernel

/-- An open mismatch that a change in between settles, one that the joint settles, and one that neither does; arrivals whose
change the running reel feeds, suited and unsuited, and one already dealt with. -/
theorem witness_RequirementsAndMismatches_open :
    let w (running : Running) : Work :=
      { (standing fun r => { r with running := running, openMismatch := some 714 }) with
        track := ⟨(chain .planned).work.track.marks ++ [⟨714, .mismatch 0 true, ⟨20440000#32, false⟩, 0, 0, 0, 4⟩], 715, 5⟩ }
    let e := (chain .planned).env
    let between_ (old : Running) (y : Mark) : Bool :=
      decide (e.ahead ⟨20440000#32, false⟩ < e.ahead y.start) && decide (e.ahead y.start ≤ e.ahead behindChange.pos) &&
        (y.pair?.any fun p => runningSuits (w .none) 0 old p.2)
    (∀ x ∈ [fed 1, fed 2], (w x).stands[(0 : Stand)].openMismatch = some 714 ∧ (w x).stands[(0 : Stand)].feedStart = none) ∧
    (w (fed 1)).track.find 714 = some ⟨714, .mismatch 0 true, ⟨20440000#32, false⟩, 0, 0, 0, 4⟩ ∧
    (w (fed 1)).track.boundChanges.map (between_ (fed 2)) = [false, true] ∧
    (w (fed 1)).track.boundChanges.map (between_ (fed 1)) = [false, false] ∧
    (orderAt e (w (fed 1)) beforeChange.pos = some 301 ∧ orderAt e (w (fed 1)) behindChange.pos = some 302 ∧
      runningSuits (w (fed 1)) 0 (fed 1) 301 = true ∧ runningSuits (w (fed 1)) 0 (fed 1) 302 = false) ∧
    e.ahead ⟨20400000#32, false⟩ < e.ahead ⟨20450000#32, false⟩ ∧ (standing id).stands[(0 : Stand)].openMismatch = none ∧
    (standing id).stands[(0 : Stand)].feedStart = none := by decide +kernel

theorem witness_StartRequest :
    Asked 0 .start [1, 0x86, 0xA1] (fun _ => getOne 3 [1, 0x86, 0xA1] = some 100001) ∧
    Asked 0 .start [1, 0x86, 0xA0] (fun s => s.env.run = .running ∧ getOne 3 [1, 0x86, 0xA0] = some 100000) ∧
    Asked 0 .start [0, 0, 0] (fun s => ¬∃ o ∈ s.work.seq.sequence, orderState s.work o = .queued) ∧
    Asked 0 .start [1, 0x86, 0xA0] (fun s => s.env.run = .idle ∧ s.env.downstream .knife = some 30000 ∧
      (∃ o ∈ s.work.seq.sequence, orderState s.work o = .queued) ∧ s.work.seq.sequence = order 9 :: [] ∧
      s.work.track.marks.length < 192) := by
  refine ⟨asked_here ?_, asked_line (inRun line) ⟨rfl, rfl⟩ rfl ?_, asked_here ?_,
    asked_line queued ⟨rfl, rfl⟩ rfl ?_⟩ <;> decide +kernel

/-- An ORDER_ADD of order 8 at the tail, and before an order. -/
def beforeBody (hi lo : Byte) : List Byte := orderBody.dropLast ++ [1, hi, lo]
def spec8 : OrderSpec := ⟨8, #v[1, 1, 1, 1, 1], 2500, 0, 1000, 2, [1200, 1200], 0, 1001, 5, 100⟩

/-- The line with 32 orders queued, and with an order committed to be followed. -/
def fullQueue : State :=
  { line with work := { line.work with seq := { line.work.seq with
    sequence := (List.range 32).map fun n => order (n + 100) } } }
def flagged : State :=
  { line with work := { line.work with seq := { line.work.seq with sequence := [{ order 9 with runningFlag := true }] } } }

theorem witness_OrderAddRequest :
    getOrderAdd orderBody = some (spec8, .tail) ∧ getOrderAdd (beforeBody 0 9) = some (spec8, .before 9) ∧
    Asked 0 .orderAdd orderBody (fun s => orderCheck s.env.table spec8 = some 2) ∧
    Asked 0 .orderAdd orderBody (fun s => orderCheck s.env.table spec8 = none ∧ s.work.seq.find 8 ≠ none) ∧
    Asked 0 .orderAdd orderBody (fun s => s.work.seq.find 8 = none ∧ 32 ≤ s.work.seq.live.length) ∧
    Asked 0 .orderAdd orderBody (fun s => orderCheck s.env.table spec8 = none ∧ s.work.seq.find 8 = none ∧
      s.work.seq.live.length < 32 ∧ s.work.seq.running = none) ∧
    Asked 0 .orderAdd (beforeBody 0 9) (fun s => s.work.seq.find 9 = none) ∧
    Asked 0 .orderAdd (beforeBody 0 9) (fun s => s.work.seq.find 9 = some { order 9 with runningFlag := true } ∧
      admitsBefore s.work { order 9 with runningFlag := true } = false) ∧
    Asked 0 .orderAdd (beforeBody 0x01 0x2E) (fun s => orderCheck s.env.table spec8 = none ∧ s.work.seq.find 8 = none ∧
      s.work.seq.live.length < 32 ∧ s.work.seq.running = some 301 ∧ ∃ o ∈ s.work.seq.sequence,
        s.work.seq.find 302 = some o ∧ s.work.startMark o = some (chainMark 711 301 302 20500000 .committed 1)) ∧
    Asked 0 .orderAdd (beforeBody 0 9) (fun s => s.work.seq.running = some 301 ∧ s.work.seq.find 9 = none) ∧
    Asked 0 .orderAdd (beforeBody 0 9) (fun s => s.work.seq.sequence = [] ++ order 9 :: [] ∧
      admitsBefore s.work (order 9) = true ∧ (order 9).startTag = none) ∧
    Asked 0 .orderAdd (beforeBody 0x01 0x30) (fun s => orderCheck s.env.table spec8 = none ∧ s.work.seq.find 8 = none ∧
      s.work.seq.live.length < 32 ∧ s.work.seq.running = some 301 ∧ ∃ o ∈ s.work.seq.sequence,
        s.work.seq.find 304 = some o ∧ admitsBefore s.work o = true ∧
          s.work.startMark o = some (chainMark 713 303 304 21180000 .planned 3)) ∧
    (chain .planned).work.track.find 712 = some (chainMark 712 302 303 20860000 .planned 2) := by
  refine ⟨by decide +kernel, by decide +kernel,
    asked_line { line with env := { line.env with table := { table with minSheet := 1001 } } } ⟨rfl, rfl⟩ rfl ?_,
    asked_line { line with work := { line.work with seq := { line.work.seq with sequence := [order 8] } } } ⟨rfl, rfl⟩ rfl ?_,
    asked_line fullQueue ⟨rfl, rfl⟩ rfl ?_, asked_line queued ⟨rfl, rfl⟩ rfl ?_, asked_here ?_,
    asked_line flagged ⟨rfl, rfl⟩ rfl ?_, asked_of (chain .planned) line_calm room_of_chain ?_,
    asked_of (chain .planned) line_calm room_of_chain ?_, asked_line queued ⟨rfl, rfl⟩ rfl ?_,
    asked_of (chain .planned) line_calm room_of_chain ?_, ?_⟩ <;> decide +kernel

/-- Whether the start mark of an order in the queue is bound. -/
def starts (s : State) (tag : Nat) : Option Bool :=
  ((s.work.seq.find tag).bind s.work.startMark).map Mark.bound

/-- The chain's orders under withdrawal: 302 is committed, 303 has a PROPOSED start or a PLANNED one, 304 no successor. -/
theorem witness_WithdrawAndRelease :
    starts (chain .planned) 302 = some true ∧ starts (chain .proposed) 303 = some false ∧
    starts (chain .planned) 303 = some false ∧ starts (chain .planned) 304 = some false ∧
    ((chain .proposed).work.seq.find 303).map (orderState (chain .proposed).work) = some .planned ∧
    (((chain .proposed).work.seq.find 303).bind (chain .proposed).work.startMark).bind Mark.changeState? =
      some .proposed ∧
    ((chain .planned).work.seq.successor 303).isSome = true ∧ (chain .planned).work.seq.successor 304 = none ∧
    Asked 0 .orderWithdraw [0x01, 0x2F] (fun s => getOne 2 [0x01, 0x2F] = some 303 ∧ s.work.seq.find 303 ≠ none) ∧
    getOne 2 [0, 9] = some 9 ∧ Asked 0 .orderWithdraw [0, 9] (fun s => s.work.seq.find 9 = none ∧ s.work.seq.running = none) ∧
    Asked 0 .orderWithdraw [0, 9] (fun s => s.work.seq.find 9 = some (order 9) ∧ s.work.seq.running = none ∧
      (order 9).startTag = none ∧ (order 9).endTag = none ∧ (order 9).endCommitted = false) ∧
    Asked 0 .orderRelease [0, 9] (fun s => s.work.seq.find 9 = none) ∧
    Asked 0 .orderRelease [0, 9] (fun s => s.work.seq.find 9 ≠ none ∧ ∀ o ∈ s.work.seq.held, o.tag ≠ 9) ∧
    Asked 0 .orderRelease [0, 9] (fun s => (s.work.seq.held.find? fun h => h.tag == 9) = some (order 9)) := by
  refine ⟨by decide +kernel, ?_, ?_, ?_, ?_, ?_, ?_, ?_, asked_of (chain .planned) line_calm room_of_chain ?_,
    ?_, asked_here ?_, asked_line queued ⟨rfl, rfl⟩ rfl ?_, asked_here ?_, asked_line queued ⟨rfl, rfl⟩ rfl ?_,
    asked_line held ⟨rfl, rfl⟩ rfl ?_⟩ <;> decide +kernel

/-- A LINE_RESET with a splice in flight, and with an order running. -/
theorem witness_LineResetRequest :
    Asked 0 .lineReset [] (fun s => s.work.stands[(0 : Stand)].enable = true ∧
      s.work.stands[(0 : Stand)].phase.isFired = true) ∧ Asked 0 .lineReset [] (fun s => s.env.run = .running) :=
  ⟨asked_line fired ⟨rfl, rfl⟩ rfl (by decide +kernel), asked_of (chain .planned) line_calm room_of_chain rfl⟩

def completion : Completion := ⟨9, 0#32, 0#32, 0, 0, 0, 0, 0, [], 0, 0, 0, 0, 0, 0, 0, false, false⟩
def logged (n : Nat) : State :=
  { line with work := { line.work with sheet := { line.work.sheet with log := List.replicate n completion } } }

theorem witness_LogTakeRequest :
    Asked 0 .logTake [] (fun s => s.work.sheet.log = []) ∧
    Asked 0 .logTake [] (fun s => s.work.sheet.log = completion :: []) ∧
    (logged 15).work.sheet.log.length < 16 ∧ 16 ≤ (logged 16).work.sheet.log.length := by
  refine ⟨asked_here ?_, asked_line (logged 1) ⟨rfl, rfl⟩ rfl ?_, ?_, ?_⟩ <;> decide +kernel

/-- A pair of KNIFE scope whose planned cuts are raised to the guard distance. -/
theorem witness_PlacementIsFeasible :
    let q : Sequencer := ⟨[order 9, order 8], [], some 9, false, false⟩
    let o : Order := { order 9 with startPos := some ⟨0#32, false⟩, planned := 10 }
    (placement line.env q o 8).map Placed.planned = some 60 ∧ o.startPos = some ⟨0#32, false⟩ ∧ 1 ≤ o.given.length ∧
      o.planned < 60 := by decide +kernel

/-- The smallest cut number beyond the due distance, and planned cuts whose end lies at the horizon and beyond it; the orders
of an extension. -/
theorem witness_PlacementIsFeasible_answers :
    let q : Sequencer := ⟨[order 9, order 8], [], some 9, false, false⟩
    let w := (chain .planned).work
    let e := (chain .planned).env
    let i := inChain (chainSpec 304 2 1 1000 250) 21180000 713 none
    let long : Work := { w with seq := { w.seq with sequence := w.seq.sequence ++ [order 305] } }
    (dueDistance line.env q 9 8 = 60000 ∧ (order 9).given.length = 1000 ∧ line.env.ahead ⟨0#32, false⟩ = 0) ∧
    ((placement line.env q { order 9 with startPos := some ⟨0#32, false⟩, planned := 1000000 } 8).isSome = true ∧
      placement line.env q { order 9 with startPos := some ⟨0#32, false⟩, planned := 1000001 } 8 = none) ∧
    (w.track.window.length < 8 ∧ w.track.marks.length < 192 ∧ (long.seq.sequence.map Order.tag).Nodup ∧
      long.seq.sequence = [] ++ (w.seq.sequence.take 3 ++ i :: order 305 :: []) ∧
      (w.seq.sequence.take 3 ++ [i]).head?.map Order.tag = long.seq.running ∧
      (∀ o ∈ w.seq.sequence.take 3, o.startPos = none ∨ o.endTag ≠ none ∨ o.endCommitted = true) ∧
      i.startPos ≠ none ∧ i.endTag = none ∧ i.endCommitted = false ∧
      (placement e long.seq { i with planned := i.given.required + i.given.extra + i.added } 305).isSome = true) := by
  decide +kernel

/-- Moves of an order with a bound end mark, with an open one and with none; a mark placed again at a position the track
accepts, at one it does not, and at none; a refusal of the last order and of one before it. -/
theorem witness_MovesAndHolds :
    let w := (chain .planned).work
    let e := (chain .planned).env
    let m := chainMark 712 302 303 20860000 .planned 2
    let tagsOf (i : Nat) := (w.seq.find i).map fun o => (o.endTag, (w.track.changeState o.endTag))
    let at712 (b : Nat) (planned : Nat) := placement (chainAt b) w.seq
      { inChain (chainSpec 302 2 0 1200 300) 20500000 711 (some 712) with planned := planned } 303
    (tagsOf 301 = some (some 711, some .committed) ∧ tagsOf 302 = some (some 712, some .planned) ∧
      tagsOf 304 = some (none, none)) ∧
    (w.track.find 712 = some m ∧ m.uncommitted = true ∧ m.pair? = some (302, 303)) ∧
    (at712 20400000 300).map (fun p => decide (e.ahead ⟨20500000#32, false⟩ < e.ahead p.pos)) = some true ∧
    (at712 20400000 1000000) = none ∧
    (let late : Work := { w with track := w.track.update 711 fun x => { x with start := ⟨20900000#32, false⟩ } }
     late.track.find 712 = some m ∧
       (at712 20400000 300).map (fun p => decide (e.ahead ⟨20900000#32, false⟩ < e.ahead p.pos)) = some false) ∧
    (∃ a o k, w.seq.sequence = a ++ o :: [k] ∧ o.endTag = some 713 ∧ ∀ x ∈ a ++ [k], x.tag ≠ o.tag) ∧
    (∃ a o, w.seq.sequence = a ++ o :: [] ∧ o.endTag = none ∧ ∀ x ∈ a ++ [], x.tag ≠ o.tag) := by
  refine ⟨by decide +kernel, by decide +kernel, by decide +kernel, by decide +kernel, by decide +kernel,
    ⟨(chain .planned).work.seq.sequence.take 2, inChain (chainSpec 303 2 1 800 400) 20860000 712 (some 713),
      inChain (chainSpec 304 2 1 1000 250) 21180000 713 none, ?_⟩,
    ⟨(chain .planned).work.seq.sequence.take 3, inChain (chainSpec 304 2 1 1000 250) 21180000 713 none, ?_⟩⟩ <;>
    decide +kernel

theorem witness_PlacementIsFeasible_extension : (chain .planned).work.TrackRoom ∧
    (extendChain (chain .planned).env (addOrder (chain .planned).env (chainSpec 305 3 1 1500 200) .tail
      (chain .planned).work)).track.marks.map Mark.tag = [710, 711, 712, 713, 714] :=
  ⟨room_of_chain, by decide +kernel⟩

theorem witness_RespondRequest :
    HeadOf (withRequest (proposed [proposal]) 2 .respond [0, 4, 0]) 2 (asked .respond [0, 4, 0]) [] .respond [0, 4, 0] ∧
    exact (getNats [2, 1] [0, 4, 0]) = some [4, 0] ∧ exact (getNats [2, 1] [0, 4, 4]) = some [4, 4] ∧
    (∀ y ∈ (proposed [proposal]).work.prop.list, y.complete = false) ∧
    (∀ y ∈ (proposed [proposal]).work.prop.list.head?, y.effective = false) ∧
    line.work.proposal 4 = none ∧ (proposed [proposal]).work.proposal 4 = some proposal ∧
    proposal.response .planner = none ∧ proposal.response .dry = some .pending ∧ proposal.collecting = true ∧
    (proposal.setResponse .dry .ready).complete = false ∧ half ∈ (dryTakes half).work.prop.list ∧
    half.response .dry = some .pending ∧ (half.setResponse .dry .ready).complete = true ∧
    ({ proposal with dry := some .ready } : Proposal).response .dry ≠ some .pending ∧
    Sys2Proof.Machine.answerOf 3 = some .widen ∧ Sys2Proof.Machine.answerOf 4 = none :=
  ⟨headed _ 2 .respond [0, 4, 0], by decide +kernel⟩

theorem witness_ProposalResults :
    Partial.refuse ∈ [Partial.ready, .refuse] ∧ (Partial.refuse ∉ [Partial.widen, .ready] ∧ Partial.widen ∈ [Partial.widen]) ∧
    combined .dry [.notReady] ≠ .widened ∧ (proposed [proposal]).work.notices.returned.length < 8 ∧
    line.work.proposal 4 = none ∧ (proposed [proposal]).work.proposal 4 = some proposal ∧
    proposal.status = .collecting 900 ∧
    ({ proposal with status := .waiting ⟨0#32, false⟩ } : Proposal).collecting = false ∧
    (chain .proposed).work.pairOf 712 = some (302, 303) ∧
    combined .dry [.ready, .widen] = .widened ∧ combined .line [.ready, .ready] ≠ .widened := by decide +kernel

/-- The internal responder at mark 712: an idle slitter loaded and confirmed for order 303, and one that is not; a stand that its
reel suits, one that stands ready, and one that does neither. -/
theorem witness_ProposalResults_internal :
    let w := (chain .proposed).work
    let e := (chain .proposed).env
    let m := chainMark 712 302 303 20860000 .proposed 2
    let ready : StandRec := { w.stands[(0 : Stand)] with enable := true, ready := some { reel with grade := 2 } }
    w.track.find 712 = some m ∧ m.pair? = some (302, 303) ∧
    (w.station.slitters.active = .a ∧ w.station.slitters.confirmedB = false) ∧
    (⟨.b, some 303, none, true, false⟩ : SlitterPair).loadedA = some 303 ∧
    (runningSuits w 0 (fed 2) 303 = true ∧ runningSuits w 0 w.stands[(0 : Stand)].running 303 = false ∧
      ready.enable = true ∧ reelSuits w 0 { reel with grade := 2 } 303 = true ∧ ready.requirement = none ∧
      e.splicerReach 0 + e.lead 0 < e.ahead (m.start.plus (-(e.table.aimOffset : Int)))) ∧
    (w.seq.find 302).map (fun o => o.given.score) ≠ (w.seq.find 303).map (fun o => o.given.score) := by decide +kernel

/-- The chain with a DRY proposal of mark 712 in a status, after some deferrals, and a younger one of mark 713. -/
def of712 (status : Status) (deferrals : Nat) : Proposal :=
  ⟨4, 712, .dry, status, some .ready, some .ready, none, deferrals⟩
def of713 : Proposal := ⟨5, 713, .dry, .collecting 900, some .pending, some .pending, none, 0⟩
def chained (l : List Proposal) : Work := { (chain .proposed).work with prop := ⟨l, 6⟩ }

/-- A result of each sort: COMMITTED behind committed changes, DEFERRED at the limit and beyond it, and REFUSED. -/
theorem witness_ProposalEffects :
    let m := chainMark 712 302 303 20860000 .proposed 2
    (∀ r, (chained [of712 (.decided r false) 4, of713]).prop.list = of712 (.decided r false) 4 :: [of713]) ∧
    takeEffect (chain .proposed).env (chained [of712 (.decided .widened false) 0]) = none ∧
    ((chained []).track.marks = [chainMark 710 0 301 20000000 .active 0, chainMark 711 301 302 20500000 .committed 1] ++
        m :: [chainMark 713 303 304 21180000 .planned 3] ∧
      (∀ x ∈ [chainMark 710 0 301 20000000 .active 0, chainMark 711 301 302 20500000 .committed 1],
        x.tag ≠ m.tag ∧ x.uncommitted = false) ∧
      m.changeState? = some .proposed ∧ m.pair? = some (302, 303) ∧ (of712 (.decided .committed false) 0).changeTag = m.tag) ∧
    (∀ l, (chained l).pairOf 712 = some (302, 303)) ∧
    (of712 (.decided .deferred false) 3).deferrals + 1 ≤ (chain .proposed).env.table.deferralLimit ∧
    (chain .proposed).env.table.deferralLimit < (of712 (.decided .deferred false) 4).deferrals + 1 ∧
    ((of712 (.decided .refused false) 0 :: [of713]).map Proposal.changeTag).Nodup :=
  ⟨fun _ => rfl, by decide +kernel, by decide +kernel, fun _ => rfl, by decide +kernel⟩

/-- What the guard of mark 712 leaves of the deferrals of its record. -/
def guardedAt (b deferrals : Nat) : List Nat :=
  (guardMark (chainAt b) (chained [of712 (.collecting 900) deferrals]) 712).prop.list.map Proposal.deferrals

/-- Due at the due distance and not 1 mm before; a retry whose position has passed, one that has not, and the results they
lead to; the guard at its distance and within, with a record at the limit and beyond it; an issue to the DRY port. -/
theorem witness_ProposalIssue :
    ((dueMark (chainAt 20710000) (chain .planned).work).map Mark.tag = some 712 ∧
      dueMark (chainAt 20709999) (chain .planned).work = none) ∧
    (retried.2.prop.list = [] ++ ⟨4, 712, .dry, .waiting ⟨20400000#32, false⟩, some .ready, some .notReady, none, 1⟩ :: [] ∧
      (guardAll retried.1 retried.2).prop.list = retried.2.prop.list ∧ retried.1.ahead ⟨20400000#32, false⟩ ≤ 0 ∧
      0 < retried.1.ahead ⟨20400001#32, false⟩ ∧ unsettled (retryWaiting retried.1 retried.2) = true ∧
      unsettled (chain .planned).work = false) ∧
    ((chained []).track.find 712 = some (chainMark 712 302 303 20860000 .proposed 2) ∧
      ¬(chainAt 20840000).ahead ⟨20860000#32, false⟩ < 20000 ∧ (chainAt 20840001).ahead ⟨20860000#32, false⟩ < 20000 ∧
      guardedAt 20840000 3 = [3] ∧ guardedAt 20840001 3 = [4] ∧ guardedAt 20840001 4 = []) ∧
    ((chained [of712 (.collecting 900) 0]).proposal 4 = some (of712 (.collecting 900) 0) ∧
      (returning (.replicate 6 (notice 1 6))).notices.returned.length < 7 ∧ responds .line .wet = true ∧
      line.env.openPortOfRole .dry = some 2 ∧ State.reset.env.openPortOfRole .dry = none ∧
      line.env.classes[NoticeClass.proposal.index].delivery = .bySource) ∧
    (chain .planned).work.track.marks =
      [chainMark 710 0 301 20000000 .active 0, chainMark 711 301 302 20500000 .committed 1] ++
        chainMark 712 302 303 20860000 .planned 2 :: [chainMark 713 303 304 21180000 .planned 3] := by decide +kernel

/-- A defect of the slitter, ahead of the gate, and one of the gate. -/
theorem witness_DefectRequest :
    exact (getNats [1, 2, 2, 1] [3, 0, 0, 0x4E, 0x20, 7]) = some [3, 0, 20000, 7] ∧
    Asked 3 .defect [0, 0, 0, 0, 1, 7] (fun s => s.env.stationsValid = false) ∧
    Asked 3 .defect [0, 0, 2, 0, 1, 7] (fun s => s.env.stationsValid = true) ∧
    Asked 3 .defect [3, 0, 0, 0x4E, 0x20, 7] (fun s => s.env.stations[(3 : StationIx)] = some (board .gate 41500) ∧
      (defectSplit s.env (board .gate 41500) 0 20000).remaining = none) ∧
    Asked 3 .defect [0, 0, 0, 0x4E, 0x20, 7] (fun s => s.env.stations[(0 : StationIx)] = some (board .slitter 18000) ∧
      (defectSplit s.env (board .slitter 18000) 0 20000).remaining = some (-38000, -18000) ∧ s.work.track.defects.length < 160 ∧
      s.work.track.marks.length < 192) := by
  refine ⟨by decide +kernel, asked_line State.reset ⟨rfl, rfl⟩ rfl ?_, asked_here ?_,
    asked_here ?_, asked_here ?_⟩ <;> decide +kernel

/-- Full tracks: of JOINT marks, where a span is dropped, and with three DEFECT marks ahead of the gate, of which the first two
are the closer. -/
def defectAt (tag start : Nat) : Mark := ⟨tag, .defect 0 7, ⟨BitVec.ofNat 32 start, false⟩, 100, 0, 0, tag⟩
def fullOfJoints : Work :=
  { fullTrack with track := { fullTrack.track with
    marks := fullTrack.track.marks.drop 3 ++ [defectAt 193 1000, defectAt 194 1200, defectAt 195 1500]
    nextTag := 196
    entryCount := 196 } }

theorem witness_DefectMerges :
    let gap (lo hi : Int) (x : Mark) : Int :=
      max 0 (if lo < line.env.ahead x.start then line.env.ahead x.start - hi else lo - line.env.ahead x.finish)
    let candidates := [defectAt 193 1000, defectAt 194 1200, defectAt 195 1500]
    fullTrack.TrackRoom ∧ fullOfJoints.TrackRoom ∧
    (192 ≤ fullTrack.track.marks.length ∧ mergeCandidates line.env fullTrack.track = []) ∧
    (192 ≤ fullOfJoints.track.marks.length ∧ mergeCandidates line.env fullOfJoints.track = candidates) ∧
    (candidates.map (gap 1350 1360) = [250, 50, 140] ∧ line.env.ahead ⟨1200#32, false⟩ ≤ 1350) ∧
    (candidates.map (gap 1180 1190) = [80, 10, 310] ∧ (1180 : Int) < line.env.ahead ⟨1200#32, false⟩) ∧
    candidates.map (gap 1150 1150) = [50, 50, 350] ∧
    (mergePairs line.env candidates).map MergePair.gap = [100, 200] := by
  refine ⟨by constructor <;> decide +kernel, by constructor <;> decide +kernel, ?_⟩
  decide +kernel

/-- Stations of one board, at reaches behind the datum: one that wants ends, and the chain's knife. -/
def watcher : Station := ⟨.generic, .board, 100, none, none, ⟨true, true, false, false⟩, true, 0⟩
def watched : Env := { line.env with stations := line.env.stations.set 5 (some watcher) }
/-- The line's environment with the board odometer at a value. -/
def atBoard (b : Nat) : Env :=
  { line.env with
    encoders := line.env.encoders.set 2 { EncoderRec.powerOn ⟨false, false⟩ with odo := BitVec.ofNat 32 b } }
/-- A JOINT mark whose begin and end have passed the watcher by distances. -/
def jointAhead (start : Int) (b : BitVec 24) : Mark :=
  { jointMark with start := ⟨BitVec.ofInt 32 start, false⟩, span := 50, beginPassed := b }

/-- A begin and an end, a begin alone, an end alone, and neither; a change at the datum, and one that is not COMMITTED;
marks that retire, and one that is kept. -/
theorem witness_MarkPassages :
    (∀ m ∈ [jointAhead (-150) 0, jointAhead (-149) 0, jointAhead (-150) 0x20, jointAhead (-99) 0],
      (marked m).work.TrackRoom) ∧
    (watched.stations[(5 : StationIx)] = some watcher ∧
      (∀ m ∈ [jointAhead (-150) 0, jointAhead (-149) 0, jointAhead (-150) 0x20, jointAhead (-99) 0],
        (marked m).work.track.byEntry 0 = some m ∧ watcher.actsOn.has m.kind = true ∧ m.uncommitted = false ∧
        m.isOpen = false ∧ m.kind ≠ .change) ∧
      watched.stationReach watcher = -100 ∧
      ([jointAhead (-150) 0, jointAhead (-149) 0, jointAhead (-150) 0x20, jointAhead (-99) 0].map fun m =>
        (beginDue watched 5 watcher m, endDue watched 5 watcher m)) =
        [(true, true), (true, false), (false, true), (false, false)]) ∧
    (chain .planned).work.track.byEntry 1 = some (chainMark 711 301 302 20500000 .committed 1) ∧
    (atBoard 20500000).ahead ⟨20500000#32, false⟩ ≤ 0 ∧
    (chainMark 712 302 303 20860000 .planned 2).changeState? ≠ some .committed ∧
    retires line.env (marked (jointAhead (-52050) 0)).work none (jointAhead (-52050) 0) = true ∧
    retires line.env (marked (jointAhead (-52049) 0)).work none (jointAhead (-52049) 0) = false := by
  refine ⟨fun m h => ?_, ?_⟩
  · simp only [List.mem_cons, List.not_mem_nil, or_false] at h
    rcases h with rfl | rfl | rfl | rfl <;> constructor <;> decide +kernel
  · decide +kernel

/-- The line with a ramp at its knife's index, its steps at the station, 1 mm ahead of it, and far ahead of it. -/
def glue : Station := ⟨.glue, .board, 0, none, none, actsOnChange, false, 0⟩
def ramping (b : Nat) (r : Option Ramp) (marks : List Mark) : Env × Work :=
  ({ atBoard b with stations := line.env.stations.set 5 (some glue), profiles := .replicate 8 [⟨0, 64⟩, ⟨1, 256⟩] },
    { queued.work with
      track := ⟨marks, 9, 9⟩
      station := { line.work.station with ramps := line.work.station.ramps.set 5 r } })
def inFlight (k : Nat) : Ramp := ⟨100, 200, [⟨0, 64⟩, ⟨1, 256⟩], k, 1, ⟨0#32, false⟩, false, 9⟩

/-- Two changes that begin at a station at once: the first starts a ramp of two steps, of which the second change takes
the last away (R62). -/
def twoBegins : Env × Work :=
  let x := ramping 1 none [chainMark 1 0 9 0 .committed 0, chainMark 2 9 9 1 .committed 1]
  ({ x.1 with recipes := x.1.recipes.set 0 (x.1.recipes[0].set 5 400) }, x.2)

theorem test_ramp_ends_before_the_next_change :
    let m : Mark := { chainMark 1 0 9 0 .committed 0 with beginPassed := 0x20 }
    let w := { twoBegins.2 with track := twoBegins.2.track.update 1 fun _ => m }
    (changeover twoBegins.1 5 glue m 9 false w).station.current[(5 : StationIx)] = 100 := by decide +kernel

/-- A ramp with its first step due and its last not, with none left due, and one whose first step a limit leaves out; a
recipe value and none; a further begin due and none. -/
theorem witness_RampSteps :
    let e := (ramping 0 none []).1
    e.stations[(5 : StationIx)] = some glue ∧
    (∀ k ∈ [0, 1], (ramping 0 (some (inFlight k)) []).2.station.ramps[(5 : StationIx)] = some (inFlight k)) ∧
    ((highestDue e glue (inFlight 0) none).map Prod.fst, (highestDue e glue (inFlight 1) none).map Prod.fst,
      (highestDue e glue (inFlight 0) (some ⟨0#32, false⟩)).map Prod.fst) = (some 0, none, none) ∧
    queued.work.seq.find 9 = some (order 9) ∧ (order 9).given.recipe < 32 ∧ queued.work.seq.find 8 = none ∧
    recipeValue e queued.work 5 9 = 65535 ∧ recipeValue twoBegins.1 twoBegins.2 5 9 = 400 ∧
    (∀ n ∈ (ramping 0 none []).2.track.marks, n.bound = false) ∧ glue.actsOn.change = true ∧
    ({ glue with actsOn := ⟨false, false, false, false⟩ } : Station).actsOn.change = false ∧
    twoBegins.2.track.marks = [] ++ chainMark 1 0 9 0 .committed 0 :: [chainMark 2 9 9 1 .committed 1] ∧
    beginDue twoBegins.1 5 glue (chainMark 1 0 9 0 .committed 0) = true := by decide +kernel

/-- Stations of each sort at a change of the chain's pair 302 and 303, which swaps, with the other slitter passed and not; a
line that is low, and one that is high. -/
theorem witness_PassageEffects :
    let w := (chain .planned).work
    let m := chainMark 712 302 303 20860000 .committed 2
    let kindAt (i : StationIx) := line.env.stations[i].map Station.kind
    (m.pair? = some (302, 303) ∧ jointMark.pair? = none) ∧
    ([0, 1, 2, 3, 4].map kindAt = [some .slitter, some .slitter, some .knife, some .gate, some .stacker] ∧
      glue.kind ∈ [.preheat, .glue, .heat, .generic]) ∧
    (w.seq.find 303).isSome = true ∧ w.seq.scope 302 303 ≠ .knife ∧ w.seq.scope 303 303 = .knife ∧
    (m.beginPassed[1] = false ∧ ({ m with beginPassed := 2 } : Mark).beginPassed[1] = true) ∧
    w.station.slitters.active = .a ∧ (⟨.b, none, none, false, false⟩ : SlitterPair).active = .b ∧
    (recipeValue (ramping 0 none []).1 queued.work 5 9 = 65535 ∧ recipeValue twoBegins.1 twoBegins.2 5 9 = 400) ∧
    line.work.cues[(6 : CueLine)] = none ∧ ({ line.work with cues := line.work.cues.set 6 (some 7) } : Work).cues[(6 : CueLine)] ≠ none := by
  decide +kernel

/-- A switch from the order being cut, from one that is not, and of the first change of a run; departures of a GOOD sheet
that closes the stack, of a REJECT one, and of the last of an ended order. -/
theorem witness_SwitchAndCompletion :
    let sheet : Sheet := ⟨9, 1, ⟨0#32, false⟩, 1000, 2, none, false⟩
    let cut : Option Schedule := some ⟨9, ⟨0#32, false⟩, 1000, 2, 0⟩
    let w : Work := { line.work with
      seq := { line.work.seq with sequence := [order 9, order 8] }
      sheet := { line.work.sheet with schedule := cut, sheets := [sheet] } }
    let ended : Work := w.updTallies 9 fun u => { u with endPos := some ⟨1000#32, false⟩, currentStack := 98 }
    (9 ≠ 8 ∧ 0 ≠ 8 ∧ w.seq.find 8 = some (order 8) ∧ w.seq.find 9 = some (order 9) ∧ w.sheet.schedule = cut ∧
      queued.work.sheet.schedule = none ∧ queued.work.seq.find 9 = some (order 9) ∧ 8 ≠ 9) ∧
    (sheet.cause = none ∧ ({ sheet with cause := some ⟨.joint, 0, 1⟩ } : Sheet).cause ≠ none ∧
      (order 9).tallies.endPos = none) ∧
    (ended.seq.find 9).map (fun o => (o.tallies.endPos.isSome, decide (o.given.stackSize ≤ o.tallies.currentStack + 2))) =
      some (true, true) ∧
    (∀ y ∈ ended.sheet.sheets.filter fun y => !y.isCut sheet.order sheet.cut, y.order ≠ 9) ∧
    (departure line.env sheet ended).sheet.log.length = 1 := by decide +kernel

/-- A cut that a mark ends short of and the next overlaps; a GOOD record that a mark's extent flips, one it ends at, one past
the gate; gate passages of a GOOD and a REJECT record of a live order; tallies. -/
theorem witness_CutsAndTallies :
    let clearOf : Mark := ⟨1, .defect 0 7, ⟨500#32, false⟩, 500, 0, 0, 0⟩
    let sheet (start : Nat) (passed : Bool) : Sheet := ⟨9, 1, ⟨BitVec.ofNat 32 start, false⟩, 1000, 2, none, passed⟩
    let cut := between line.env ⟨1000#32, false⟩ ⟨2000#32, false⟩
    line.work.calm ∧ Tallies.zero.causes.length ≤ 8 ∧
    (markExtent line.env clearOf = some ⟨500, some 1000⟩ ∧ cut.overlaps ⟨500, some 1000⟩ = false) ∧
    (markExtent line.env jointMark = some ⟨500, some 1500⟩ ∧ cut.overlaps ⟨500, some 1500⟩ = true) ∧
    ((sheet 1499 false).gatePassed = false ∧ (sheet 1499 false).cause = none ∧
      ((sheet 1499 false).extent line.env).overlaps ⟨500, some 1500⟩ = true) ∧
    ((sheet 1500 false).extent line.env).overlaps ⟨500, some 1500⟩ = false ∧ (sheet 1499 true).gatePassed = true ∧
    ({ sheet 0 false with cause := some ⟨.defect, 7, 1⟩ } : Sheet).cause ≠ none ∧
    queued.work.seq.find 9 = some (order 9) ∧
    ([(6, 1), (7, 2)] : List (Nat × Nat)) = [(6, 1)] ++ (7, 2) :: [] ∧
    (∀ x ∈ ([(6, 1), (8, 2)] : List (Nat × Nat)), x.1 ≠ 7) ∧ 8 ≤ (List.replicate 8 ((6, 1) : Nat × Nat)).length :=
  ⟨line_calm, by decide +kernel⟩

/-- The deficit of section 8.8: an order whose end mark may move, one whose end mark is bound, which is short, one with no end
mark, and an order that is not short. -/
theorem witness_ForecastAndDeficit :
    let w := shortOf45.2
    let e := shortOf45.1
    let bound : Work := { w with track := w.track.update 5 fun m => m.withState .committed }
    let order402 := w.seq.sequence.head?.getD (order 402)
    (w.seq.find 402 = some order402 ∧ order402.startPos = some ⟨30000000#32, false⟩ ∧ order402.endTag = some 5 ∧
      w.track.find 5 = some (chainMark 5 402 403 30304000 .planned 4)) ∧
    forecast e w order402 = some 255 ∧ order402.given.required = 300 ∧
    (w.seq.find 403).map (fun o => (o.endTag, forecast e w o)) = some (none, none) ∧
    ((moveOrder e id 402 45 w).2, (moveOrder e id 402 45 bound).2) = (.moved, .refused) ∧
    (order402.tallies.short = false ∧ ({ order402.tallies with short := true } : Tallies).short = true) ∧
    (w.seq.live.map Order.tag).Nodup ∧
    ∀ o ∈ (chain .planned).work.seq.sequence, ∀ f ∈ forecast (chain .planned).env (chain .planned).work o,
      o.given.required ≤ f := by decide +kernel

theorem line_env : line.env.Ok where
  encoders c := by fin_cases c <;> constructor <;> decide +kernel
  fills := by decide +kernel
  links p := by fin_cases p <;> constructor <;> decide +kernel
  hold := by decide +kernel
  priorities := by decide +kernel
  floors := by decide +kernel
  ring := by constructor <;> decide +kernel
  profiles := by decide +kernel
  thresholds := by decide +kernel
  table := by decide +kernel
  unconfigured := by decide +kernel
  stations := by decide +kernel

theorem witness_EnvironmentKept : line.env.Ok ∧ ∃ t, step line = .next t := ⟨line_env, _, rfl⟩

theorem witness_NoticeRoomKept : alarmed.work.NoticeRoom ∧ ∃ t, step alarmed = .next t :=
  ⟨by constructor <;> decide +kernel, _, rfl⟩

theorem witness_TrackRoomKept : (marked jointMark).work.TrackRoom ∧ ∃ t, step (marked jointMark) = .next t :=
  ⟨room_of_jointMark, _, rfl⟩

theorem witness_RunRoomKept : queued.work.RunRoom ∧ ∃ t, step queued = .next t :=
  ⟨by constructor <;> decide +kernel, _, rfl⟩

theorem witness_AlarmsStayUntilCleared :
    (∀ p, Instr.speedPeriodClose ≠ .alarmClear p) ∧ alarmed.work.alarms.entries ≠ [] ∧
    ∃ t, exec .speedPeriodClose alarmed = .next t := ⟨by simp, by decide +kernel, _, rfl⟩

theorem witness_OnlyPowerOnTurnsBack :
    line.env.Ok ∧ (∀ x e1 e2 e3, Instr.speedPeriodClose ≠ .powerOnReset x e1 e2 e3) ∧
    ∃ t, exec .speedPeriodClose line = .next t := ⟨line_env, by simp, _, rfl⟩

theorem witness_TablesChangeByTheirRequests :
    (∀ x e1 e2 e3, Instr.floor 0 ≠ .powerOnReset x e1 e2 e3) ∧
    ∃ t, exec (.floor 0) (withRequest line 0 .floor [3]) = .next t := ⟨by simp, _, rfl⟩

theorem witness_RecordsChangeByTheirCommands :
    (∀ x e1 e2 e3, Instr.reelRemove 1 ≠ .powerOnReset x e1 e2 e3) ∧
    ∃ t, exec (.reelRemove 1) (withRequest loaded 1 .reelRemove [0, 0]) = .next t := ⟨by simp, _, rfl⟩

end Sys2Proof.Tests
end

section
/-! SUPPORT. The request commands as one family: each is a request of a port, and applies the meaning of that request at
the head of the port's queue (R166). -/

namespace Sys2Proof.Machine

/-- The command that applies a request at a port. -/
def Request.command (p : Port) : Request → Instr
  | .status => .status p
  | .read => .read p
  | .peek => .peek p
  | .take => .take p
  | .done => .done p
  | .floor => .floor p
  | .lineTable => .lineTable p
  | .stationSet => .stationSet p
  | .recipeSet => .recipeSet p
  | .profileSet => .profileSet p
  | .classSet => .classSet p
  | .relaySet => .relaySet p
  | .alarmEnable => .alarmEnable p
  | .alarmClear => .alarmClear p
  | .openPart => .openPart p
  | .start => .start p
  | .orderAdd => .orderAdd p
  | .orderWithdraw => .orderWithdraw p
  | .orderRelease => .orderRelease p
  | .lineReset => .lineReset p
  | .logTake => .logTake p
  | .standSet => .standSet p
  | .reelLoad => .reelLoad p
  | .reelRemove => .reelRemove p
  | .diameter => .diameter p
  | .joint => .joint p
  | .spliceFail => .spliceFail p
  | .standEnable => .standEnable p
  | .bridgeSet => .bridgeSet p
  | .respond => .respond p
  | .setupDone => .setupDone p
  | .defect => .defect p

/-- What a request of a port does when it is applied. -/
def Request.meaning (p : Port) : Request → Env → Work → List Byte → Answer
  | .status => applyStatus p
  | .read => applyRead
  | .peek => applyPeek p
  | .take => applyTake p
  | .done => applyDone p
  | .floor => applyFloor p
  | .lineTable => applyLineTable
  | .stationSet => applyStationSet
  | .recipeSet => applyRecipeSet
  | .profileSet => applyProfileSet
  | .classSet => applyClassSet
  | .relaySet => applyRelaySet
  | .alarmEnable => applyAlarmEnable
  | .alarmClear => applyAlarmClear
  | .openPart => applyOpen
  | .start => applyStart
  | .orderAdd => applyOrderAdd
  | .orderWithdraw => applyOrderWithdraw
  | .orderRelease => applyOrderRelease
  | .lineReset => applyLineReset
  | .logTake => applyLogTake
  | .standSet => applyStandSet
  | .reelLoad => applyReelLoad p
  | .reelRemove => applyReelRemove
  | .diameter => applyDiameter p
  | .joint => applyJoint
  | .spliceFail => applySpliceFail
  | .standEnable => applyStandEnable
  | .bridgeSet => applyBridgeSet
  | .respond => applyRespond p
  | .setupDone => applySetupDone
  | .defect => applyDefect

/-- A request command applies its request's meaning at the head of its port's queue. -/
theorem exec_command (p : Port) (r : Request) (s : State) :
    exec (r.command p) s = .next (applyHead p r (r.meaning p) s) := by cases r <;> rfl

/-- A request command whose request is not at the head of its port's queue changes nothing. -/
theorem exec_command_other {p : Port} {r : Request} {s : State}
    (h : ∀ q ∈ s.env.links[p].inbound.head?, q.request ≠ r) : exec (r.command p) s = .next s := by
  rw [exec_command, applyHead_other r _ h]

/-! ## A millisecond of the time base -/

theorem mem_dueAt {now : Nat} {t : Option Nat} {i j : Instr} :
    j ∈ dueAt now t i ↔ j = i ∧ ∃ x, t = some x ∧ x ≤ now := by
  cases t with
  | none => simp [dueAt]
  | some x => by_cases h : x ≤ now <;> simp [dueAt, h]

theorem mem_allCues (c : CueLine) : c ∈ allCues := by revert c; decide
theorem mem_allStands (k : Stand) : k ∈ allStands := by revert k; decide
theorem mem_allPorts (p : Port) : p ∈ allPorts := by revert p; decide
theorem mem_allStations (i : StationIx) : i ∈ allStations := by revert i; decide

theorem Phase.deadline?_eq_some {f : Phase} {t : Nat} :
    f.deadline? = some t ↔ ∃ x, f = .fired x ∧ x.deadline = t := by
  cases f <;> simp [Phase.deadline?]

theorem Proposal.deadline?_eq_some {p : Proposal} {t : Nat} : p.deadline? = some t ↔ p.status = .collecting t := by
  unfold Proposal.deadline?
  split <;> simp_all

/-- The commands that a millisecond makes wait are the timed ones whose end times it has reached. -/
theorem mem_dueEvents {e : Env} {w : Work} {i : Instr} :
    i ∈ dueEvents e w ↔
      (∃ c, i = .cuePulseEnd c ∧ ∃ x, w.cues[c] = some x ∧ x ≤ e.now) ∨
      (∃ k, i = .confirmDeadlineExpiry k ∧ ∃ x, w.stands[k].phase = .fired x ∧ x.deadline ≤ e.now) ∨
      (∃ k, i = .lateReportWindowEnd k ∧ ∃ x, w.stands[k].lateWindow = some x ∧ x ≤ e.now) ∨
      (∃ p ∈ w.prop.list, i = .proposalDeadlineExpiry p.tag ∧ ∃ x, p.status = .collecting x ∧ x ≤ e.now) ∨
      (i = .reofferTimerExpiry ∧ e.reofferAt ≤ e.now) ∨
      (∃ p, i = .portTimeout p ∧ ∃ x, e.links[p].timer = some x ∧ x ≤ e.now) ∨
      (i = .speedPeriodClose ∧ e.nextClose ≤ e.now) := by
  have fired : ∀ f : Phase, (∃ x, (∃ y, f = .fired y ∧ y.deadline = x) ∧ x ≤ e.now) ↔
      ∃ y, f = .fired y ∧ y.deadline ≤ e.now := fun f =>
    ⟨fun ⟨_, ⟨y, h, rfl⟩, g⟩ => ⟨y, h, g⟩, fun ⟨y, h, g⟩ => ⟨_, ⟨y, h, rfl⟩, g⟩⟩
  simp only [dueEvents, List.mem_append, List.mem_flatMap, mem_dueAt, mem_allCues, mem_allStands, mem_allPorts, true_and,
    Phase.deadline?_eq_some, Proposal.deadline?_eq_some, fired, Option.some.injEq, exists_eq_left', or_assoc]

/-- Settles O2. A step on an empty queue is `tick`, whose waiting commands `mem_dueEvents` names; a request command is
`Request.command` of a port. -/
theorem idleStepAndRequestNotAtHead : Obligations.IdleStepAndRequestNotAtHead := by
  refine ⟨fun s hs => ⟨tick s, by simp [step, hs], rfl, rfl, ?_⟩, fun i p r s hir hq => ?_⟩
  · have hp : (tick s).pending = dueEvents { s.env with now := s.env.now + 1 } s.work := by simp [tick, hs]
    simp only [hp, mem_dueEvents]
    refine ⟨by simp, by simp, by simp, fun g => ?_, by simp, by simp, by simp, fun c hc => ?_⟩
    · simp [eq_comm]
    · rcases hc with ⟨c, h, _⟩ | ⟨k, h, _⟩ | ⟨k, h, _⟩ | ⟨p, _, h, _⟩ | ⟨h, _⟩ | ⟨p, h, _⟩ | ⟨h, _⟩ <;> simp [h]
  · change (i, r) ∈ allRequests.map fun r => (r.command p, r) at hir
    obtain ⟨r', _, h⟩ := List.mem_map.mp hir
    obtain ⟨rfl, rfl⟩ := Prod.mk.inj h
    exact exec_command_other hq

end Sys2Proof.Machine
end

section
/-! SUPPORT. What the operations on one link port keep (R163 to R169), and how the environment's ranges are kept by an update
of a port, an encoder or a bridge. -/

namespace Sys2Proof.Machine

/-! ## One link port -/

/-- A link port changed within its bounds, its strap, role and state as they were. -/
structure LinkStep (l l' : Link) : Prop where
  ok : l.Ok → l'.Ok
  state : l'.state = l.state
  role : l'.role = l.role
  band : l'.band = l.band

theorem LinkStep.refl (l : Link) : LinkStep l l := ⟨id, rfl, rfl, rfl⟩

theorem LinkStep.trans {a b c : Link} (h : LinkStep a b) (g : LinkStep b c) : LinkStep a c :=
  ⟨fun x => g.ok (h.ok x), g.state.trans h.state, g.role.trans h.role, g.band.trans h.band⟩

theorem sat255_le (n : Nat) : sat255 n ≤ 255 := Nat.min_le_right _ _
theorem sat65535_le (n : Nat) : sat65535 n ≤ 65535 := Nat.min_le_right _ _

/-- A port whose counts, its sent frame, its flags and its last error are other values within their ranges. -/
theorem LinkStep.counts (l : Link) {a b c d : Nat} (x : Bool) (y : Bool) (z : Option PostedError) (g : Bool)
    (ha : l.Ok → a ≤ 255) (hb : l.Ok → b ≤ 255) (hc : l.Ok → c ≤ 65535) (hd : l.Ok → d ≤ 255) :
    LinkStep l { l with
      framed := g, frameErrors := a, frameErrorFlag := x, overruns := b, retries := c, lastError := z,
      postedErrors := d, sensorClamp := y } :=
  ⟨fun h => ⟨h.outstanding, h.inbound, ha h, hb h, hc h, hd h, h.timeout, h.timer⟩, rfl, rfl, rfl⟩

theorem clearStatus_step (l : Link) : LinkStep l l.clearStatus :=
  LinkStep.counts l false false none l.framed (by simp) (by simp) (by simp) (by simp)

theorem sensorClamp_step (l : Link) : LinkStep l { l with sensorClamp := true } :=
  LinkStep.counts l l.frameErrorFlag true l.lastError l.framed Link.Ok.frameErrors Link.Ok.overruns Link.Ok.retries
    Link.Ok.postedErrors

theorem framed_step (l : Link) : LinkStep l { l with framed := true } :=
  LinkStep.counts l l.frameErrorFlag l.sensorClamp l.lastError true Link.Ok.frameErrors Link.Ok.overruns Link.Ok.retries
    Link.Ok.postedErrors

theorem frameError_step (l : Link) : LinkStep l l.frameError :=
  LinkStep.counts l true l.sensorClamp l.lastError l.framed (fun _ => sat255_le _) Link.Ok.overruns Link.Ok.retries
    Link.Ok.postedErrors

/-- A port with other outstanding responses, no more than it may have. -/
theorem slots_step (l : Link) {t : List Slot} (b : List Byte) (h : l.Ok → t.length ≤ 4) :
    LinkStep l { l with slots := t, sent := b } :=
  ⟨fun x => ⟨h x, x.inbound, x.frameErrors, x.overruns, x.retries, x.postedErrors, x.timeout, x.timer⟩, rfl, rfl, rfl⟩

@[simp] theorem length_fillSlot (c : Code) (body : List Byte) : ∀ l : List Slot, (fillSlot c body l).length = l.length
  | [] => rfl
  | x :: rest => by
    unfold fillSlot
    split <;> simp [length_fillSlot c body rest]

/-- A port whose applied request is answered or recorded (R167, R168). -/
theorem conclude_step (l : Link) (q : Queued) (c : Code) (body : List Byte) : LinkStep l (l.conclude q c body) := by
  unfold Link.conclude
  split
  · exact slots_step l l.sent fun h => by simpa using h.outstanding
  · split
    · exact LinkStep.refl l
    · exact LinkStep.counts l l.frameErrorFlag l.sensorClamp _ l.framed Link.Ok.frameErrors Link.Ok.overruns
        Link.Ok.retries fun _ => sat255_le _

/-- A port whose oldest response is sent (R167). -/
theorem sendOldest_step (l : Link) : LinkStep l l.sendOldest := by
  unfold Link.sendOldest
  split
  · next hs => exact slots_step l _ fun h => by have := h.outstanding; simp [hs] at this; omega
  · exact LinkStep.refl l

/-- A port whose queue gives its head back (R166). -/
theorem popHead_step (l : Link) {q : Queued} {rest : List Queued} (h : l.inbound = q :: rest) :
    LinkStep l { l with inbound := rest } := by
  refine ⟨fun x => ⟨x.outstanding, ?_, x.frameErrors, x.overruns, x.retries, x.postedErrors, x.timeout, x.timer⟩, rfl,
    rfl, rfl⟩
  have := x.inbound
  simp only [h, List.map_cons, List.sum_cons] at this
  exact (Nat.le_add_left _ _).trans this

/-- A port that keeps one more response, where it has room (R165). -/
theorem reserve_step (l : Link) (tag : Byte) (c : Option (Code × List Byte)) (h : l.slots.length < 4) :
    LinkStep l (l.reserve tag c) := slots_step l l.sent fun _ => by simp; omega

/-- A port that queues one more request, where both have room (R165, R166). -/
theorem enqueue_step (l : Link) (r : Request) (f : Frame) (h : l.slots.length < 4)
    (g : entriesNeeded f.body.length ≤ l.freeEntries) : LinkStep l (l.enqueue r f) := by
  refine (reserve_step l f.tag _ h).trans ⟨fun x => ⟨x.outstanding, ?_, x.frameErrors, x.overruns, x.retries,
    x.postedErrors, x.timeout, x.timer⟩, rfl, rfl, rfl⟩
  have room : 1 ≤ entriesNeeded f.body.length := Nat.le_add_right 1 _
  simp only [Link.freeEntries, Config.inboundEntries] at g
  simp only [Link.enqueue, List.map_append, List.sum_append, List.map_cons, List.map_nil, List.sum_cons, List.sum_nil]
  omega

/-- A port that receives a valid frame (R165). -/
theorem receive_step (l : Link) (partOpen : Bool) (f : Frame) : LinkStep l (l.receive partOpen f) := by
  unfold Link.receive
  split
  · exact LinkStep.counts l l.frameErrorFlag l.sensorClamp l.lastError l.framed Link.Ok.frameErrors
      (fun _ => sat255_le _) Link.Ok.retries Link.Ok.postedErrors
  · next hs =>
    have hs : l.slots.length < 4 := by simpa [Config.outstandingLimit] using hs
    have answer : ∀ c, LinkStep l (l.answerAt f.tag c) := fun c => reserve_step l f.tag _ hs
    split
    · exact answer _
    · split
      · exact answer _
      · split
        · exact answer _
        · split
          · have g := LinkStep.counts (l.answerAt f.tag .retry) l.frameErrorFlag l.sensorClamp l.lastError l.framed
              Link.Ok.frameErrors Link.Ok.overruns (fun _ => sat65535_le l.retries) Link.Ok.postedErrors
            exact (answer _).trans g
          · exact enqueue_step l _ f hs (by omega)

theorem timeoutOk_iff {v : Nat} : timeoutOk v = true ↔ v = 0 ∨ 100 ≤ v ∧ v ≤ 10000 := by simp [timeoutOk, inRange]

/-- A port given a timeout of the range, or 0 (R170). -/
theorem writeTimeout_step (l : Link) {v : Nat} (hv : timeoutOk v = true) : LinkStep l (l.writeTimeout v) := by
  unfold Link.writeTimeout
  split
  · exact LinkStep.refl l
  · next h =>
    exact ⟨fun x => ⟨x.outstanding, x.inbound, x.frameErrors, x.overruns, x.retries, x.postedErrors,
      (timeoutOk_iff.mp hv).resolve_left h, x.timer⟩, rfl, rfl, rfl⟩

/-- A port OPEN with its timer running (R169, R170). -/
theorem openLink_ok {l : Link} (now : Nat) (h : l.Ok) : (l.openLink now).Ok :=
  ⟨h.outstanding, h.inbound, h.frameErrors, h.overruns, h.retries, h.postedErrors, h.timeout, rfl⟩

/-- A port DOWN with its timer stopped (R169). -/
theorem downLink_ok {l : Link} (h : l.Ok) : Link.Ok { l with state := .down, timer := none } :=
  ⟨h.outstanding, h.inbound, h.frameErrors, h.overruns, h.retries, h.postedErrors, h.timeout, rfl⟩

/-- A port at power-on (R161, R175). -/
theorem Link.powerOn_ok (band : Fin 8) (role : Role) : (Link.powerOn band role).Ok := by
  constructor <;> simp [Link.powerOn]

/-! ## One port of the environment -/

theorem Env.updLink_link (e : Env) (p q : Port) (f : Link → Link) :
    (e.updLink p f).links[q] = if q = p then f e.links[q] else e.links[q] := by
  by_cases h : q = p
  · subst h; simp
  · simpa [h] using Env.updLink_other e p q f h

/-- A property that an update of one port keeps of every port. -/
theorem forall_updLink {e : Env} {p : Port} {f : Link → Link} {C : Port → Link → Prop} (h : ∀ q, C q e.links[q])
    (hp : C p (f e.links[p])) (q : Port) : C q (e.updLink p f).links[q] := by
  rw [Env.updLink_link]
  split
  · next hq => subst hq; exact hp
  · exact h q

/-- An update of one port, well kept, and in HOLD exactly while the part is. -/
theorem Env.Ok.updLink {e : Env} (h : e.Ok) (p : Port) {f : Link → Link} (hl : (f e.links[p]).Ok)
    (hs : (f e.links[p]).state = .hold ↔ e.partOpen = false) : (e.updLink p f).Ok :=
  { h with
    links := forall_updLink (C := fun _ l => l.Ok) h.links hl
    hold := forall_updLink (C := fun _ l => l.state = .hold ↔ e.partOpen = false) h.hold hs }

theorem Env.Ok.linkStep {e : Env} (h : e.Ok) {p : Port} {f : Link → Link} (hf : LinkStep e.links[p] (f e.links[p])) :
    (e.updLink p f).Ok :=
  h.updLink p (hf.ok (h.links p)) (by rw [hf.state]; exact h.hold p)

theorem Env.Ok.popped {e : Env} (h : e.Ok) {p : Port} {q : Queued} {rest : List Queued}
    (hq : e.links[p].inbound = q :: rest) : (popped e p rest).Ok := h.linkStep (popHead_step _ hq)

theorem Env.Ok.answered {e : Env} (h : e.Ok) (p : Port) (q : Queued) (c : Code) (body : List Byte) :
    (answered e p q c body).Ok := h.linkStep (conclude_step _ q c body)

theorem Env.Ok.reach {e : Env} (h : e.Ok) (t : Nat) : (e.reach t).Ok := { h with }

end Sys2Proof.Machine
end

section
/-! SUPPORT. What a count, an edge and a period close do to the encoders (R6 to R10), and what setting a fill does to the
bridges, the notices and the alarm record (R11 to R13). -/

namespace Sys2Proof.Machine

/-! ## Encoders -/

@[simp] theorem Env.setEncoder_setEncoder (e : Env) (c : Encoder) (r r' : EncoderRec) :
    (e.setEncoder c r).setEncoder c r' = e.setEncoder c r' := by
  simp [Env.setEncoder]

/-- An encoder after a count of pitch `p`: within its ranges, and advanced by some whole millimetres, at most 66 where
the pitch is of its range (R7, R9). -/
structure EncoderStep (p : Nat) (r r' : EncoderRec) : Prop where
  ok : r.Ok → r'.Ok
  advance : p ≤ 16777215 → r.residue < 256000 → ∃ n ≤ 66, r'.odo = r.odo + BitVec.ofNat 32 n

/-- A decoder that takes other levels as its reference (R6). -/
theorem EncoderStep.levels (p : Nat) (r : EncoderRec) (x : QuadLevels) : EncoderStep p r { r with levels := x } :=
  ⟨fun h => ⟨h.residue, h.debt, h.history, h.speed, h.resolution⟩, fun _ _ => ⟨0, by simp⟩⟩

theorem EncoderStep.after {p : Nat} {r r' : EncoderRec} {x : QuadLevels} (h : EncoderStep p { r with levels := x } r') :
    EncoderStep p r r' :=
  ⟨fun g => h.ok ((EncoderStep.levels p r x).ok g), h.advance⟩

/-- A forward count in one formula (R7): it pays off debt, the rest enters the residue, whose whole millimetres are the
advance. -/
theorem forwardCount_eq (p : Nat) (r : EncoderRec) (h : r.residue < 256000) :
    forwardCount p r =
      ({ r with debt := r.debt - p, residue := (r.residue + (p - r.debt)) % 256000 },
        (r.residue + (p - r.debt)) / 256000) := by
  unfold forwardCount Config.unitsPerMm
  split
  · next hp =>
    have h0 : p - r.debt = 0 := by omega
    simp [h0, Nat.mod_eq_of_lt h, Nat.div_eq_of_lt h]
  · next hp =>
    have h0 : r.debt - p = 0 := by omega
    simp [h0]

/-- The advance of one count of a pitch in range is at most 66 mm (R9). -/
theorem advance_le {p debt residue : Nat} (hp : p ≤ 16777215) (hr : residue < 256000) :
    (residue + (p - debt)) / 256000 ≤ 66 := by omega

theorem forwardCount_step (p : Nat) (r : EncoderRec) :
    EncoderStep p r { (forwardCount p r).1 with odo := r.odo + BitVec.ofNat 32 (forwardCount p r).2 } := by
  refine ⟨fun h => ?_, fun hp hr => ?_⟩
  · rw [forwardCount_eq p r h.residue]
    exact ⟨Nat.mod_lt _ (by decide), (Nat.sub_le _ _).trans h.debt, h.history, h.speed, h.resolution⟩
  · rw [forwardCount_eq p r hr]
    exact ⟨_, advance_le hp hr, rfl⟩

theorem forwardCount_step_zero (p : Nat) (r : EncoderRec) (h : (forwardCount p r).2 = 0) :
    EncoderStep p r (forwardCount p r).1 := by
  have ho : (forwardCount p r).1.odo = r.odo := by unfold forwardCount; split <;> rfl
  have := forwardCount_step p r
  rw [h] at this
  simpa [← ho] using this

theorem reverseCount_step (p : Nat) (r : EncoderRec) : EncoderStep p r (reverseCount p r).1 :=
  ⟨fun h => ⟨h.residue, Nat.min_le_right _ _, h.history, h.speed, h.resolution⟩, fun _ _ => ⟨0, by simp [reverseCount]⟩⟩

/-- A period close leaves an encoder within its ranges (R10). -/
theorem EncoderRec.Ok.close {r : EncoderRec} (h : r.Ok) : r.close.Ok where
  residue := h.residue
  debt := h.debt
  history := by have := h.history; simp [EncoderRec.close]; omega
  speed := Nat.min_le_right _ _
  resolution := by simp only [EncoderRec.close, Config.speedClamp]; omega

/-- Each encoder at a period close. -/
theorem closePeriod_encoder (e : Env) (c : Encoder) : (closePeriod e).encoders[c] = e.encoders[c].close := by
  fin_cases c <;> rfl

theorem EncoderRec.powerOn_ok (x : QuadLevels) : (EncoderRec.powerOn x).Ok := by
  constructor <;> simp [EncoderRec.powerOn]

/-! ## Bridges -/

/-- The fill and the level that setting a bridge gives it (R11, R13). -/
def setBridge (e : Env) (k : Bridge) (v : Int) (always : Bool) : BridgeRec :=
  let b := e.bridges[k]
  let fill := min v.toNat e.table.fillMax[k]
  ⟨fill, if fill ≠ b.fill ∨ always = true then
    bridgeLevel e.table.lowThreshold[k] e.table.highThreshold[k] e.table.levelHysteresis[k] fill b.level else b.level⟩

@[simp] theorem setBridge_fill (e : Env) (k : Bridge) (v : Int) (always : Bool) :
    (setBridge e k v always).fill = min v.toNat e.table.fillMax[k] := rfl

/-- Setting a fill changes its bridge and nothing else of the environment. -/
theorem setFill_env (e : Env) (k : Bridge) (v : Int) (always : Bool) (w : Work) :
    (setFill e k v always w).1 = { e with bridges := e.bridges.set k (setBridge e k v always) } := by
  simp [setFill, setBridge]

/-- An alarm raised where a condition holds. -/
def raiseWhere (c : Bool) (e : Env) (k : AlarmKind) (x : Subject) (w : Work) : Work :=
  if c then raiseAlarm e k x w else w

theorem raiseWhere_frame (c : Bool) (e : Env) (k : AlarmKind) (x : Subject) (w : Work) :
    NoticeFrame w (raiseWhere c e k x w) := by
  unfold raiseWhere
  split
  · exact raiseAlarm_frame e k x w
  · exact NoticeFrame.refl w

theorem raiseWhere_kept (c : Bool) (e : Env) (k : AlarmKind) (x : Subject) (w : Work) :
    AlarmsKept w.alarms (raiseWhere c e k x w).alarms := by
  unfold raiseWhere
  split
  · exact raiseAlarm_kept e k x w
  · exact AlarmsKept.refl _

theorem raiseWhere_hasAlarm {c : Bool} (h : c = true) (e : Env) (k : AlarmKind) (x : Subject) (w : Work) :
    (raiseWhere c e k x w).hasAlarm k x := by
  simpa [raiseWhere, h] using raiseAlarm_hasAlarm e k x w

/-- Setting a fill raises the arrivals at 0 and at the limit, and then the changes into LOW and HIGH (R12, R13). -/
theorem setFill_work (e : Env) (k : Bridge) (v : Int) (always : Bool) (w : Work) :
    (setFill e k v always w).2 =
      let b := e.bridges[k]
      let x := setBridge e k v always
      let e1 := (setFill e k v always w).1
      raiseWhere (x.level != b.level && x.level == .high) e1 .bridgeHigh (.bridge k)
        (raiseWhere (x.level != b.level && x.level == .low) e1 .bridgeLow (.bridge k)
          (raiseWhere (x.fill != b.fill && x.fill == e.table.fillMax[k]) e1 .bridgeFull (.bridge k)
            (raiseWhere (x.fill != b.fill && x.fill == 0) e1 .bridgeEmpty (.bridge k) w))) := by
  simp [setFill, setBridge, raiseWhere]

/-- Setting a fill changes, beside its bridge, the notices and the alarm record alone. -/
theorem setFill_frame (e : Env) (k : Bridge) (v : Int) (always : Bool) (w : Work) :
    NoticeFrame w (setFill e k v always w).2 := by
  rw [setFill_work]
  exact (((raiseWhere_frame _ _ _ _ w).trans (raiseWhere_frame _ _ _ _ _)).trans (raiseWhere_frame _ _ _ _ _)).trans
    (raiseWhere_frame _ _ _ _ _)

/-- Setting a fill keeps the alarms raised before. -/
theorem setFill_kept (e : Env) (k : Bridge) (v : Int) (always : Bool) (w : Work) :
    AlarmsKept w.alarms (setFill e k v always w).2.alarms := by
  rw [setFill_work]
  exact (((raiseWhere_kept _ _ _ _ w).trans (raiseWhere_kept _ _ _ _ _)).trans (raiseWhere_kept _ _ _ _ _)).trans
    (raiseWhere_kept _ _ _ _ _)

section
variable {e : Env} {k : Bridge} {v : Int} {always : Bool} (w : Work)

/-- An arrival at 0 raises BRIDGE_EMPTY (R12). -/
theorem setFill_empty (h : e.bridges[k].fill ≠ 0) (g : (setBridge e k v always).fill = 0) :
    (setFill e k v always w).2.hasAlarm .bridgeEmpty (.bridge k) := by
  rw [setFill_work]
  refine hasAlarm_kept (raiseWhere_kept _ _ _ _ _) (hasAlarm_kept (raiseWhere_kept _ _ _ _ _)
    (hasAlarm_kept (raiseWhere_kept _ _ _ _ _) (raiseWhere_hasAlarm ?_ _ _ _ _)))
  rw [g]
  simpa using h.symm

/-- An arrival at the limit raises BRIDGE_FULL (R12). -/
theorem setFill_full (h : e.bridges[k].fill ≠ e.table.fillMax[k])
    (g : (setBridge e k v always).fill = e.table.fillMax[k]) :
    (setFill e k v always w).2.hasAlarm .bridgeFull (.bridge k) := by
  rw [setFill_work]
  refine hasAlarm_kept (raiseWhere_kept _ _ _ _ _) (hasAlarm_kept (raiseWhere_kept _ _ _ _ _)
    (raiseWhere_hasAlarm ?_ _ _ _ _))
  rw [g]
  simpa using h.symm

/-- A change into LOW raises BRIDGE_LOW (R13). -/
theorem setFill_low (h : e.bridges[k].level ≠ .low) (g : (setBridge e k v always).level = .low) :
    (setFill e k v always w).2.hasAlarm .bridgeLow (.bridge k) := by
  rw [setFill_work]
  refine hasAlarm_kept (raiseWhere_kept _ _ _ _ _) (raiseWhere_hasAlarm ?_ _ _ _ _)
  rw [g]
  simpa using h.symm

/-- A change into HIGH raises BRIDGE_HIGH (R13). -/
theorem setFill_high (h : e.bridges[k].level ≠ .high) (g : (setBridge e k v always).level = .high) :
    (setFill e k v always w).2.hasAlarm .bridgeHigh (.bridge k) := by
  rw [setFill_work]
  refine raiseWhere_hasAlarm ?_ _ _ _ _
  rw [g]
  simpa using h.symm

/-- Where neither the fill nor the level changes, nothing is raised. -/
theorem setFill_unmoved (h : (setBridge e k v always).fill = e.bridges[k].fill)
    (g : (setBridge e k v always).level = e.bridges[k].level) : (setFill e k v always w).2 = w := by
  rw [setFill_work]
  simp only [h, g, raiseWhere]
  simp

end

/-- The fills held by the table's limits. -/
def Env.fillsFit (e : Env) : Prop := ∀ k : Bridge, e.bridges[k].fill ≤ e.table.fillMax[k]

/-- The bridges after one setting of a fill. -/
theorem setFill_bridge (e : Env) (k j : Bridge) (v : Int) (always : Bool) (w : Work) :
    (setFill e k v always w).1.bridges[j] = if j = k then setBridge e k v always else e.bridges[j] := by
  rw [setFill_env]
  by_cases h : j = k
  · subst h; simp
  · have h' : k.val ≠ j.val := fun x => h (Fin.ext x.symm)
    simp [h, h']

/-- Each setting of a fill leaves it within its limit (R12). -/
theorem setFill_fillsFit {e : Env} (k : Bridge) (v : Int) (always : Bool) (w : Work) (h : e.fillsFit) :
    (setFill e k v always w).1.fillsFit := by
  intro j
  have ht : (setFill e k v always w).1.table = e.table := rfl
  rw [setFill_bridge, ht]
  split
  · next hj => subst hj; exact Nat.min_le_right _ _
  · exact h j

theorem bridge_cases (k : Bridge) : k = 0 ∨ k = 1 := by revert k; decide

/-- What setting a bridge gives it depends on its own record and the table alone. -/
theorem setBridge_congr {e e' : Env} {k : Bridge} (ht : e'.table = e.table) (hb : e'.bridges[k] = e.bridges[k]) (v : Int)
    (always : Bool) : setBridge e' k v always = setBridge e k v always := by
  simp only [setBridge, ht, hb]

/-- The fill of one bridge shifted, by a distance for each bridge (R11, R5). -/
def stepFill (d : Bridge → Int) (always : Bool) (x : Env × Work) (k : Bridge) : Env × Work :=
  setFill x.1 k ((x.1.bridges[k].fill : Int) + d k) always x.2

theorem refitFill_eq : refitFill = stepFill (fun _ => 0) true := by
  funext x k
  simp [refitFill, stepFill]

/-- What both fills taken in turn become, and what they raise, starting from the environment and work of `x`. -/
structure BothFills (d : Bridge → Int) (always : Bool) (x y : Env × Work) : Prop where
  env : y.1 = { x.1 with bridges := y.1.bridges }
  frame : NoticeFrame x.2 y.2
  bridge : ∀ k : Bridge, y.1.bridges[k] = setBridge x.1 k ((x.1.bridges[k].fill : Int) + d k) always
  full : ∀ k : Bridge, x.1.bridges[k].fill ≠ x.1.table.fillMax[k] → y.1.bridges[k].fill = x.1.table.fillMax[k] →
    y.2.hasAlarm .bridgeFull (.bridge k)

/-- Bridge 1 is taken whole before bridge 2, which reads nothing of it (log entry 6). -/
theorem foldl_stepFill (d : Bridge → Int) (always : Bool) (x : Env × Work) :
    BothFills d always x (allBridges.foldl (stepFill d always) x) := by
  set y := stepFill d always x 0 with hy
  have other : y.1.bridges[(1 : Bridge)] = x.1.bridges[(1 : Bridge)] := setFill_bridge _ 0 1 _ _ _
  have first : (stepFill d always y 1).1.bridges[(0 : Bridge)] =
      setBridge x.1 0 ((x.1.bridges[(0 : Bridge)].fill : Int) + d 0) always :=
    (setFill_bridge _ 1 0 _ _ _).trans (setFill_bridge _ 0 0 _ _ _)
  have second : (stepFill d always y 1).1.bridges[(1 : Bridge)] =
      setBridge x.1 1 ((x.1.bridges[(1 : Bridge)].fill : Int) + d 1) always := by
    refine (setFill_bridge _ 1 1 _ _ _).trans ?_
    rw [other]
    exact setBridge_congr (e := x.1) (e' := y.1) rfl other _ _
  refine ⟨rfl, (setFill_frame _ 0 _ _ _).trans (setFill_frame _ 1 _ _ _), fun k => ?_, fun k h g => ?_⟩ <;>
    obtain rfl | rfl := bridge_cases k
  · exact first
  · exact second
  · refine hasAlarm_kept (setFill_kept _ 1 _ _ _) (setFill_full _ h ?_)
    exact (congrArg BridgeRec.fill first).symm.trans g
  · exact setFill_full _ (by rw [other]; exact h)
      ((congrArg BridgeRec.fill (setFill_bridge _ 1 1 _ _ _)).symm.trans g)

/-- Both fills taken in turn stay within the table's limits (R12). -/
theorem BothFills.fillsFit {d : Bridge → Int} {always : Bool} {x y : Env × Work} (h : BothFills d always x y) :
    y.1.fillsFit := by
  intro k
  rw [h.bridge k, h.env]
  exact Nat.min_le_right _ _

end Sys2Proof.Machine
end

section
/-! SUPPORT. What one command can make of the environment, said once for every command: `RequestEffect` for a request as it
is applied, `CommandEffect` for a whole command. The statements on what every step keeps, and on what only some commands
change, are read off these. -/

namespace Sys2Proof.Machine

/-! ## Updates of every port -/

/-- An update of several ports, each by its own function. -/
theorem foldl_updLink (g : Port → Link → Link) : ∀ (l : List Port) (e : Env), l.Nodup →
    (l.foldl (fun x p => x.updLink p (g p)) e =
      { e with links := (l.foldl (fun x p => x.updLink p (g p)) e).links }) ∧
    ∀ q, (l.foldl (fun x p => x.updLink p (g p)) e).links[q] = if q ∈ l then g q e.links[q] else e.links[q]
  | [], e, _ => by simp
  | p :: rest, e, h => by
    obtain ⟨hp, hr⟩ := List.nodup_cons.mp h
    obtain ⟨h1, h2⟩ := foldl_updLink g rest (e.updLink p (g p)) hr
    refine ⟨h1, fun q => ?_⟩
    rw [List.foldl_cons, h2 q, Env.updLink_link]
    by_cases hq : q = p
    · subst hq; simp [hp]
    · simp [hq]

theorem allPorts_nodup : allPorts.Nodup := by decide

/-- The four timeouts written change the ports' timeouts alone (R170). -/
theorem writeTimeouts_env (e : Env) (v : Vector Nat 4) :
    writeTimeouts e v = { e with links := (writeTimeouts e v).links } ∧
    ∀ q : Port, (writeTimeouts e v).links[q] = e.links[q].writeTimeout v[q] := by
  obtain ⟨h1, h2⟩ := foldl_updLink (fun p l => l.writeTimeout v[p]) allPorts e allPorts_nodup
  exact ⟨h1, fun q => (h2 q).trans (if_pos (mem_allPorts q))⟩

/-- OPEN of a part in HOLD opens the part and every port, and changes nothing else (R170). -/
theorem openAll_env (e : Env) (w : Work) :
    (openAll e w).1 = { e with partOpen := true, links := (openAll e w).1.links } ∧
    ∀ q : Port, (openAll e w).1.links[q] = e.links[q].openLink e.now := by
  obtain ⟨h1, h2⟩ := foldl_updLink (fun _ => Link.openLink e.now) allPorts { e with partOpen := true } allPorts_nodup
  exact ⟨h1, fun q => (h2 q).trans (if_pos (mem_allPorts q))⟩

/-! ## Requests -/

/-- What applying a request at a port can make of an environment. -/
inductive RequestEffect (p : Port) (e : Env) : Request → Env → Prop
  | same (r : Request) : RequestEffect p e r e
  | link (r : Request) (f : Link → Link) (h : LinkStep e.links[p] (f e.links[p])) : RequestEffect p e r (e.updLink p f)
  | floor (v : Nat) (h : v ≤ 16) : RequestEffect p e .floor { e with baseFloors := e.baseFloors.set p v }
  | table (t : LineTable) (v : Vector BridgeRec 2) (h : t.fieldsOk = true)
      (g : Env.fillsFit { e with table := t, bridges := v }) :
      RequestEffect p e .lineTable { e with table := t, configured := true, bridges := v }
  | staged (v : Vector (Option Station) 24) : RequestEffect p e .stationSet { e with staged := v }
  | stations (v : Vector (Option Station) 24) (h : kindCounts v = true ∧ inLineOrder v = true) :
      RequestEffect p e .stationSet { e with staged := v, stations := v, stationsValid := true }
  | recipes (v : Vector (Vector Nat 24) 32) : RequestEffect p e .recipeSet { e with recipes := v }
  | profiles (n : Fin 8) (l : List ProfileStep) (h : profileOk l = true) :
      RequestEffect p e .profileSet { e with profiles := e.profiles.set n l }
  | classes (c : Fin 8) (x : ClassEntry) (h : x.priority ≤ 15) :
      RequestEffect p e .classSet { e with classes := e.classes.set c x }
  | ring (r : Ring) (h : r.Ok) : RequestEffect p e .relaySet { e with ring := r }
  | enables (v : Vector Bool 16) : RequestEffect p e .alarmEnable { e with alarmEnables := v }
  | timeouts (v : Vector Link 4) (h : ∀ q : Port, LinkStep e.links[q] v[q]) :
      RequestEffect p e .openPart { e with links := v }
  | opened (v : Vector Link 4) (h : ∀ q : Port, ∃ l, LinkStep e.links[q] l ∧ v[q] = l.openLink e.now) :
      RequestEffect p e .openPart { e with partOpen := true, links := v }
  | started : RequestEffect p e .start { e with run := .running }
  | reset : RequestEffect p e .lineReset { e with run := .idle }
  | settings (k : Stand) (c : StandSettings) (h : c.thresholdsOk = true) :
      RequestEffect p e .standSet { e with settings := e.settings.set k c }
  | fill (v : Vector BridgeRec 2) (h : e.fillsFit → Env.fillsFit { e with bridges := v }) :
      RequestEffect p e .bridgeSet { e with bridges := v }

/-! ### Requests that leave the environment -/

section
variable (p : Port) (e : Env) (w : Work) (body : List Byte)

theorem applyTake_env : (applyTake p e w body).env = e := by
  unfold applyTake
  repeat' split
  all_goals rfl

theorem applyPeek_env : (applyPeek p e w body).env = e := by
  unfold applyPeek
  split <;> rfl

theorem applyDone_env : (applyDone p e w body).env = e := by
  unfold applyDone
  repeat' split
  all_goals rfl

theorem applyAlarmClear_env : (applyAlarmClear e w body).env = e := by
  unfold applyAlarmClear
  repeat' split
  all_goals rfl

theorem applyOrderAdd_env : (applyOrderAdd e w body).env = e := by
  unfold applyOrderAdd
  repeat' split
  all_goals rfl

theorem applyOrderWithdraw_env : (applyOrderWithdraw e w body).env = e := by
  unfold applyOrderWithdraw
  repeat' split
  all_goals rfl

theorem applyOrderRelease_env : (applyOrderRelease e w body).env = e := by
  unfold applyOrderRelease
  repeat' split
  all_goals rfl

theorem applyLogTake_env : (applyLogTake e w body).env = e := by
  unfold applyLogTake
  repeat' split
  all_goals rfl

theorem removeReel_env (k : Stand) (running : Bool) : (removeReel e w k running).env = e := by
  unfold removeReel
  dsimp only
  repeat' split
  all_goals rfl

theorem applyReelRemove_env : (applyReelRemove e w body).env = e := by
  unfold applyReelRemove
  repeat' split
  · exact removeReel_env _ _ _ _
  all_goals rfl

theorem applyJoint_env : (applyJoint e w body).env = e := by
  unfold applyJoint
  split <;> rfl

theorem applySpliceFail_env : (applySpliceFail e w body).env = e := by
  unfold applySpliceFail
  repeat' split
  all_goals rfl

theorem applyStandEnable_env : (applyStandEnable e w body).env = e := by
  unfold applyStandEnable
  repeat' split
  all_goals rfl

theorem recordResponse_env (tag : Nat) (x : Partial) : (recordResponse p e w tag x).env = e := by
  unfold recordResponse
  dsimp only
  repeat' split
  all_goals rfl

theorem applyRespond_env : (applyRespond p e w body).env = e := by
  unfold applyRespond
  repeat' split
  · exact recordResponse_env _ _ _ _ _
  all_goals rfl

theorem applySetupDone_env : (applySetupDone e w body).env = e := by
  unfold applySetupDone
  repeat' split
  all_goals rfl

theorem recordDefect_env (i : StationIx) (st : Station) (a c cause : Nat) : (recordDefect e w i st a c cause).env = e := by
  unfold recordDefect
  dsimp only
  split <;> rfl

theorem applyDefect_env : (applyDefect e w body).env = e := by
  unfold applyDefect
  repeat' split
  case isFalse => exact recordDefect_env _ _ _ _ _ _ _
  all_goals rfl

/-! ### Requests that change it -/

theorem status_effect : RequestEffect p e .status (applyStatus p e w body).env := by
  unfold applyStatus
  split
  · exact .same _
  · dsimp only
    split
    · exact .link _ _ (clearStatus_step _)
    · exact .same _

theorem floor_effect : RequestEffect p e .floor (applyFloor p e w body).env := by
  unfold applyFloor
  split
  · exact .same _
  · next v _ =>
    split
    · exact .same _
    · next h => exact .floor v (by omega)

/-- A table taken into force, with the fills cut down to its limits (R5). -/
theorem acceptTable_env (t : LineTable) :
    BothFills (fun _ => 0) true ({ e with table := t, configured := true }, w) (acceptTable e t w) := by
  rw [acceptTable, refitFill_eq]
  exact foldl_stepFill _ _ _

theorem acceptTable_effect {t : LineTable} (h : t.fieldsOk = true) :
    RequestEffect p e .lineTable (acceptTable e t w).1 := by
  have g := acceptTable_env e w t
  rw [g.env]
  refine .table t _ h fun k => ?_
  rw [g.bridge k]
  exact Nat.min_le_right _ _

theorem lineTable_effect : RequestEffect p e .lineTable (applyLineTable e w body).env := by
  unfold applyLineTable
  split
  · exact .same _
  · split
    · exact .same _
    · split
      · exact .same _
      · next h =>
        simp only [Bool.or_eq_true, not_or, Bool.not_eq_true', Bool.not_eq_false, tableAccepted, Bool.and_eq_true] at h
        exact acceptTable_effect p e w h.2.1.1

/-- A station set that passes the checks of R53 has its key stations, in line order. -/
theorem stationSetCheck_none {v : Vector (Option Station) 24} (h : stationSetCheck e v = none) :
    kindCounts v = true ∧ inLineOrder v = true := by
  unfold stationSetCheck at h
  dsimp only at h
  split at h
  · cases h
  · next hk =>
    split at h
    · cases h
    · split at h
      · cases h
      · next ho => exact ⟨by simpa using hk, by simpa using ho⟩

theorem stationSet_effect : RequestEffect p e .stationSet (applyStationSet e w body).env := by
  unfold applyStationSet
  split
  · exact .same _
  · split
    · exact .same _
    · split
      · exact .same _
      · unfold stageAndApply
        split
        · exact .staged _
        · split
          · exact .staged _
          · next h => exact .stations _ (stationSetCheck_none _ h)

theorem recipeSet_effect : RequestEffect p e .recipeSet (applyRecipeSet e w body).env := by
  unfold applyRecipeSet
  split
  · exact .same _
  · split
    · exact .same _
    · exact .recipes _

theorem profileSet_effect : RequestEffect p e .profileSet (applyProfileSet e w body).env := by
  unfold applyProfileSet
  split
  · exact .same _
  · split
    · next hn =>
      split
      · next hl => exact .profiles ⟨_, hn⟩ _ hl
      · exact .same _
    · exact .same _

theorem classSet_effect : RequestEffect p e .classSet (applyClassSet e w body).env := by
  unfold applyClassSet
  repeat' split
  · exact .same _
  · exact .same _
  · exact .same _
  · exact .classes _ _ (Nat.min_le_right _ _)

theorem portOf_eq_some {n : Nat} {q : Port} : portOf n = some q ↔ n = q.val := by
  unfold portOf
  split
  · simp [Fin.ext_iff]
  · simp only [reduceCtorEq, false_iff]
    omega

/-- A list of port numbers read as ports is the list of their numbers. -/
theorem mapM_portOf : ∀ {l : List Nat} {ports : List Port}, l.mapM portOf = some ports → l = ports.map Fin.val
  | [], ports, h => by simp_all
  | n :: l, ports, h => by
    simp only [List.mapM_cons, Option.bind_eq_bind, Option.bind_eq_some_iff, Option.pure_def, Option.some.injEq] at h
    obtain ⟨q, hq, rest, hr, rfl⟩ := h
    simp [portOf_eq_some.mp hq, mapM_portOf hr]

/-- The ring that RELAY_SET makes is a ring of R155. -/
theorem ringOf_ok {l : List Nat} {stop : Nat} {r : Ring} (h : ringOf l stop = some r) : r.Ok := by
  unfold ringOf at h
  split at h
  · next hl =>
    split at h
    · next ports q hp hq =>
      obtain rfl := Option.some.inj h
      have hmap : l = ports.map Fin.val := by
        exact mapM_portOf hp
      subst hmap
      obtain rfl := portOf_eq_some.mp hq
      simp only [inRange, Bool.and_eq_true, decide_eq_true_eq, List.length_map, List.contains_iff_mem] at hl
      obtain ⟨⟨hlen, hd⟩, hs⟩ := hl
      exact ⟨hlen, hd.of_map _, by simpa [Fin.val_inj] using hs⟩
    · cases h
  · cases h

theorem relaySet_effect : RequestEffect p e .relaySet (applyRelaySet e w body).env := by
  unfold applyRelaySet
  repeat' split
  · exact .same _
  · exact .same _
  · next h => exact .ring _ (ringOf_ok h)

theorem alarmEnable_effect : RequestEffect p e .alarmEnable (applyAlarmEnable e w body).env := by
  unfold applyAlarmEnable
  repeat' split
  · exact .same _
  · exact .same _
  · exact .enables _
  · exact .same _

theorem writeTimeouts_effect {v : Vector Nat 4} (h : ∀ q : Port, timeoutOk v[q] = true) :
    RequestEffect p e .openPart (writeTimeouts e v) := by
  obtain ⟨henv, hlink⟩ := writeTimeouts_env e v
  rw [henv]
  refine .timeouts _ fun q => ?_
  rw [hlink q]
  exact writeTimeout_step _ (h q)

theorem openAll_effect {v : Vector Nat 4} (h : ∀ q : Port, timeoutOk v[q] = true) :
    RequestEffect p e .openPart (openAll (writeTimeouts e v) w).1 := by
  obtain ⟨henv, hlink⟩ := writeTimeouts_env e v
  obtain ⟨oenv, olink⟩ := openAll_env (writeTimeouts e v) w
  have hnow : (writeTimeouts e v).now = e.now := by rw [henv]
  rw [oenv, henv]
  refine .opened _ fun q => ⟨_, writeTimeout_step _ (h q), ?_⟩
  rw [← hlink q, ← hnow]
  exact olink q

theorem open_effect : RequestEffect p e .openPart (applyOpen e w body).env := by
  unfold applyOpen
  split
  · next a b c d _ =>
    split
    · exact .same _
    · next h =>
      have ok : ∀ q : Port, timeoutOk (#v[a, b, c, d] : Vector Nat 4)[q] = true := by
        simp only [Bool.not_eq_true', Bool.not_eq_false, List.all_cons, List.all_nil, Bool.and_eq_true, Bool.and_true] at h
        obtain ⟨ha, hb, hc, hd⟩ := h
        intro q
        fin_cases q <;> assumption
      split
      · exact .same _
      · dsimp only
        split
        · exact writeTimeouts_effect p e ok
        · exact openAll_effect p e w ok
  · exact .same _

theorem startWith_effect (f gKnife gap : Nat) : RequestEffect p e .start (startWith e w f gKnife gap).env := by
  unfold startWith
  dsimp only
  split
  · exact .same _
  · exact .started

theorem start_effect : RequestEffect p e .start (applyStart e w body).env := by
  unfold applyStart
  repeat' split
  · exact .same _
  · exact .same _
  · exact .same _
  · exact startWith_effect _ _ _ _ _ _
  · exact .same _
  · exact .same _

theorem lineReset_effect : RequestEffect p e .lineReset (applyLineReset e w body).env := by
  unfold applyLineReset
  split
  · exact .same _
  · exact .reset

theorem standSet_effect : RequestEffect p e .standSet (applyStandSet e w body).env := by
  unfold applyStandSet
  split
  · exact .same _
  · split
    · split
      · next h =>
        simp only [settingsAccepted, Bool.and_eq_true] at h
        exact .settings _ _ h.2
      · exact .same _
    · exact .same _

theorem noteClamp_effect (r : Request) (given held : Nat) : RequestEffect p e r (noteClamp p given held e) := by
  unfold noteClamp
  split
  · exact .same _
  · exact .link _ _ (sensorClamp_step _)

theorem loadReel_effect (k : Stand) (x : Reel) : RequestEffect p e .reelLoad (loadReel p e w k x).env := by
  unfold loadReel
  dsimp only
  repeat' split
  · exact .same _
  · exact noteClamp_effect _ _ _ _ _
  · exact noteClamp_effect _ _ _ _ _

theorem reelLoad_effect : RequestEffect p e .reelLoad (applyReelLoad p e w body).env := by
  unfold applyReelLoad
  dsimp only
  repeat' split
  · exact .same _
  · exact loadReel_effect _ _ _ _ _
  · exact .same _
  · exact .same _

theorem diameter_effect : RequestEffect p e .diameter (applyDiameter p e w body).env := by
  unfold applyDiameter setDiameter
  repeat' split
  · exact noteClamp_effect _ _ _ _ _
  · exact .same _
  · exact .same _
  · exact .same _
  · exact .same _

theorem bridgeSet_effect : RequestEffect p e .bridgeSet (applyBridgeSet e w body).env := by
  unfold applyBridgeSet
  repeat' split
  · exact .same _
  · exact .fill _ (setFill_fillsFit _ _ true w)
  · exact .same _

end

/-- The environment that applying a request leaves is one of `RequestEffect`. -/
theorem request_effect (p : Port) (r : Request) (e : Env) (w : Work) (body : List Byte) :
    RequestEffect p e r (r.meaning p e w body).env := by
  have same : ∀ {x : Env}, x = e → RequestEffect p e r x := fun h => h ▸ .same r
  cases r with
  | status => exact status_effect p e w body
  | read => exact .same _
  | peek => exact same (applyPeek_env p e w body)
  | take => exact same (applyTake_env p e w body)
  | done => exact same (applyDone_env p e w body)
  | floor => exact floor_effect p e w body
  | lineTable => exact lineTable_effect p e w body
  | stationSet => exact stationSet_effect p e w body
  | recipeSet => exact recipeSet_effect p e w body
  | profileSet => exact profileSet_effect p e w body
  | classSet => exact classSet_effect p e w body
  | relaySet => exact relaySet_effect p e w body
  | alarmEnable => exact alarmEnable_effect p e w body
  | alarmClear => exact same (applyAlarmClear_env e w body)
  | openPart => exact open_effect p e w body
  | start => exact start_effect p e w body
  | orderAdd => exact same (applyOrderAdd_env e w body)
  | orderWithdraw => exact same (applyOrderWithdraw_env e w body)
  | orderRelease => exact same (applyOrderRelease_env e w body)
  | lineReset => exact lineReset_effect p e w body
  | logTake => exact same (applyLogTake_env e w body)
  | standSet => exact standSet_effect p e w body
  | reelLoad => exact reelLoad_effect p e w body
  | reelRemove => exact same (applyReelRemove_env e w body)
  | diameter => exact diameter_effect p e w body
  | joint => exact same (applyJoint_env e w body)
  | spliceFail => exact same (applySpliceFail_env e w body)
  | standEnable => exact same (applyStandEnable_env e w body)
  | bridgeSet => exact bridgeSet_effect p e w body
  | respond => exact same (applyRespond_env p e w body)
  | setupDone => exact same (applySetupDone_env e w body)
  | defect => exact same (applyDefect_env e w body)

end Sys2Proof.Machine
end

section
/-! SUPPORT. What one command can make of the environment, whole: that of the request it applies, or that of the timed
event, the edge or the frame it is. -/

namespace Sys2Proof.Machine

/-! ## Edges -/

/-- What an edge of encoder `c` can make of an environment: that encoder counts, and the fills follow (R6 to R11). -/
inductive EdgeEffect (c : Encoder) (e : Env) : Env → Prop
  | mk (r : EncoderRec) (v : Vector BridgeRec 2) (h : EncoderStep e.table.pitch[c] e.encoders[c] r)
      (g : e.fillsFit → Env.fillsFit { e with bridges := v }) : EdgeEffect c e { e.setEncoder c r with bridges := v }

theorem EdgeEffect.setEncoder {c : Encoder} {e : Env} {r : EncoderRec}
    (h : EncoderStep e.table.pitch[c] e.encoders[c] r) : EdgeEffect c e (e.setEncoder c r) := .mk r e.bridges h id

theorem setEncoder_self_record (e : Env) (c : Encoder) : e.setEncoder c e.encoders[c] = e := by
  simp [Env.setEncoder]

theorem EdgeEffect.refl (c : Encoder) (e : Env) : EdgeEffect c e e := by
  have h := EdgeEffect.setEncoder (EncoderStep.levels e.table.pitch[c] e.encoders[c] e.encoders[c].levels)
  rwa [setEncoder_self_record] at h

/-- What an edge makes of the environment where the decoder has taken its levels is what it makes of the environment. -/
theorem EdgeEffect.after {c : Encoder} {e e' : Env} {x : QuadLevels}
    (h : EdgeEffect c (e.setEncoder c { e.encoders[c] with levels := x }) e') : EdgeEffect c e e' := by
  obtain ⟨r, v, hr, hv⟩ := h
  rw [Env.setEncoder_self] at hr
  rw [Env.setEncoder_setEncoder]
  exact .mk r v hr.after hv

/-- The fills of an advance: the odometer advances, and both fills follow (R9, R11). -/
theorem advanceFills_both (e : Env) (c : Encoder) (n : Nat) (w : Work) :
    BothFills (fun k => fillShift c k n) false
      (e.setEncoder c { e.encoders[c] with odo := e.encoders[c].odo + BitVec.ofNat 32 n }, w) (advanceFills e c n w) :=
  foldl_stepFill _ _ _

theorem advance_effect (e : Env) (c : Encoder) (w : Work) :
    EdgeEffect c e
      (advance (e.setEncoder c (forwardCount e.table.pitch[c] e.encoders[c]).1) c
        (forwardCount e.table.pitch[c] e.encoders[c]).2 w).1 := by
  have h := advanceFills_both (e.setEncoder c (forwardCount e.table.pitch[c] e.encoders[c]).1) c
    (forwardCount e.table.pitch[c] e.encoders[c]).2 w
  have hodo : (forwardCount e.table.pitch[c] e.encoders[c]).1.odo = e.encoders[c].odo := by
    unfold forwardCount; split <;> rfl
  have fit := h.fillsFit
  rw [h.env] at fit
  change EdgeEffect c e (advanceFills _ _ _ _).1
  rw [h.env, Env.setEncoder_self, Env.setEncoder_setEncoder, hodo]
  exact .mk _ _ (forwardCount_step _ _) fun _ => fit

theorem count_effect (e : Env) (c : Encoder) (edge : Edge) (w : Work) : EdgeEffect c e (count e c edge w).1 := by
  unfold count
  dsimp only
  split
  · exact .refl c e
  · split
    · split
      · next h => exact .setEncoder (forwardCount_step_zero _ _ h)
      · exact advance_effect e c w
    · exact .setEncoder (reverseCount_step _ _)
    · exact .refl c e
    · exact .refl c e

/-! ## Frames -/

@[simp] theorem Env.updLink_updLink (e : Env) (p : Port) (f g : Link → Link) :
    (e.updLink p f).updLink p g = e.updLink p fun l => g (f l) := by
  simp [Env.updLink, Env.setLink]

/-- A valid frame opens a DOWN port, restarts an OPEN one's timer, and leaves a port in HOLD (R169). -/
theorem validArrival_env (e : Env) (p : Port) (w : Work) :
    (validArrival e p w).1 = if e.links[p].state = .hold then e else e.updLink p (Link.openLink e.now) := by
  unfold validArrival
  cases h : e.links[p].state with
  | hold => simp
  | opened =>
    have hl : e.links[p].restart e.now = e.links[p].openLink e.now := by
      simp only [Link.openLink, ← h]
      rfl
    exact (congrArg (e.setLink p) hl).trans (if_neg (by simp)).symm
  | down => simp; rfl

/-! ## Commands -/

/-- What a command can make of an environment. -/
inductive CommandEffect (e : Env) : Instr → Env → Prop
  | same (c : Instr) : CommandEffect e c e
  | powerOn (x : Straps) (e1 e2 e3 : QuadLevels) :
      CommandEffect e (.powerOnReset x e1 e2 e3) (Env.powerOn e1 e2 e3 (Straps.links x) (Straps.ring x))
  | edge (c : Encoder) (levels : QuadLevels) (e' : Env) (h : EdgeEffect c e e') :
      CommandEffect e (.quadratureEdge c levels) e'
  | close : CommandEffect e .speedPeriodClose (closePeriod e)
  | reach (c : Instr) (t : Nat) : CommandEffect e c (e.reach t)
  | reoffer (t n : Nat) : CommandEffect e .reofferTimerExpiry { e.reach t with reofferAt := n }
  | link (c : Instr) (p : Port) (f : Link → Link) (h : LinkStep e.links[p] (f e.links[p])) :
      CommandEffect e c (e.updLink p f)
  | arrival (p : Port) (g : Bool) (b : List Byte) (f : Link → Link) (h : e.links[p].state ≠ .hold)
      (hf : LinkStep (e.links[p].openLink e.now) (f e.links[p])) : CommandEffect e (.receivedFrame p g b) (e.updLink p f)
  | down (p : Port) (t : Nat) (h : e.links[p].state = .opened) :
      CommandEffect e (.portTimeout p) ((e.reach t).updLink p fun l => { l with state := .down, timer := none })
  | request (p : Port) (r : Request) (q : Queued) (rest : List Queued) (e' : Env) (c : Code) (body : List Byte)
      (h : e.links[p].inbound = q :: rest) (he : RequestEffect p (popped e p rest) r e') :
      CommandEffect e (r.command p) (answered e' p q c body)

/-- A request command applies its request, or changes nothing. -/
theorem command_effect (p : Port) (r : Request) (s : State) :
    CommandEffect s.env (r.command p) (applyHead p r (r.meaning p) s).env := by
  unfold applyHead
  split
  · exact .same _
  · next q rest h =>
    split
    · exact .request p r q rest _ _ _ h (request_effect p r _ _ _)
    · exact .same _

theorem frameArrival_effect (e : Env) (p : Port) (g : Bool) (bytes : List Byte) (w : Work) :
    CommandEffect e (.receivedFrame p g bytes)
      (frameArrival (e.updLink p fun l => { l with framed := true }) p bytes w).1 := by
  unfold frameArrival
  split
  · rw [Env.updLink_updLink]
    exact .link _ p (fun l => Link.frameError { l with framed := true })
      ((framed_step e.links[p]).trans (frameError_step _))
  · next f _ =>
    dsimp only
    rw [validArrival_env]
    split
    · rw [Env.updLink_updLink]
      exact .link _ p (fun l => Link.receive { l with framed := true } e.partOpen f)
        ((framed_step e.links[p]).trans (receive_step _ _ f))
    · next h =>
      rw [Env.updLink_updLink, Env.updLink_updLink]
      rw [Env.updLink_self] at h
      exact .arrival p g bytes (fun l => (Link.openLink e.now { l with framed := true }).receive e.partOpen f) h
        ((framed_step (e.links[p].openLink e.now)).trans (receive_step _ _ f))

theorem receivedFrame_effect (p : Port) (g : Bool) (bytes : List Byte) (s t : State)
    (h : execReceivedFrame p g bytes s = .next t) : CommandEffect s.env (.receivedFrame p g bytes) t.env := by
  unfold execReceivedFrame at h
  dsimp only at h
  split at h
  · cases h; exact .same _
  · split at h
    · cases h; exact .link _ p (fun l => { l with framed := true }) (framed_step _)
    · cases h; exact frameArrival_effect s.env p g bytes s.work

theorem portTimeout_effect (p : Port) (s t : State) (h : execPortTimeout p s = .next t) :
    CommandEffect s.env (.portTimeout p) t.env := by
  unfold execPortTimeout at h
  split at h
  · next hs _ => cases h; exact .down p _ hs
  · cases h; exact .same _

/-- The environment that a command leaves is one of `CommandEffect`. -/
theorem exec_effect (c : Instr) (s t : State) (h : exec c s = .next t) : CommandEffect s.env c t.env := by
  have request : ∀ p r, exec (Request.command p r) s = .next t → CommandEffect s.env (r.command p) t.env := by
    intro p r hr
    rw [exec_command] at hr
    cases hr
    exact command_effect p r s
  cases c with
  | powerOnReset x e1 e2 e3 => cases h; exact .powerOn x e1 e2 e3
  | quadratureEdge c levels => cases h; exact .edge c levels _ (count_effect _ c _ _).after
  | speedPeriodClose => cases h; exact .close
  | cuePulseEnd k =>
    simp only [exec, execCuePulseEnd] at h
    split at h <;> cases h
    · exact .same _
    · exact .reach _ _
  | confirmDeadlineExpiry k =>
    simp only [exec, execConfirmDeadlineExpiry] at h
    split at h <;> cases h
    · exact .reach _ _
    · exact .same _
    · exact .same _
  | lateReportWindowEnd k =>
    simp only [exec, execLateReportWindowEnd] at h
    split at h <;> cases h
    · exact .same _
    · exact .reach _ _
  | proposalDeadlineExpiry g =>
    simp only [exec, execProposalDeadlineExpiry] at h
    split at h
    · cases h; exact .same _
    · split at h <;> cases h
      · exact .reach _ _
      · exact .same _
      · exact .same _
  | reofferTimerExpiry => cases h; exact .reoffer _ _
  | receivedFrame p g bytes => exact receivedFrame_effect p g bytes s t h
  | responseFrame p => cases h; exact .link _ p _ (sendOldest_step _)
  | portTimeout p => exact portTimeout_effect p s t h
  | status p => exact request p .status h
  | read p => exact request p .read h
  | peek p => exact request p .peek h
  | take p => exact request p .take h
  | done p => exact request p .done h
  | floor p => exact request p .floor h
  | lineTable p => exact request p .lineTable h
  | stationSet p => exact request p .stationSet h
  | recipeSet p => exact request p .recipeSet h
  | profileSet p => exact request p .profileSet h
  | classSet p => exact request p .classSet h
  | relaySet p => exact request p .relaySet h
  | alarmEnable p => exact request p .alarmEnable h
  | alarmClear p => exact request p .alarmClear h
  | openPart p => exact request p .openPart h
  | start p => exact request p .start h
  | orderAdd p => exact request p .orderAdd h
  | orderWithdraw p => exact request p .orderWithdraw h
  | orderRelease p => exact request p .orderRelease h
  | lineReset p => exact request p .lineReset h
  | logTake p => exact request p .logTake h
  | standSet p => exact request p .standSet h
  | reelLoad p => exact request p .reelLoad h
  | reelRemove p => exact request p .reelRemove h
  | diameter p => exact request p .diameter h
  | joint p => exact request p .joint h
  | spliceFail p => exact request p .spliceFail h
  | standEnable p => exact request p .standEnable h
  | bridgeSet p => exact request p .bridgeSet h
  | respond p => exact request p .respond h
  | setupDone p => exact request p .setupDone h
  | defect p => exact request p .defect h

end Sys2Proof.Machine
end

section
/-! SUPPORT. What every command keeps of the environment, read off `CommandEffect`: its ranges, what only power-on takes
back, and which table each request changes. -/

namespace Sys2Proof.Machine

/-! ## The ranges are kept -/

theorem Straps.links_eq (x : Straps) (p : Port) :
    (Straps.links x)[p] = Link.powerOn (Straps.bands x)[p] (Straps.role x p) := by
  fin_cases p <;> rfl

/-- A power-on environment is well kept, whatever the straps and the ring of R155. -/
theorem Env.powerOn_ok (e1 e2 e3 : QuadLevels) {links : Vector Link 4} {ring : Ring}
    (hl : ∀ p : Port, ∃ b r, links[p] = Link.powerOn b r) (hr : ring.Ok) : (Env.powerOn e1 e2 e3 links ring).Ok where
  encoders c := by fin_cases c <;> exact EncoderRec.powerOn_ok _
  fills k := by simp [Env.powerOn]
  links p := by obtain ⟨b, r, h⟩ := hl p; exact h ▸ Link.powerOn_ok b r
  hold p := by
    obtain ⟨b, r, h⟩ := hl p
    change links[p].state = .hold ↔ _
    rw [h]
    simp [Link.powerOn, Env.powerOn]
  priorities c := by
    change classesPowerOn[c].priority ≤ 15
    revert c
    decide
  floors p := by simp [Env.powerOn]
  ring := hr
  profiles i := by
    simp only [Env.powerOn, Fin.getElem_fin, Vector.getElem_replicate]
    decide
  thresholds s := by
    simp only [Env.powerOn, Fin.getElem_fin, Vector.getElem_replicate]
    decide
  table h := by cases h
  unconfigured _ := rfl
  stations h := by cases h

theorem Ring.single_ok (p : Port) : Ring.Ok ⟨[p], p⟩ := ⟨by simp, by simp, by simp⟩

/-- Settles O3: the reset environment is a power-on one (`Env.powerOn_ok`), and the rest is small and closed. -/
theorem resetIsWellKept : Obligations.ResetIsWellKept := by
  refine ⟨Env.powerOn_ok _ _ _ (fun p => ?_) (Ring.single_ok 0), ?_, ?_, ?_, ⟨rfl, rfl⟩, rfl⟩
  · fin_cases p <;> exact ⟨_, _, rfl⟩
  · constructor <;> decide
  · constructor <;> decide
  · constructor <;> decide

/-- A table item replaced by one with a property that every item has. -/
theorem forall_set {α : Type} {n : Nat} {C : α → Prop} {v : Vector α n} (h : ∀ i : Fin n, C v[i]) (k : Fin n) {x : α}
    (hx : C x) (i : Fin n) : C (v.set k x)[i] := by
  simp only [Fin.getElem_fin, Vector.getElem_set]
  split
  · exact hx
  · exact h i

theorem RequestEffect.ok {p : Port} {e e' : Env} {r : Request} (h : RequestEffect p e r e') (g : e.Ok) : e'.Ok := by
  cases h with
  | same r => exact g
  | link r f h => exact g.linkStep h
  | floor v h => exact { g with floors := forall_set (C := fun n => n ≤ 16) g.floors p h }
  | table t v h hv => exact { g with fills := hv, table := fun _ => h, unconfigured := fun h => by cases h }
  | staged v => exact { g with }
  | stations v h => exact { g with stations := fun _ => h }
  | recipes v => exact { g with }
  | profiles n l h => exact { g with profiles := forall_set (C := fun l => profileOk l = true) g.profiles n h }
  | classes c x h => exact { g with priorities := forall_set (C := fun x : ClassEntry => x.priority ≤ 15) g.priorities c h }
  | ring r h => exact { g with ring := h }
  | enables v => exact { g with }
  | timeouts v h =>
    exact { g with
      links := fun q => (h q).ok (g.links q)
      hold := fun q => by rw [(h q).state]; exact g.hold q }
  | opened v h =>
    refine { g with links := fun q => ?_, hold := fun q => ?_ }
    · obtain ⟨l, hl, hv⟩ := h q
      exact hv ▸ openLink_ok _ (hl.ok (g.links q))
    · obtain ⟨l, hl, hv⟩ := h q
      change v[q].state = .hold ↔ true = false
      simp [hv, Link.openLink]
  | started => exact { g with }
  | reset => exact { g with }
  | settings k c h =>
    exact { g with thresholds := forall_set (C := fun c : StandSettings => c.thresholdsOk = true) g.thresholds k h }
  | fill v h => exact { g with fills := h g.fills }

theorem EdgeEffect.ok {c : Encoder} {e e' : Env} (h : EdgeEffect c e e') (g : e.Ok) : e'.Ok := by
  obtain ⟨r, v, hr, hv⟩ := h
  exact { g with encoders := forall_set (C := EncoderRec.Ok) g.encoders c (hr.ok (g.encoders c)), fills := hv g.fills }

theorem Straps.ring_ok (x : Straps) : (Straps.ring x).Ok := Ring.single_ok _

/-- What a command makes of a well-kept environment is well kept. -/
theorem CommandEffect.ok {e e' : Env} {c : Instr} (h : CommandEffect e c e') (g : e.Ok) : e'.Ok := by
  cases h with
  | same c => exact g
  | powerOn x e1 e2 e3 => exact Env.powerOn_ok e1 e2 e3 (fun p => ⟨_, _, Straps.links_eq x p⟩) (Straps.ring_ok x)
  | edge c levels e' h => exact h.ok g
  | close => exact { g with encoders := fun c => closePeriod_encoder e c ▸ (g.encoders c).close }
  | reach c t => exact g.reach t
  | reoffer t n => exact { g with }
  | link c p f h => exact g.linkStep h
  | arrival p b bytes f h hf =>
    have hl := openLink_ok e.now (g.links p)
    refine g.updLink p (hf.ok hl) ?_
    rw [hf.state, ← g.hold p]
    exact iff_of_false (by simp [Link.openLink]) h
  | down p t h =>
    refine (g.reach t).updLink p (downLink_ok (g.links p)) ?_
    have := g.hold p
    simp_all
  | request p r q rest e' c body h he => exact (he.ok (g.popped h)).answered p q c body

/-- Settles O53: a millisecond changes the time alone, and a command is one of `CommandEffect`. -/
theorem environmentKept : Obligations.EnvironmentKept := by
  intro s t g h
  unfold step at h
  split at h
  · cases h; exact { g with }
  · exact (exec_effect _ _ t h).ok g

/-! ## What only power-on takes back -/

/-- An environment with what is never taken back short of power-on: the configuration, the opening, and each port's strap
and role. -/
structure Env.Lasting (e e' : Env) : Prop where
  configured : e.configured = true → e'.configured = true
  partOpen : e.partOpen = true → e'.partOpen = true
  ports : ∀ p : Port, e'.links[p].role = e.links[p].role ∧ e'.links[p].band = e.links[p].band

theorem Env.Lasting.trans {a b c : Env} (h : a.Lasting b) (g : b.Lasting c) : a.Lasting c :=
  ⟨fun x => g.configured (h.configured x), fun x => g.partOpen (h.partOpen x), fun p =>
    ⟨(g.ports p).1.trans (h.ports p).1, (g.ports p).2.trans (h.ports p).2⟩⟩

/-- An environment that differs in none of these. -/
theorem Env.Lasting.of_eq {e e' : Env} (hc : e'.configured = e.configured) (ho : e'.partOpen = e.partOpen)
    (hl : e'.links = e.links) : e.Lasting e' :=
  ⟨fun h => hc ▸ h, fun h => ho ▸ h, fun p => by simp only [hl, and_self]⟩

theorem Env.Lasting.updLink (e : Env) (p : Port) {f : Link → Link} (hr : (f e.links[p]).role = e.links[p].role)
    (hb : (f e.links[p]).band = e.links[p].band) : e.Lasting (e.updLink p f) :=
  ⟨id, id, forall_updLink (C := fun q l => l.role = e.links[q].role ∧ l.band = e.links[q].band) (fun _ => ⟨rfl, rfl⟩)
    ⟨hr, hb⟩⟩

theorem Env.Lasting.linkStep {e : Env} {p : Port} {f : Link → Link} (h : LinkStep e.links[p] (f e.links[p])) :
    e.Lasting (e.updLink p f) := .updLink e p h.role h.band

theorem RequestEffect.lasting {p : Port} {e e' : Env} {r : Request} (h : RequestEffect p e r e') : e.Lasting e' := by
  cases h with
  | link r f h => exact .linkStep h
  | table t v h hv => exact ⟨fun _ => rfl, id, fun _ => ⟨rfl, rfl⟩⟩
  | timeouts v h => exact ⟨id, id, fun q => ⟨(h q).role, (h q).band⟩⟩
  | opened v h =>
    refine ⟨id, fun _ => rfl, fun q => ?_⟩
    obtain ⟨l, hl, hv⟩ := h q
    change v[q].role = _ ∧ v[q].band = _
    rw [hv]
    exact ⟨hl.role, hl.band⟩
  | _ => exact .of_eq rfl rfl rfl

theorem RequestEffect.encoders {p : Port} {e e' : Env} {r : Request} (h : RequestEffect p e r e') :
    e'.encoders = e.encoders := by
  cases h <;> rfl

theorem CommandEffect.lasting {e e' : Env} {c : Instr} (h : CommandEffect e c e')
    (hc : ∀ x e1 e2 e3, c ≠ .powerOnReset x e1 e2 e3) : e.Lasting e' := by
  cases h with
  | powerOn x e1 e2 e3 => exact absurd rfl (hc x e1 e2 e3)
  | edge c levels e' h => obtain ⟨r, v, _, _⟩ := h; exact .of_eq rfl rfl rfl
  | link c p f h => exact .linkStep h
  | arrival p b bytes f h hf => exact .updLink e p hf.role hf.band
  | down p t h =>
    exact Env.Lasting.trans (b := e.reach t) (.of_eq rfl rfl rfl)
      (.updLink (e.reach t) p (f := fun l => { l with state := .down, timer := none }) rfl rfl)
  | request p r q rest e' c body h he =>
    exact ((Env.Lasting.linkStep (popHead_step _ h)).trans he.lasting).trans (.linkStep (conclude_step _ q c body))
  | _ => exact .of_eq rfl rfl rfl

/-- A field check of R3 on one numbered field. -/
theorem LineTable.fieldsOk_field {t : LineTable} (h : t.fieldsOk = true) {f : Nat} {r : Nat × Nat} {v : Nat}
    (hr : tableRanges[f]? = some r) (hv : t.fields[f]? = some v) : r.1 ≤ v ∧ v ≤ r.2 := by
  simp only [LineTable.fieldsOk, allInRange, Bool.and_eq_true, List.all_eq_true] at h
  have hz : (r, v) ∈ tableRanges.zip t.fields := by
    refine List.mem_of_getElem? (i := f) ?_
    simp [List.getElem?_zip_eq_some, hr, hv]
  simpa [inRange] using h.1.1 _ hz

theorem LineTable.fields_pitch (t : LineTable) (c : Encoder) : t.fields[17 + c.val]? = some t.pitch[c] := by
  simp [LineTable.fields, List.getElem?_append]
  fin_cases c <;> rfl

/-- A well-kept pitch is at most the greatest of its range; before configuration it is 0. -/
theorem Env.Ok.pitch_le {e : Env} (h : e.Ok) (c : Encoder) : e.table.pitch[c] ≤ 16777215 := by
  cases hc : e.configured with
  | true =>
    have hr : tableRanges[17 + c.val]? = some (256, 16777215) := by fin_cases c <;> rfl
    exact (LineTable.fieldsOk_field (h.table hc) hr (e.table.fields_pitch c)).2
  | false => rw [h.unconfigured hc]; simp [LineTable.powerOn]

/-- No odometer but that of an edge's own encoder runs, and that one forward by at most 66 mm (R7, R9). -/
theorem CommandEffect.odometer {e e' : Env} {c : Instr} (h : CommandEffect e c e') (g : e.Ok)
    (hc : ∀ x e1 e2 e3, c ≠ .powerOnReset x e1 e2 e3) (k : Encoder) :
    ∃ n ≤ 66, e'.encoders[k].odo = e.encoders[k].odo + BitVec.ofNat 32 n ∧
      (n ≠ 0 → ∃ levels, c = .quadratureEdge k levels) := by
  have still : e'.encoders[k].odo = e.encoders[k].odo → ∃ n ≤ 66,
      e'.encoders[k].odo = e.encoders[k].odo + BitVec.ofNat 32 n ∧ (n ≠ 0 → ∃ levels, c = .quadratureEdge k levels) :=
    fun h => ⟨0, by omega, by rw [h]; simp, fun h => absurd rfl h⟩
  cases h with
  | powerOn x e1 e2 e3 => exact absurd rfl (hc x e1 e2 e3)
  | edge c levels e' h =>
    obtain ⟨r, v, hr, _⟩ := h
    by_cases hk : k = c
    · subst hk
      obtain ⟨n, hn, ho⟩ := hr.advance (g.pitch_le k) (g.encoders k).residue
      refine ⟨n, hn, ?_, fun _ => ⟨levels, rfl⟩⟩
      change (e.setEncoder k r).encoders[k].odo = _
      rw [Env.setEncoder_self]
      exact ho
    · exact still (congrArg EncoderRec.odo (Env.setEncoder_other e c k r hk))
  | close => exact still (by rw [closePeriod_encoder]; rfl)
  | request p r q rest e' c body h he =>
    have he : (answered e' p q c body).encoders = e.encoders := he.encoders
    exact still (by simp only [he])
  | _ => exact still rfl

/-- Settles O57, from what `CommandEffect` says of the ports and of the odometers. -/
theorem onlyPowerOnTurnsBack : Obligations.OnlyPowerOnTurnsBack := by
  intro c s t g hc h
  have he := exec_effect c s t h
  obtain ⟨h1, h2, h3⟩ := he.lasting hc
  exact ⟨h1, h2, h3, he.odometer g hc⟩

/-! ## Each table changes by its own request -/

/-- Which table and setting a request has changed. -/
structure RequestChanges (r : Request) (e e' : Env) : Prop where
  table : e'.table ≠ e.table ∨ e'.configured ≠ e.configured → r = .lineTable
  stations : e'.stations ≠ e.stations ∨ e'.staged ≠ e.staged → r = .stationSet
  recipes : e'.recipes ≠ e.recipes → r = .recipeSet
  profiles : e'.profiles ≠ e.profiles → r = .profileSet
  settings : e'.settings ≠ e.settings → r = .standSet
  classes : e'.classes ≠ e.classes → r = .classSet
  ring : e'.ring ≠ e.ring → r = .relaySet
  alarmEnables : e'.alarmEnables ≠ e.alarmEnables → r = .alarmEnable
  baseFloors : e'.baseFloors ≠ e.baseFloors → r = .floor
  partOpen : e'.partOpen ≠ e.partOpen → r = .openPart
  run : e'.run ≠ e.run → r = .start ∨ r = .lineReset
  bridges : e'.bridges ≠ e.bridges → r = .bridgeSet ∨ r = .lineTable

/-- Each form of a request's effect sets at most the items that are its request's own. -/
theorem RequestEffect.changes {p : Port} {e e' : Env} {r : Request} (h : RequestEffect p e r e') :
    RequestChanges r e e' := by
  cases h <;> constructor <;> simp

/-- Two environments with the same tables and settings, the fills and levels apart. -/
structure Env.SameTables (e e' : Env) : Prop where
  table : e'.table = e.table
  configured : e'.configured = e.configured
  stations : e'.stations = e.stations
  staged : e'.staged = e.staged
  recipes : e'.recipes = e.recipes
  profiles : e'.profiles = e.profiles
  settings : e'.settings = e.settings
  classes : e'.classes = e.classes
  ring : e'.ring = e.ring
  alarmEnables : e'.alarmEnables = e.alarmEnables
  baseFloors : e'.baseFloors = e.baseFloors
  partOpen : e'.partOpen = e.partOpen
  run : e'.run = e.run

/-- A command is a request that changes its own tables, or changes none, and the bridges only as an edge. -/
theorem CommandEffect.changes {e e' : Env} {c : Instr} (h : CommandEffect e c e')
    (hc : ∀ x e1 e2 e3, c ≠ .powerOnReset x e1 e2 e3) :
    (∃ p r, c = Request.command p r ∧ RequestChanges r e e') ∨
    (e.SameTables e' ∧ (e'.bridges ≠ e.bridges → ∃ k levels, c = .quadratureEdge k levels)) := by
  cases h with
  | powerOn x e1 e2 e3 => exact absurd rfl (hc x e1 e2 e3)
  | edge c levels e' h =>
    obtain ⟨r, v, _, _⟩ := h
    exact .inr ⟨by constructor <;> rfl, fun _ => ⟨c, levels, rfl⟩⟩
  | request p r q rest e' c body h he =>
    exact .inl ⟨p, r, rfl, { he.changes with }⟩
  | _ => exact .inr ⟨by constructor <;> rfl, fun h => absurd rfl h⟩

/-- Settles O58: a command is a request that sets its own tables, or sets none (`CommandEffect.changes`). -/
theorem tablesChangeByTheirRequests : Obligations.TablesChangeByTheirRequests := by
  intro c s t hc h
  rcases (exec_effect c s t h).changes hc with ⟨p, r, rfl, g⟩ | ⟨g, hb⟩
  · have own : ∀ {x : Request}, r = x → ∃ q, Request.command p r = Request.command q x := fun h => ⟨p, by rw [h]⟩
    refine ⟨fun h => own (g.table h), fun h => own (g.stations h), fun h => own (g.recipes h),
      fun h => own (g.profiles h), fun h => own (g.settings h), fun h => own (g.classes h), fun h => own (g.ring h),
      fun h => own (g.alarmEnables h), fun h => own (g.baseFloors h), fun h => own (g.partOpen h), fun h => ⟨p, ?_⟩,
      fun h => .inr ⟨p, ?_⟩⟩
    · exact (g.run h).imp (congrArg _) (congrArg _)
    · exact (g.bridges h).imp (congrArg _) (congrArg _)
  · simp only [g.table, g.configured, g.stations, g.staged, g.recipes, g.profiles, g.settings, g.classes, g.ring,
      g.alarmEnables, g.baseFloors, g.partOpen, g.run, ne_eq, not_true_eq_false, or_self, false_implies, true_and]
    exact fun h => .inl (hb h)

end Sys2Proof.Machine
end

section
/-! SUPPORT. The odometer unit's commands as the statements give them: edges, reverse and forward counts (R6 to R9, R11), the
period close (R10), and BRIDGE_SET with what a changed fill brings about (R11 to R14). -/

namespace Sys2Proof.Machine

/-! ## Edges and reverse counts -/

theorem decodeEdge_spec : ∀ a b c d : Bool,
    (decodeEdge ⟨a, b⟩ ⟨c, d⟩ = .unchanged ↔ (⟨a, b⟩ : QuadLevels) = ⟨c, d⟩) ∧
    (decodeEdge ⟨a, b⟩ ⟨c, d⟩ = .undirected ↔ a ≠ c ∧ b ≠ d) ∧
    (decodeEdge ⟨a, b⟩ ⟨c, d⟩ = .forward ↔ decodeEdge ⟨c, d⟩ ⟨a, b⟩ = .reverse) ∧
    (decodeEdge ⟨a, b⟩ ⟨c, d⟩ = .forward ↔ (a ≠ c ∧ b = d ∧ c ≠ d) ∨ (a = c ∧ b ≠ d ∧ c = d)) := by decide

/-- An environment whose decoder of encoder `c` has taken levels as its reference (R6). -/
def Env.refer (e : Env) (c : Encoder) (levels : QuadLevels) : Env :=
  e.setEncoder c { e.encoders[c] with levels := levels }

@[simp] theorem Env.refer_table (e : Env) (c : Encoder) (levels : QuadLevels) : (e.refer c levels).table = e.table := rfl

theorem Env.refer_encoder (e : Env) (c : Encoder) (levels : QuadLevels) :
    (e.refer c levels).encoders[c] = { e.encoders[c] with levels := levels } := Env.setEncoder_self e c _

@[simp] theorem Env.setEncoder_refer (e : Env) (c : Encoder) (levels : QuadLevels) (r : EncoderRec) :
    (e.refer c levels).setEncoder c r = e.setEncoder c r := Env.setEncoder_setEncoder e c _ r

section
variable {c : Encoder} {levels : QuadLevels} {s : State}

/-- An edge counts the change of levels, in an environment whose decoder has taken the levels as its reference (R6). -/
theorem exec_edge :
    exec (.quadratureEdge c levels) s =
      .next (s.finish (count (s.env.refer c levels) c (decodeEdge s.env.encoders[c].levels levels) s.work)) := rfl

/-- A count at pitch 0, and a change that is no count, take no distance (R6). -/
theorem count_none {e : Env} {edge : Edge} (w : Work)
    (h : e.table.pitch[c] = 0 ∨ edge = .undirected ∨ edge = .unchanged) : count e c edge w = (e, w) := by
  unfold count
  rcases h with h | rfl | rfl
  · simp only [h, if_true]
  · simp only [ite_self]
  · simp only [ite_self]

theorem exec_edge_none (hw : s.work.atRest)
    (h : s.env.table.pitch[c] = 0 ∨ decodeEdge s.env.encoders[c].levels levels = .undirected ∨
      decodeEdge s.env.encoders[c].levels levels = .unchanged) :
    exec (.quadratureEdge c levels) s =
      .next { s with env := s.env.refer c levels } := by
  rw [exec_edge, count_none (e := s.env.refer c levels) s.work h]
  simp [State.finish, settle_atRest _ _ hw]

/-- A reverse count (R8): the debt grows up to its clamp, where it raises REVERSE. -/
theorem count_reverse (e : Env) (w : Work) (h : 0 < e.table.pitch[c]) :
    count e c .reverse w =
      (e.setEncoder c (reverseCount e.table.pitch[c] e.encoders[c]).1,
        raiseWhere (reverseCount e.table.pitch[c] e.encoders[c]).2
          (e.setEncoder c (reverseCount e.table.pitch[c] e.encoders[c]).1) .reverse (.encoder c) w) := by
  have h0 : ¬e.table.pitch[c] = 0 := by omega
  simp only [count, if_neg h0, raiseWhere]

theorem exec_edge_reverse (hd : decodeEdge s.env.encoders[c].levels levels = .reverse)
    (hp : 0 < s.env.table.pitch[c]) (hw : s.work.calm) :
    let r := s.env.encoders[c]
    let debt := min (r.debt + s.env.table.pitch[c]) 128000000
    let e := s.env.setEncoder c { r with levels := levels, debt := debt }
    exec (.quadratureEdge c levels) s =
      .next { s with
        env := e
        work := raiseWhere (decide (r.debt < 128000000) && decide (debt = 128000000)) e .reverse (.encoder c) s.work } := by
  intro r debt e
  rw [exec_edge, hd, count_reverse (s.env.refer c levels) _ hp, Env.refer_encoder, Env.setEncoder_refer]
  simp only [State.finish, settle_atRest _ _ ((raiseWhere_frame _ _ _ _ s.work).calm hw).atRest]
  rfl

end

/-- Settles O5: the directions by their 16 cases, the counts by `exec_edge_none` and `exec_edge_reverse`. -/
theorem edgesAndReverseCounts : Obligations.EdgesAndReverseCounts := by
  refine ⟨⟨fun x y => ?_, fun c levels s hw h => exec_edge_none hw h⟩, ?_⟩
  · obtain ⟨a, b⟩ := x
    obtain ⟨c, d⟩ := y
    exact decodeEdge_spec a b c d
  · intro c levels s r debt hd hp hw
    refine ⟨_, exec_edge_reverse hd hp hw, rfl, rfl, fun h => ⟨raiseWhere_frame _ _ _ _ _, ?_⟩, fun h => if_neg ?_⟩
    · exact raiseWhere_hasAlarm (by simpa [r, debt] using h) _ _ _ _
    · simpa [r, debt] using h

/-! ## Forward counts -/

section
variable {c : Encoder} {levels : QuadLevels} {s : State}

/-- The encoder of an edge after a forward count, its odometer apart (R7). -/
def counted (s : State) (c : Encoder) (levels : QuadLevels) : EncoderRec :=
  let r := s.env.encoders[c]
  { r with
    levels := levels, debt := r.debt - s.env.table.pitch[c],
    residue := (r.residue + (s.env.table.pitch[c] - r.debt)) % 256000 }

/-- The whole millimetres of a forward count (R7). -/
def countedMm (s : State) (c : Encoder) : Nat :=
  (s.env.encoders[c].residue + (s.env.table.pitch[c] - s.env.encoders[c].debt)) / 256000

theorem count_forward (hp : 0 < s.env.table.pitch[c]) (hr : s.env.encoders[c].residue < 256000) (w : Work) :
    count (s.env.refer c levels) c .forward w =
      if countedMm s c = 0 then (s.env.setEncoder c (counted s c levels), w)
      else advance (s.env.setEncoder c (counted s c levels)) c (countedMm s c) w := by
  have h0 : ¬s.env.table.pitch[c] = 0 := by omega
  have hc : forwardCount s.env.table.pitch[c] (s.env.refer c levels).encoders[c] =
      (counted s c levels, countedMm s c) := by
    rw [Env.refer_encoder]
    exact forwardCount_eq _ _ hr
  simp only [count, Env.refer_table, if_neg h0, hc, Env.setEncoder_refer]

/-- An edge that counts forward by less than a millimetre in all (R7). -/
theorem exec_edge_forward_none (hd : decodeEdge s.env.encoders[c].levels levels = .forward)
    (hp : 0 < s.env.table.pitch[c]) (hr : s.env.encoders[c].residue < 256000) (hn : countedMm s c = 0)
    (hw : s.work.atRest) :
    exec (.quadratureEdge c levels) s = .next { s with env := s.env.setEncoder c (counted s c levels) } := by
  rw [exec_edge, hd, count_forward hp hr, if_pos hn]
  simp [State.finish, settle_atRest _ _ hw]

/-- An edge that advances an odometer (R9). -/
theorem exec_edge_forward (hd : decodeEdge s.env.encoders[c].levels levels = .forward)
    (hp : 0 < s.env.table.pitch[c]) (hr : s.env.encoders[c].residue < 256000) (hn : 0 < countedMm s c) :
    exec (.quadratureEdge c levels) s =
      .next (s.finish (advance (s.env.setEncoder c (counted s c levels)) c (countedMm s c) s.work)) := by
  rw [exec_edge, hd, count_forward hp hr, if_neg (by omega)]

/-- A fill within its limit, shifted by an advance and clamped (R11): it falls by an advance of E3 and rises by one of its
own encoder. -/
theorem fillShift_clamped (c : Encoder) (k : Bridge) (n : Nat) {fill top : Nat} (h : fill ≤ top) :
    min ((fill : Int) + fillShift c k n).toNat top =
      if c = 2 then fill - n else if c.val = k.val then min (fill + n) top else fill := by
  obtain rfl | rfl := bridge_cases k <;> fin_cases c <;> simp [fillShift] <;> omega

/-- Where a fill within its limit goes at an advance (R11), and its level with it (R13). -/
theorem setBridge_shift (e : Env) (c : Encoder) (k : Bridge) (n : Nat) (h : e.bridges[k].fill ≤ e.table.fillMax[k]) :
    let b := e.bridges[k]
    let fill := if c = 2 then b.fill - n else if c.val = k.val then min (b.fill + n) e.table.fillMax[k] else b.fill
    setBridge e k ((b.fill : Int) + fillShift c k n) false =
      ⟨fill, if fill = b.fill then b.level else
        bridgeLevel e.table.lowThreshold[k] e.table.highThreshold[k] e.table.levelHysteresis[k] fill b.level⟩ := by
  intro b fill
  have hfill : min ((b.fill : Int) + fillShift c k n).toNat e.table.fillMax[k] = fill := fillShift_clamped c k n h
  simp only [setBridge, hfill, Bool.false_eq_true, or_false, ne_eq, ite_not]
  rfl

end

/-- The blocks that follow the fills of an advance, in the order in which R9 lists them (log entry 6). -/
theorem advanceBlocks_eq (e : Env) (c : Encoder) (w : Work) :
    advanceBlocks e c w =
      let w1 := if c = 2 then w.checkFar e.b else w
      let w2 := evaluate e (arrive e) false (w1.track.marks.map Mark.entry) none w1
      let w3 := if c = 2 ∧ w2.seq.noPlace = true then extendChain e w2 else w2
      let w4 := settle e (standAdvance e c w3).oweDue
      if c = 2 then settle e (sheetAdvance e w4) else w4 := by
  simp only [advanceBlocks, evaluateAll, proposalTest, Bool.and_eq_true, decide_eq_true_eq]

end Sys2Proof.Machine

namespace Sys2Proof.Proofs

open Sys2Proof.Machine

/-- Settles O6: the fills by `advanceFills_both`, and the blocks after them by `advanceBlocks_eq`. The theorem stands apart
from the model's own `forwardCount`. -/
theorem forwardCount : Obligations.ForwardCount := by
  intro c levels s r pitch total n r1 hd hp hmax hr hfit
  have both := advanceFills_both (s.env.setEncoder c (counted s c levels)) c n s.work
  rw [Env.setEncoder_self, Env.setEncoder_setEncoder] at both
  refine ⟨advance_le hmax hr, fun hn hw => ?_, fun hn => ?_, fun hn => ?_⟩
  · have h1 : r1 = counted s c levels := by
      change { counted s c levels with odo := r.odo + BitVec.ofNat 32 n } = _
      rw [hn, BitVec.add_zero]
      rfl
    rw [h1]
    exact exec_edge_forward_none hd hp hr hn hw
  · refine ⟨_, exec_edge_forward hd hp hr hn, rfl, both.env, fun k => ?_⟩
    exact (both.bridge k).trans (setBridge_shift _ c k n (hfit k))
  · refine ⟨_, exec_edge_forward hd hp hr hn, rfl, both.frame, ?_⟩
    exact congrArg (settle _) (advanceBlocks_eq _ _ _)

end Sys2Proof.Proofs
end

section
/-! SUPPORT. The period close (R10), with what an evaluation of the fire conditions and a due test leave alone where there is
nothing for them to do. -/

namespace Sys2Proof.Machine

/-- A stand that is not in WATCH has no fire conditions to evaluate (R76). -/
theorem evalFire_unwatched (e : Env) (sudden : Bool) {k : Stand} {w : Work} (h : w.stands[k].phase ≠ .watch) :
    evalFire e sudden k w = w :=
  (evalFire_cases e sudden k w).resolve_right fun g => h g.1

/-- With no stand in WATCH the fire evaluation changes nothing (R76). -/
theorem evalFires_unwatched (e : Env) {w : Work} (h : ∀ k : Stand, w.stands[k].phase ≠ .watch) : evalFires e w = w := by
  unfold evalFires
  induction allStands with
  | nil => rfl
  | cons k l ih => rw [List.foldl_cons, evalFire_unwatched e false (h k), ih]

/-- With no uncommitted change there is nothing to propose (R113). -/
theorem dueMark_none (e : Env) {w : Work} (h : w.track.uncommittedChanges = []) : dueMark e w = none := by
  have hp : w.track.plannedChanges = [] := by
    rw [Track.uncommittedChanges, List.filter_eq_nil_iff] at h
    refine List.filter_eq_nil_iff.mpr fun m hm => ?_
    have := h m hm
    simp only [Mark.uncommitted, Bool.or_eq_true, not_or] at this
    exact this.1
  simp [dueMark, hp]

/-- With no proposal outstanding and no uncommitted change a due test finds nothing to do (R113). -/
theorem dueTest_none (e : Env) {w : Work} (hp : w.prop.list = []) (hu : w.track.uncommittedChanges = []) :
    dueTest e w = { w with owed := { w.owed with due := false } } := by
  simp [dueTest, guardAll, hu, retryWaiting, hp, unsettled, dueMark_none]

/-- A round where only a due test is owed makes it (R113). -/
theorem settleRound_due (e : Env) {w : Work} (hp : w.prop.list = []) (hx : w.owed.extend = false)
    (hd : w.owed.due = true) : settleRound e w = some (dueTest e w) := by
  simp [settleRound, takeEffect, hp, hx, hd]

/-- An owed due test that finds nothing to do leaves a part between two events as it was. -/
theorem settle_oweDue_none (e : Env) {w : Work} (hw : w.calm) (hu : w.track.uncommittedChanges = []) :
    settle e w.oweDue = w := by
  obtain ⟨hp, ho⟩ := hw
  have test : dueTest e w.oweDue = w := by
    have clear : (⟨w.owed.extend, false⟩ : Owed) = w.owed := by rw [ho]
    rw [dueTest_none e (w := w.oweDue) hp hu]
    change { w with owed := ⟨w.owed.extend, false⟩ } = w
    rw [clear]
  have first : settleRound e w.oweDue = some w := by
    rw [settleRound_due e (w := w.oweDue) hp (congrArg Owed.extend ho) rfl, test]
  have second : settleRound e w = none := settleRound_atRest e w (Work.calm.atRest ⟨hp, ho⟩)
  unfold settle Config.settleBound
  simp only [settleLoop, first, second]

/-- Settles O7: where no stand is in WATCH and nothing is to be proposed, the evaluations that follow do nothing. -/
theorem speedPeriod : Obligations.SpeedPeriod := by
  intro s
  refine ⟨_, rfl, rfl, rfl, fun c => closePeriod_encoder s.env c, rfl, fun hw hk hu => ?_⟩
  change settle _ (evalFires _ s.work).oweDue = s.work
  rw [evalFires_unwatched _ hk, settle_oweDue_none _ hw hu]

end Sys2Proof.Machine
end

section
/-! SUPPORT. LINE_TABLE (R2 to R5) and BRIDGE_SET (R14): what their bodies say, when they are refused, and what they do. -/

namespace Sys2Proof.Machine

/-! ## BRIDGE_SET -/

theorem bridgeOf_none {n : Nat} (h : n ≠ 1 ∧ n ≠ 2) : bridgeOf n = none := by
  unfold bridgeOf
  split <;> simp_all

theorem bridgeOf_bridge (k : Bridge) : bridgeOf (k.val + 1) = some k := by fin_cases k <;> rfl

/-- What BRIDGE_SET does for a bridge (R14). -/
theorem applyBridgeSet_bridge (e : Env) (w : Work) {body : List Byte} {k : Bridge} {v : Nat}
    (h : exact (getNats [1, 4] body) = some [k.val + 1, v]) :
    applyBridgeSet e w body =
      ⟨.ok, putNat 3 (min v e.table.fillMax[k]), { e with bridges := e.bridges.set k (setBridge e k v true) },
        afterFill { e with bridges := e.bridges.set k (setBridge e k v true) } (setFill e k v true w).2⟩ := by
  have hfill : (setFill e k v true w).1.bridges[k].fill = min v e.table.fillMax[k] := by
    rw [setFill_bridge, if_pos rfl, setBridge_fill, Int.toNat_natCast]
  simp only [applyBridgeSet, h, bridgeOf_bridge, hfill]
  rw [setFill_env]

/-- Settles O26: BRIDGE_SET is `applyBridgeSet_bridge`, and a fill set anywhere is one of the `setFill_` lemmas. -/
theorem bridgeFills : Obligations.BridgeFills := by
  refine ⟨fun s p q rest body n v hq hb hw => ⟨fun hn => ?_, ?_⟩, fun e k v always w hw => ?_⟩
  · refine congrArg Host.Outcome.next (applyHead_refused applyBridgeSet .range hq hw ?_)
    simp only [applyBridgeSet, hb, bridgeOf_none hn]
  · rintro k rfl fill level e w w1
    have hx : setBridge (popped s.env p rest) k v true = ⟨fill, level⟩ := by
      simp [setBridge, fill, level, popped]
    refine congrArg Host.Outcome.next ((applyHead_of_head applyBridgeSet hq).trans ?_)
    have he : { popped s.env p rest with bridges := (popped s.env p rest).bridges.set k ⟨fill, level⟩ } = e := rfl
    have hf : min v (popped s.env p rest).table.fillMax[k] = fill := rfl
    rw [applyBridgeSet_bridge _ _ hb, hx, he, hf]
    simp only [afterFill, evaluateAll, proposalTest, appliedState, w1, w]
  · intro b fill level x
    have hx : setBridge e k v always = ⟨fill, level⟩ := rfl
    refine ⟨setFill_env e k v always w, setFill_frame e k v always w, fun h g => setFill_empty w h g,
      fun h g => setFill_full w h g, fun h g => setFill_low w h g, fun h g => setFill_high w h g,
      fun h g => setFill_unmoved w h g⟩

end Sys2Proof.Machine
end

section
/-! SUPPORT. LINE_TABLE (R2 to R5): what its body reads as, what the candidate must meet, and what its acceptance does. -/

namespace Sys2Proof.Machine

/-! ## The body -/

/-- A field number set in a table is that field of the table's fields, and no other (R164). -/
theorem LineTable.setField_fields (t : LineTable) (f v : Nat) : (t.setField f v).fields = t.fields.set f v := by
  have hl : t.fields.length = 34 := by simp [LineTable.fields]
  unfold LineTable.setField
  split
  case h_35 =>
    simp only [imp_false] at *
    rw [List.set_eq_of_length_le (by omega)]
  all_goals simp [LineTable.fields, Vector.toList_set]

/-- A number read from the first bytes is read from them whatever follows. -/
theorem getNat_append : ∀ {n : Nat} {bs rest : List Byte} {v : Nat} (tail : List Byte),
    getNat n bs = some (v, rest) → getNat n (bs ++ tail) = some (v, rest ++ tail)
  | 0, bs, rest, v, tail, h => by simp_all [getNat]
  | n + 1, [], rest, v, tail, h => by simp [getNat] at h
  | n + 1, b :: bs, rest, v, tail, h => by
    simp only [getNat] at h
    split at h
    · next x r hx =>
      obtain ⟨rfl, rfl⟩ := Prod.mk.inj (Option.some.inj h)
      simp [getNat, getNat_append tail hx]
    · cases h

theorem getSetting_append {widths : List Nat} {bs rest : List Byte} {x : TableSetting} (tail : List Byte)
    (h : getSetting widths bs = some (x, rest)) : getSetting widths (bs ++ tail) = some (x, rest ++ tail) := by
  unfold getSetting at h ⊢
  split at h
  · cases h
  · next f r hf =>
    simp only [getNat_append tail hf]
    split at h
    · cases h
    · next n hn =>
      obtain ⟨⟨v, r'⟩, hv, hx⟩ := Option.map_eq_some_iff.mp h
      obtain ⟨rfl, rfl⟩ := Prod.mk.inj hx
      simp [getNat_append tail hv]

/-- A setting whose field number is beyond the table is none. -/
theorem getSetting_unknown {n : Byte} (h : 34 ≤ n.toNat) (tail : List Byte) :
    getSetting tableWidths (n :: tail) = none := by
  have hw : tableWidths[n.toNat]? = none := List.getElem?_eq_none h
  simp [getSetting, getNat, hw]

/-- Entries read to the end of the bytes, followed by bytes that begin no entry, are not read. -/
theorem getAll_append {widths : List Nat} {tail : List Byte} (ht : tail ≠ []) (h : getSetting widths tail = none) :
    ∀ {n : Nat} {known : List Byte} {l : List TableSetting} (m : Nat), getAll (getSetting widths) n known = some l →
      getAll (getSetting widths) m (known ++ tail) = none
  | n, [], l, m, _ => by
    cases tail with
    | nil => exact absurd rfl ht
    | cons b tail => cases m <;> simp [getAll, h]
  | 0, b :: known, l, m, hk => by simp [getAll] at hk
  | n + 1, b :: known, l, 0, hk => rfl
  | n + 1, b :: known, l, m + 1, hk => by
    simp only [getAll] at hk
    split at hk
    · cases hk
    · next x rest hx =>
      obtain ⟨l', hl', _⟩ := Option.map_eq_some_iff.mp hk
      have hx := getSetting_append tail hx
      rw [List.cons_append] at hx ⊢
      simp only [getAll, hx, getAll_append ht h m hl', Option.map_none]

/-! ## The candidate -/

/-- The first station that does not fit a table is none exactly where each fits (R4). -/
theorem LineTable.unfitStation_none {t : LineTable} {v : Vector (Option Station) 24} :
    t.unfitStation v = none ↔ ∀ (i : StationIx) (st : Station), v[i] = some st → t.webFits st = true := by
  simp only [LineTable.unfitStation, List.find?_eq_none, mem_allStations, true_implies]
  refine forall_congr' fun i => ?_
  cases v[i] <;> simp

/-- R3 and R4 on a candidate, in the words of the rules. -/
theorem tableAccepted_iff {e : Env} {w : Work} {t : LineTable} :
    tableAccepted e w t = true ↔
      t.fieldsOk = true ∧
      (e.stationsValid = true → t.spansFit e.stations = true ∧
        ∀ (i : StationIx) (st : Station), e.stations[i] = some st → t.webFits st = true) ∧
      ∀ o ∈ w.seq.live, orderCheck t o.given = none := by
  simp only [tableAccepted, LineTable.fitsStations, Bool.and_eq_true, Bool.or_eq_true, Bool.not_eq_true',
    Option.isNone_iff_eq_none, LineTable.unfitStation_none, List.all_eq_true, and_assoc]
  cases e.stationsValid <;> simp

theorem tableOpen_iff {e : Env} {w : Work} : tableOpen e w = true ↔ e.run = .idle ∧ w.track.marks = [] := by
  simp [tableOpen, List.isEmpty_iff]

theorem namesDistinct_iff {l : List TableSetting} : namesDistinct l = true ↔ (l.map TableSetting.field).Nodup := by
  simp [namesDistinct]

/-! ## What LINE_TABLE answers -/

section
variable {e : Env} {w : Work} {body : List Byte}

theorem applyLineTable_state (h : e.run ≠ .idle ∨ w.track.marks ≠ []) :
    applyLineTable e w body = refuse .state e w := by
  have ho : tableOpen e w = false := by
    rw [← Bool.not_eq_true, tableOpen_iff]
    tauto
  simp [applyLineTable, ho]

theorem applyLineTable_body (hr : e.run = .idle) (hm : w.track.marks = [])
    (h : ∀ l, getSettings tableWidths body = some l → l = [] ∨ ¬(l.map TableSetting.field).Nodup) :
    applyLineTable e w body = refuse .range e w := by
  unfold applyLineTable
  rw [tableOpen_iff.mpr ⟨hr, hm⟩]
  simp only [Bool.not_true, Bool.false_eq_true, if_false]
  split
  · rfl
  · next l hl =>
    refine if_pos ?_
    rcases h l hl with rfl | hd
    · rfl
    · simp [← namesDistinct_iff] at hd
      simp [hd]

theorem applyLineTable_candidate {l : List TableSetting} (hr : e.run = .idle) (hm : w.track.marks = [])
    (hb : getSettings tableWidths body = some l) (hl : l ≠ []) (hd : (l.map TableSetting.field).Nodup) :
    applyLineTable e w body =
      if tableAccepted e w (candidateTable e.table l) = true then
        answerOk (acceptTable e (candidateTable e.table l) w).1 (acceptTable e (candidateTable e.table l) w).2
      else refuse .range e w := by
  have he : l.isEmpty = false := by simpa using hl
  simp only [applyLineTable, tableOpen_iff.mpr ⟨hr, hm⟩, hb, he, namesDistinct_iff.mpr hd]
  cases tableAccepted e w (candidateTable e.table l) <;> rfl

end

/-- A fill cut down to its limit, with its level evaluated (R5). -/
theorem setBridge_refit (e : Env) (k : Bridge) :
    setBridge e k ((e.bridges[k].fill : Int) + 0) true =
      ⟨min e.bridges[k].fill e.table.fillMax[k],
        bridgeLevel e.table.lowThreshold[k] e.table.highThreshold[k] e.table.levelHysteresis[k]
          (min e.bridges[k].fill e.table.fillMax[k]) e.bridges[k].level⟩ := by
  simp [setBridge]

/-- Settles O19: the three answers of LINE_TABLE, and for an accepted table `acceptTable_env`. -/
theorem lineTableRequest : Obligations.LineTableRequest := by
  refine ⟨LineTable.setField_fields, fun known tail l n hk hn => ?_, fun s p q rest body hq hw => ⟨fun h => ?_,
    fun hr hm h => ?_, ?_⟩⟩
  · exact getAll_append (by simp) (getSetting_unknown hn tail) _ hk
  · exact congrArg Host.Outcome.next (applyHead_refused _ _ hq hw.atRest (applyLineTable_state h))
  · exact congrArg Host.Outcome.next (applyHead_refused _ _ hq hw.atRest (applyLineTable_body hr hm h))
  · intro l hr hm hb hl hd c fits
    have happ := applyLineTable_candidate (e := popped s.env p rest) hr hm hb hl hd
    refine ⟨fun hf => congrArg Host.Outcome.next (applyHead_refused applyLineTable .range hq hw.atRest ?_), fun hf => ?_⟩
    · exact happ.trans (if_neg fun h => hf (tableAccepted_iff.mp h))
    · have both := acceptTable_env (popped s.env p rest) s.work c
      have hdone := applyHead_calm (f := applyLineTable) hq (happ.trans (if_pos (tableAccepted_iff.mpr hf)))
        (both.frame.calm hw)
      refine ⟨_, congrArg Host.Outcome.next hdone, rfl, congrArg (answered · p q .ok []) both.env, both.frame,
        fun k => ⟨(both.bridge k).trans (setBridge_refit _ k), fun h => both.full k (Nat.ne_of_gt h) ?_⟩⟩
      rw [both.bridge k]
      exact Nat.min_eq_right (by simpa [popped] using h.le)

end Sys2Proof.Machine
end

section
/-! SUPPORT. STATUS, READ and PEEK (R16, R152, R171): what they answer, and the notice that a PEEK shows. -/

namespace Sys2Proof.Machine

/-! ## The most urgent notice (R152) -/

theorem insertUrgent_head? (n : Notice) (l : List Notice) :
    (insertUrgent n l).head? = match l.head? with
      | some m => if m.priority < n.priority then some m else some n
      | none => some n := by
  cases l with
  | nil => rfl
  | cons m l =>
    simp only [insertUrgent, List.head?_cons]
    split <;> rfl

theorem mem_insertUrgent {n x : Notice} : ∀ {l : List Notice}, x ∈ insertUrgent n l ↔ x = n ∨ x ∈ l
  | [] => by simp [insertUrgent]
  | m :: l => by
    unfold insertUrgent
    split
    · simp [mem_insertUrgent, or_left_comm]
    · simp

theorem mem_byUrgency {x : Notice} : ∀ {l : List Notice}, x ∈ byUrgency l ↔ x ∈ l
  | [] => by simp [byUrgency]
  | n :: l => by
    have ih := mem_byUrgency (x := x) (l := l)
    simp only [byUrgency, List.foldr_cons, mem_insertUrgent, List.mem_cons] at ih ⊢
    rw [ih]

theorem byUrgency_cons (n : Notice) (l : List Notice) : byUrgency (n :: l) = insertUrgent n (byUrgency l) := rfl

/-- The head of a list in order of urgency is its most urgent notice, the first among equals. -/
theorem byUrgency_head? {n : Notice} {after : List Notice} (ha : ∀ m ∈ after, n.priority ≤ m.priority) :
    ∀ {before : List Notice}, (∀ m ∈ before, n.priority < m.priority) →
      (byUrgency (before ++ n :: after)).head? = some n
  | [], _ => by
    rw [List.nil_append, byUrgency_cons, insertUrgent_head?]
    split
    · next m hm =>
      have := ha m (mem_byUrgency.mp (List.mem_of_head? hm))
      exact if_neg (by omega)
    · rfl
  | m :: before, hb => by
    rw [List.cons_append, byUrgency_cons, insertUrgent_head?,
      byUrgency_head? ha fun x hx => hb x (List.mem_cons_of_mem m hx)]
    exact if_pos (hb m List.mem_cons_self)

theorem chosen_none {e : Env} {w : Work} {p : Port} (h : presentable e w p = []) : chosen e w p = none := by
  simp [chosen, h, byUrgency]

/-! ## What the reads answer -/

section
variable {e : Env} {w : Work} {p : Port}

theorem offered_busy (h : 4 ≤ w.notices.desks[p].taken.length) : offered e w p = (.busy, none, []) := if_pos h

theorem offered_empty (h : w.notices.desks[p].taken.length < 4) (hp : presentable e w p = []) :
    offered e w p = (.empty, none, []) := by
  unfold offered
  rw [if_neg (by simpa [Config.takenLimit] using h), chosen_none hp]

theorem offered_most_urgent {before after : List Notice} {n : Notice} (h : w.notices.desks[p].taken.length < 4)
    (hp : presentable e w p = before ++ n :: after) (hb : ∀ m ∈ before, n.priority < m.priority)
    (ha : ∀ m ∈ after, n.priority ≤ m.priority) :
    offered e w p = (.ok, some n, putTaken n ++ putNat 1 (before ++ after).length) := by
  unfold offered
  rw [if_neg (by simpa [Config.takenLimit] using h), chosen, hp, byUrgency_head? ha hb]
  simp

/-- A PEEK answers what is offered, and changes nothing. -/
theorem applyPeek_offered {c : Code} {x : Option Notice} {b : List Byte} (h : offered e w p = (c, x, b)) :
    applyPeek p e w [] = ⟨c, b, e, w⟩ := by
  simp [applyPeek, h]

/-- What a STATUS answers, and clears where asked (R171). -/
theorem applyStatus_report {body : List Byte} {clear : Bool} (h : getStatus body = some clear) :
    applyStatus p e w body =
      ⟨.ok, putPartStatus e w ++ putLinkStatus e.links[p] w.sheet.logOverwrite,
        if clear then e.updLink p Link.clearStatus else e, w⟩ := by
  simp only [applyStatus, h]

end

/-- Settles O14: each read answers through `applied`, with the notice of a PEEK from `offered_most_urgent`. -/
theorem readsAnswer : Obligations.ReadsAnswer := by
  intro s p q rest body hw e report
  have applied : ∀ {r : Request} {b x : List Byte} {f : Env → Work → List Byte → Answer} {c : Code} {e' : Env},
      HeadOf s p q rest r b → f e s.work b = ⟨c, x, e', s.work⟩ →
      Host.Outcome.next (applyHead p r f s) = (.next (appliedState s p q c x e' s.work) :
        Host.Outcome State Fault Refusal) := fun h hf => congrArg _ (applyHead_applied h hf hw)
  refine ⟨?_, fun h => ?_, fun h => applied h rfl, fun h ht => ?_, fun h ht hp => ?_, fun before n after h ht hp hb ha => ?_⟩
  · rintro (h | h)
    · exact applied h (applyStatus_report (clear := false) rfl)
    · exact applied h (applyStatus_report (clear := false) rfl)
  · exact applied h (applyStatus_report (clear := true) rfl)
  · exact applied h (applyPeek_offered (offered_busy ht))
  · exact applied h (applyPeek_offered (offered_empty ht hp))
  · exact applied h (applyPeek_offered (offered_most_urgent ht hp hb ha))

end Sys2Proof.Machine
end

section
/-! SUPPORT. Power-on (R161, R175): the roles that the straps give, and the strap conflicts raised in a part whose ports are
all in HOLD, so that each ALARM notice goes to the return list. -/

namespace Sys2Proof.Machine

/-! ## Roles (R161) -/

theorem takeRole_cases (held : List Role) (r : Role) :
    (takeRole held r = r ∧ (r = .view ∨ r ∉ held)) ∨ (takeRole held r = .view ∧ r ≠ .view ∧ r ∈ held) := by
  unfold takeRole
  split <;> simp_all

@[simp] theorem length_assignRoles : ∀ (held l : List Role), (assignRoles held l).length = l.length
  | _, [] => rfl
  | held, r :: l => by simp [assignRoles, length_assignRoles]

/-- What a port takes, given the roles held before it and the straps: its strapped role where that is VIEW or nobody before
has it, else VIEW; and what it takes, VIEW apart, nobody held before. -/
structure RoleTaken (held before : List Role) (strapped role : Role) : Prop where
  own : role = strapped ∨ role = .view
  iff : role = strapped ↔ strapped = .view ∨ strapped ∉ held ∧ strapped ∉ before
  new : role ≠ .view → role ∉ held

theorem assignRoles_get : ∀ {held l : List Role} {i : Nat} {r x : Role}, l[i]? = some r →
    (assignRoles held l)[i]? = some x → RoleTaken held (l.take i) r x
  | held, [], i, r, x, h, _ => by simp at h
  | held, s :: l, 0, r, x, h, g => by
    simp only [List.getElem?_cons_zero, Option.some.injEq, assignRoles] at h g
    subst h g
    rcases takeRole_cases held s with ⟨h1, h2⟩ | ⟨h1, h2, h3⟩
    · exact ⟨.inl h1, by simp [h1, h2], fun hv => by rw [h1] at hv ⊢; exact h2.resolve_left hv⟩
    · exact ⟨.inr h1, by simp [h1, h2, h3, h2.symm], fun hv => absurd h1 hv⟩
  | held, s :: l, i + 1, r, x, h, g => by
    simp only [List.getElem?_cons_succ, assignRoles] at h g
    obtain ⟨own, iff, new⟩ := assignRoles_get h g
    refine ⟨own, iff.trans ?_, fun hv => fun hx => new hv (by simp [hx])⟩
    rcases takeRole_cases held s with ⟨h1, h2⟩ | ⟨h1, h2, h3⟩
    · simp only [h1, List.mem_append, List.take_succ_cons, List.mem_cons]
      tauto
    · simp only [h1, List.mem_append, List.take_succ_cons, List.mem_cons]
      by_cases hr : r = s
      · subst hr; simp [h2, h3]
      · tauto

/-- Of two ports the later takes no role, VIEW apart, that the earlier took. -/
theorem assignRoles_distinct : ∀ {held l : List Role} {i j : Nat} {x y : Role}, i < j →
    (assignRoles held l)[i]? = some x → (assignRoles held l)[j]? = some y → y ≠ .view → x ≠ y
  | held, [], i, j, x, y, _, h, _, _ => by simp [assignRoles] at h
  | held, s :: l, 0, j + 1, x, y, _, h, g, hv => by
    simp only [List.getElem?_cons_zero, Option.some.injEq, List.getElem?_cons_succ, assignRoles] at h g
    have hj : j < l.length := by
      have := (List.getElem?_eq_some_iff.mp g).1
      simpa using this
    have new := (assignRoles_get (List.getElem?_eq_getElem hj) g).new hv
    rintro rfl
    exact new (by simp [h])
  | held, s :: l, i + 1, j + 1, x, y, hij, h, g, hv => by
    simp only [List.getElem?_cons_succ, assignRoles] at h g
    exact assignRoles_distinct (by omega) h g hv

/-- The strapped roles, in port order. -/
def Straps.strapped (x : Straps) : List Role := (Straps.bands x).toList.map bandRole

theorem Straps.strapped_get (x : Straps) (p : Port) : (Straps.strapped x)[p.val]? = some (bandRole (Straps.bands x)[p]) := by
  simp [Straps.strapped]

theorem Straps.role_get (x : Straps) (p : Port) : (assignRoles [] (Straps.strapped x))[p.val]? = some (Straps.role x p) := by
  have h : p.val < (assignRoles [] (Straps.strapped x)).length := by simp [Straps.strapped]
  rw [List.getElem?_eq_getElem h]
  change _ = some (((assignRoles [] (Straps.strapped x))[p.val]?).getD .view)
  rw [List.getElem?_eq_getElem h]
  rfl

theorem Straps.mem_take_strapped {x : Straps} {p : Port} {r : Role} :
    r ∈ (Straps.strapped x).take p.val ↔ ∃ q : Port, q < p ∧ bandRole (Straps.bands x)[q] = r := by
  have hl : (Straps.strapped x).length = 4 := by simp [Straps.strapped]
  rw [List.mem_take_iff_getElem]
  constructor
  · rintro ⟨i, hi, rfl⟩
    refine ⟨⟨i, by omega⟩, by simpa [Fin.lt_def] using (by omega), ?_⟩
    simp [Straps.strapped]
  · rintro ⟨q, hq, rfl⟩
    have hq : q.val < p.val := hq
    exact ⟨q.val, by omega, by simp [Straps.strapped]⟩

/-- Each port has its strapped role or VIEW; a role other than VIEW goes to the lowest-numbered port strapped to it. -/
theorem Straps.role_spec (x : Straps) (p : Port) :
    (Straps.role x p = bandRole (Straps.bands x)[p] ∨ Straps.role x p = .view) ∧
    (Straps.role x p = bandRole (Straps.bands x)[p] ↔ bandRole (Straps.bands x)[p] = .view ∨
      ∀ q : Port, q < p → bandRole (Straps.bands x)[q] ≠ bandRole (Straps.bands x)[p]) ∧
    (∀ q : Port, Straps.role x p = Straps.role x q → Straps.role x p ≠ .view → p = q) := by
  obtain ⟨own, iff, _⟩ := assignRoles_get (Straps.strapped_get x p) (Straps.role_get x p)
  refine ⟨own, iff.trans ?_, fun q h hv => ?_⟩
  · simp [Straps.mem_take_strapped]
  · rcases lt_trichotomy p.val q.val with hpq | hpq | hpq
    · exact absurd h (assignRoles_distinct hpq (Straps.role_get x p) (Straps.role_get x q) (h ▸ hv))
    · exact Fin.ext hpq
    · exact absurd h.symm (assignRoles_distinct hpq (Straps.role_get x q) (Straps.role_get x p) hv)

/-! ## The ring (R155) -/

theorem allPorts_split (p : Port) : allPorts = allPorts.take p.val ++ p :: allPorts.drop (p.val + 1) := by
  revert p; decide

theorem lt_of_mem_take_allPorts {p q : Port} : q ∈ allPorts.take p.val → q < p := by revert p q; decide

theorem Straps.ring_planner {x : Straps} {p : Port} (hp : bandRole (Straps.bands x)[p] = .planner)
    (hq : ∀ q : Port, q < p → bandRole (Straps.bands x)[q] ≠ .planner) : Straps.ring x = ⟨[p], p⟩ := by
  have h : allPorts.find? (fun p => decide (bandRole (Straps.bands x)[p] = .planner)) = some p :=
    List.find?_eq_some_iff_append.mpr ⟨by simpa using hp, _, _, allPorts_split p, fun q h =>
      by simpa using hq q (lt_of_mem_take_allPorts h)⟩
  simp only [Straps.ring, h, Option.getD_some]

theorem Straps.ring_none {x : Straps} (h : ∀ p : Port, bandRole (Straps.bands x)[p] ≠ .planner) :
    Straps.ring x = ⟨[0], 0⟩ := by
  have h : allPorts.find? (fun p => decide (bandRole (Straps.bands x)[p] = .planner)) = none :=
    List.find?_eq_none.mpr fun p _ => by simpa using h p
  simp only [Straps.ring, h, Option.getD_none]

end Sys2Proof.Machine
end

section
/-! SUPPORT. POWER_ON_RESET (R161, R175): the strap conflicts are raised while every port is in HOLD, so that each ALARM
notice goes to the return list and none is dropped. -/

namespace Sys2Proof.Machine

/-! ## Posting while no port is OPEN -/

section
variable {e : Env} (closed : ∀ p : Port, e.links[p].state ≠ .opened)
include closed

/-- Where no port is OPEN a walk places nothing (R156). -/
theorem walk_closed (w : Work) (priority : Nat) : ∀ (n : Nat) (lap : Bool) (p : Port),
    (walk e w priority n lap p).1 = none
  | 0, _, _ => rfl
  | n + 1, lap, p => by
    have ha : accepts e w priority p = false := by simp only [accepts, closed p, decide_false, Bool.false_and]
    simp only [walk, ha]
    repeat' split
    · contradiction
    · exact walk_closed w priority n _ _
    · rfl
    · exact walk_closed w priority n _ _

/-- Where no port is OPEN a relayed notice enters the return list, if that has room (R156, R157). -/
theorem walkFrom_closed (n : Notice) (start : Option Port) (lap : Bool) (first : Port) (w : Work)
    (h : w.notices.returned.length < 8) :
    ∃ m, walkFrom e n start lap first w =
      ({ w with notices := { w.notices with returned := w.notices.returned ++ [m] } }, none) := by
  have hw := walk_closed closed w n.priority (walkBound e.ring) lap first
  unfold walkFrom
  split
  · next hx => rw [hx] at hw; cases hw
  · exact ⟨_, if_pos h⟩

/-- An ALARM notice posted while no port is OPEN adds one to the return list, and nothing else but to the counters of the
notice unit (R147, R156, R157). -/
theorem post_alarm_closed {r : Role} (hc : e.classes[NoticeClass.alarm.index].delivery = .relayed r) (k : AlarmKind)
    (x : Subject) (c : Nat) (w : Work) (h : w.notices.returned.length < 8) :
    ∃ m tag count, post e (.alarm k x c) none w =
      { w with notices := { w.notices with
          returned := w.notices.returned ++ [m], nextTag := tag, postCount := count } } := by
  set n := w.notices with hn
  set tag := assignTag (n.all.map Notice.tag) n.nextTag
  let sent : Notice := ⟨tag, e.classes[NoticeClass.alarm.index].priority, .relayed (e.portOfRole r) false, .alarm k x c,
    n.postCount⟩
  let tagged : Work := { w with notices := { n with postCount := n.postCount + 1, nextTag := succTag tag } }
  obtain ⟨m, hm⟩ := walkFrom_closed closed sent (e.portOfRole r) false (firstInRing e.ring (e.portOfRole r)) tagged h
  have hd : deliveryOf e (NoticeBody.alarm k x c).cls none = .relayed (e.portOfRole r) false := by
    simp only [deliveryOf, NoticeBody.cls, hc]
  have hplace : place e sent tagged = _ := hm
  have hpost : postOnce e (.alarm k x c) none w = ((place e sent tagged).1, none) := by
    unfold postOnce
    rw [if_neg (by simp [coalesces])]
    simp only [hd]
    change afterPlace e (place e sent tagged) = _
    rw [hplace]
    rfl
  refine ⟨m, succTag tag, n.postCount + 1, ?_⟩
  unfold post Config.dropBound
  rw [postChain, hpost]
  simp only
  rw [hplace]

end

/-! ## The strap conflicts -/

/-- A conflict of a port in the alarm record. -/
def conflictEntry (p : Port) : AlarmEntry := ⟨.strapConflict, .port p, true, 1⟩

/-- The blocks at power-on with the strap conflicts of some ports raised. -/
structure ConflictsRaised (l : List Port) (w : Work) : Prop where
  work : ∀ a n, { w with alarms := a, notices := n } = { Work.powerOn with alarms := a, notices := n }
  entries : w.alarms.entries = l.map conflictEntry
  overflow : w.alarms.overflow = Vector.replicate 16 ⟨false, 0⟩
  desks : w.notices.desks = Vector.replicate 4 ⟨[], []⟩
  returned : w.notices.returned.length = l.length
  drops : w.notices.dropCount = 0

theorem ConflictsRaised.none : ConflictsRaised [] Work.powerOn := ⟨fun _ _ => rfl, rfl, rfl, rfl, rfl, rfl⟩

/-- An alarm of a new kind and subject logged into a record with room (R172). -/
theorem log_new {a : AlarmRecord} {k : AlarmKind} {s : Subject} (h : ∀ x ∈ a.entries, x.names k s = false)
    (hl : a.entries.length < 64) : a.log k s = ({ a with entries := a.entries ++ [⟨k, s, true, 1⟩] }, 1) := by
  have hf : a.entries.find? (AlarmEntry.names k s) = none := List.find?_eq_none.mpr (by simpa using h)
  simp [AlarmRecord.log, hf, Config.alarmLimit, hl]

/-- A raise of an enabled kind logs it and posts its ALARM notice (R172). -/
theorem raiseAlarm_enabled {e : Env} {k : AlarmKind} (h : e.alarmEnables[k.index] = true) (s : Subject) (w : Work) :
    raiseAlarm e k s w =
      post e (.alarm k s (w.alarms.log k s).2) none { w with alarms := (w.alarms.log k s).1 } := if_pos h

theorem ConflictsRaised.raise {e : Env} (closed : ∀ p : Port, e.links[p].state ≠ .opened) {r : Role}
    (hc : e.classes[NoticeClass.alarm.index].delivery = .relayed r)
    (he : e.alarmEnables[AlarmKind.strapConflict.index] = true) {l : List Port} {w : Work} {p : Port}
    (h : ConflictsRaised l w) (hp : p ∉ l) (hl : l.length < 8) :
    ConflictsRaised (l ++ [p]) (raiseAlarm e .strapConflict (.port p) w) := by
  have hlog := log_new (a := w.alarms) (k := .strapConflict) (s := .port p)
    (by
      intro x hx
      rw [h.entries] at hx
      obtain ⟨q, hq, rfl⟩ := List.mem_map.mp hx
      have hqp : q ≠ p := fun g => hp (g ▸ hq)
      simpa [AlarmEntry.names, conflictEntry, Subject.port] using Fin.val_ne_of_ne hqp)
    (by rw [h.entries, List.length_map]; omega)
  have hraise := raiseAlarm_enabled he (.port p) w
  rw [hlog] at hraise
  obtain ⟨m, tag, count, hpost⟩ := post_alarm_closed closed hc .strapConflict (.port p) 1
    { w with alarms := { w.alarms with entries := w.alarms.entries ++ [conflictEntry p] } } (by rw [h.returned]; exact hl)
  rw [hraise.trans hpost]
  exact ⟨h.work, by simp [h.entries], h.overflow, h.desks, by simp [h.returned], h.drops⟩

/-- The conflicts of distinct ports raised one after another. -/
theorem ConflictsRaised.foldl {e : Env} (closed : ∀ p : Port, e.links[p].state ≠ .opened) {r : Role}
    (hc : e.classes[NoticeClass.alarm.index].delivery = .relayed r)
    (he : e.alarmEnables[AlarmKind.strapConflict.index] = true) :
    ∀ {m l : List Port} {w : Work}, ConflictsRaised l w → (l ++ m).Nodup → (l ++ m).length ≤ 8 →
      ConflictsRaised (l ++ m) (m.foldl (fun w p => raiseAlarm e .strapConflict (.port p) w) w)
  | [], l, w, h, _, _ => by simpa using h
  | p :: m, l, w, h, hd, hl => by
    rw [List.append_cons] at hd hl ⊢
    refine ConflictsRaised.foldl closed hc he (h.raise closed hc he ?_ ?_) hd hl
    · exact fun hp => (List.nodup_append.mp (List.nodup_append.mp hd).1).2.2 p hp p (List.mem_singleton_self p) rfl
    · simp only [List.length_append, List.length_singleton] at hl
      omega

/-- The environment that a power-on reset leaves. -/
def Straps.env (x : Straps) (e1 e2 e3 : QuadLevels) : Env := Env.powerOn e1 e2 e3 (Straps.links x) (Straps.ring x)

/-- The blocks that a power-on reset leaves: those of power-on, with the conflicts raised. -/
theorem conflicts_raised (x : Straps) (e1 e2 e3 : QuadLevels) :
    ConflictsRaised (Straps.conflicts x)
      ((Straps.conflicts x).foldl
        (fun w p => raiseAlarm (Straps.env x e1 e2 e3) .strapConflict (.port p) w) Work.powerOn) := by
  have closed : ∀ p : Port, (Straps.env x e1 e2 e3).links[p].state ≠ .opened := by
    intro p
    change (Straps.links x)[p].state ≠ .opened
    rw [Straps.links_eq]
    simp [Link.powerOn]
  have hn : (Straps.conflicts x).Nodup := allPorts_nodup.filter _
  have hl : (Straps.conflicts x).length ≤ 4 := List.length_filter_le _ allPorts
  exact ConflictsRaised.none.foldl closed (r := .planner) rfl (by simp [Straps.env, Env.powerOn]) hn
    (hl.trans (by decide : 4 ≤ 8))

/-- Settles O4: the environment is `Env.powerOn`, the blocks are those of `conflicts_raised`, and the roles `role_spec`. -/
theorem powerOnValues : Obligations.PowerOnValues := by
  refine ⟨fun x e1 e2 e3 s => ?_, Straps.role_spec⟩
  have raised := conflicts_raised x e1 e2 e3
  set w := (Straps.conflicts x).foldl
    (fun w p => raiseAlarm (Straps.env x e1 e2 e3) .strapConflict (.port p) w) Work.powerOn
  have blocks := raised.work w.alarms w.notices
  have calm : w.calm := ⟨congrArg (fun x => x.prop.list) blocks, congrArg Work.owed blocks⟩
  have hexec : exec (.powerOnReset x e1 e2 e3) s = .next { s with env := Straps.env x e1 e2 e3, work := w } := by
    change Host.Outcome.next (s.finish (Straps.env x e1 e2 e3, w)) = _
    rw [State.finish, settle_atRest _ _ calm.atRest]
  refine ⟨_, hexec, rfl, rfl, rfl, rfl, fun c => ?_, fun k => ?_, fun i => ?_, rfl, fun r i => ?_, fun n => ?_,
    Straps.links_eq x, rfl, fun p => ?_, fun k => ?_, fun k => ?_, fun p => Straps.ring_planner, Straps.ring_none, rfl,
    fun k => ?_, raised.drops, raised.entries, blocks, fun p => ?_, ?_⟩
  · fin_cases c <;> rfl
  · simp [Straps.env, Env.powerOn]
  · simp [Straps.env, Env.powerOn]
  · simp [Straps.env, Env.powerOn]
  · simp [Straps.env, Env.powerOn]
  · simp [Straps.env, Env.powerOn]
  · simp [Straps.env, Env.powerOn]
  · simp [Straps.env, Env.powerOn]
  · simp [raised.overflow]
  · simp [raised.desks]
  · simp [raised.returned, raised.entries]

end Sys2Proof.Machine
end

section
/-! SUPPORT. DEFECT (R29, R41, R42): its checks, where its span lies, and how the gate divides it. -/

namespace Sys2Proof.Machine

/-! ## The stations and the stands by their numbers -/

theorem stationOf_val (i : StationIx) : stationOf i.val = some i := dif_pos i.isLt

theorem stationOf_eq_some {n : Nat} {i : StationIx} (h : stationOf n = some i) : n = i.val := by
  unfold stationOf at h
  split at h <;> cases h
  rfl

/-! ## The span and the gate -/

/-- A span without length has nothing to divide (R29). -/
theorem splitAtGate_empty {lo hi : Int} (g : Nat) (h : hi ≤ lo) : splitAtGate lo hi g = ⟨0, none⟩ := if_pos h

/-- Nothing of a span remains exactly where its last millimetre is at or past the gate: all of it has escaped (R29). -/
theorem splitAtGate_none {lo hi : Int} {g : Nat} (h : lo < hi) (hx : (splitAtGate lo hi g).remaining = none) :
    (splitAtGate lo hi g).escaped = (hi - lo).toNat ∧ hi - 1 ≤ -(g : Int) := by
  unfold splitAtGate at hx ⊢
  rw [if_neg (by omega)] at hx ⊢
  by_cases hg : hi ≤ -(g : Int) + 1
  · simp only [hg, if_true, true_and]
    omega
  · simp only [hg, if_false] at hx
    split at hx <;> simp at hx

/-- What remains of a span ends where the span does and begins past the gate: what lies before it has escaped (R29). -/
theorem splitAtGate_some {lo hi u v : Int} {g : Nat} (h : lo < hi)
    (hx : (splitAtGate lo hi g).remaining = some (u, v)) :
    v = hi ∧ lo ≤ u ∧ u < hi ∧ -(g : Int) < u ∧ ((splitAtGate lo hi g).escaped : Int) = u - lo ∧
      (lo < u → u = -(g : Int) + 1) := by
  unfold splitAtGate at hx ⊢
  rw [if_neg (by omega)] at hx ⊢
  by_cases hg : hi ≤ -(g : Int) + 1
  · simp [hg] at hx
  · by_cases hl : -(g : Int) < lo
    · simp only [hg, hl, if_true, if_false, Option.some.injEq, Prod.mk.injEq] at hx ⊢
      obtain ⟨rfl, rfl⟩ := hx
      exact ⟨rfl, by omega, by omega, by omega, by simp, by omega⟩
    · simp only [hg, hl, if_false, Option.some.injEq, Prod.mk.injEq] at hx ⊢
      obtain ⟨rfl, rfl⟩ := hx
      exact ⟨rfl, by omega, by omega, by omega, by omega, by omega⟩

/-- The reach of a station, web by web (R20, R22). -/
theorem stationReach_eq (e : Env) (st : Station) :
    e.stationReach st = match st.web with
      | .l1 => (st.distance + (e.table.fixedLength[(0 : Bridge)] + e.bridges[(0 : Bridge)].fill : Nat) : Int)
      | .m1 => ((st.distance * 4096 / e.table.takeUp[(0 : Bridge)] : Nat) +
          (e.table.fixedLength[(0 : Bridge)] + e.bridges[(0 : Bridge)].fill : Nat) : Int)
      | .l2 => (st.distance + (e.table.fixedLength[(1 : Bridge)] + e.bridges[(1 : Bridge)].fill : Nat) : Int)
      | .m2 => ((st.distance * 4096 / e.table.takeUp[(1 : Bridge)] : Nat) +
          (e.table.fixedLength[(1 : Bridge)] + e.bridges[(1 : Bridge)].fill : Nat) : Int)
      | .board => -(st.distance : Int)
      | _ => (st.distance : Int) := by
  unfold Env.stationReach Env.webReach
  cases st.web <;> rfl

/-! ## The mark -/

/-- The mark that a track has just taken is the one put into it, where entry numbers are below the next one (R33). -/
theorem Track.put_newest (e : Env) {t : Track} (h : ∀ m ∈ t.marks, m.entry < t.entryCount) (body : MarkBody) (s : Pos)
    (n : Nat) (begins ends : BitVec 24) :
    (t.put e body s n begins ends).newest =
      some ⟨assignTag (t.marks.map Mark.tag) t.nextTag, body, s, n, begins, ends, t.entryCount⟩ :=
  find_insertMark e.b _ t.entryCount rfl t.marks h

/-- A span that a track has room for is recorded under the next free tag (R35). -/
theorem enterDefect_recorded (e : Env) (station cause : Nat) (start : Pos) (span : Nat) {w : Work}
    (hd : w.track.defects.length < 160) (hm : w.track.marks.length < 192)
    (he : ∀ m ∈ w.track.marks, m.entry < w.track.entryCount) :
    (enterDefect e station cause start span w).2 =
      (assignTag (w.track.marks.map Mark.tag) w.track.nextTag, .recorded) := by
  have room : w.track.defects.length < Config.defectLimit ∧ w.track.marks.length < Config.trackLimit := ⟨hd, hm⟩
  simp only [enterDefect, if_pos room, Track.put_newest e he]

/-! ## The request -/

section
variable {e : Env} {w : Work} {body : List Byte} {n a c cause : Nat}

theorem applyDefect_invalid (h : e.stationsValid = false) : applyDefect e w body = refuse .state e w := by
  simp [applyDefect, h]

/-- A DEFECT of no station, or with distances that are no span within 20,000, is refused (R41). -/
theorem applyDefect_range (hb : exact (getNats [1, 2, 2, 1] body) = some [n, a, c, cause]) (hv : e.stationsValid = true)
    (h : ∀ (i : StationIx) (st : Station), n = i.val → e.stations[i] = some st → c < a ∨ 20000 < c) :
    applyDefect e w body = refuse .range e w := by
  simp only [applyDefect, hv, hb, Bool.not_true, Bool.false_eq_true, if_false]
  split
  · rfl
  · next i hi =>
    split
    · rfl
    · next st hst => exact if_pos (h i st (stationOf_eq_some hi) hst)

/-- A DEFECT that passes its checks (R42). -/
theorem applyDefect_recorded {i : StationIx} {st : Station}
    (hb : exact (getNats [1, 2, 2, 1] body) = some [i.val, a, c, cause]) (hv : e.stationsValid = true)
    (hst : e.stations[i] = some st) (hac : a ≤ c) (hc : c ≤ 20000) :
    applyDefect e w body = recordDefect e w i st a c cause := by
  have ok : ¬(c < a ∨ 20000 < c) := by omega
  simp only [applyDefect, hv, hb, Bool.not_true, Bool.false_eq_true, if_false, stationOf_val, hst, if_neg ok]

end

/-- DEFECT_ESCAPED changes the notices and the alarm record alone. -/
theorem reportEscape_frame (e : Env) (i : StationIx) (x : GateSplit) (w : Work) :
    NoticeFrame w (reportEscape e i x w) := by
  unfold reportEscape
  split
  · exact raiseAlarm_frame _ _ _ w
  · exact NoticeFrame.refl w

/-- A span of which some has escaped raises DEFECT_ESCAPED (R42). -/
theorem reportEscape_hasAlarm (e : Env) (i : StationIx) {x : GateSplit} (w : Work) (h : 0 < x.escaped) :
    (reportEscape e i x w).hasAlarm .defectEscaped (.station i.val) := by
  simpa [reportEscape, h] using raiseAlarm_hasAlarm e .defectEscaped (.station i.val) w

/-- Settles O45: the checks of `applyDefect`, the answer of `recordDefect`, the reaches by `stationReach_eq` and the gate by
the lemmas of `splitAtGate`. -/
theorem defectRequest : Obligations.DefectRequest := by
  refine ⟨fun s p q rest body n a c cause hq hb hw room => ⟨fun hv => ?_, fun hv h => ?_, ?_⟩, fun e st a c g hg => ?_,
    fun lo hi g h => splitAtGate_empty g h, fun lo hi g h => ⟨splitAtGate_none h, fun u v => splitAtGate_some h⟩⟩
  · exact congrArg Host.Outcome.next (applyHead_refused applyDefect .state hq hw (applyDefect_invalid hv))
  · exact congrArg Host.Outcome.next (applyHead_refused applyDefect .range hq hw (applyDefect_range hb hv h))
  · rintro i st hv rfl hst hac hc x e w
    have happ : applyDefect e s.work body = recordDefect e s.work i st a c cause := applyDefect_recorded hb hv hst hac hc
    have hdone := (applyHead_of_head applyDefect hq).trans (by rw [happ])
    have frame : NoticeFrame s.work w := reportEscape_frame e i x s.work
    refine ⟨frame, reportEscape_hasAlarm e i s.work, fun hn => ?_, fun lo hi hs => ⟨?_, fun hd hm => ?_⟩⟩
    · refine congrArg Host.Outcome.next (hdone.trans ?_)
      have hx : (defectSplit e st a c).remaining = none := hn
      simp only [recordDefect, hx]
      rfl
    · refine congrArg Host.Outcome.next (hdone.trans ?_)
      have hx : (defectSplit e st a c).remaining = some (lo, hi) := hs
      simp only [recordDefect, hx]
      rfl
    · rw [← frame.track] at hd hm ⊢
      exact enterDefect_recorded e _ _ _ _ hd hm (by rw [frame.track]; exact room.entries)
  · have split : defectSplit e st a c =
        splitAtGate (e.stationReach st - (e.webConv st.web c : Int)) (e.stationReach st - (e.webConv st.web a : Int)) g := by
      rw [defectSplit, hg, Option.getD_some]
    refine ⟨split.trans ?_, stationReach_eq e st⟩
    generalize st.web = web
    cases web <;> rfl

end Sys2Proof.Machine
end

section
/-! SUPPORT. REEL_LOAD, REEL_REMOVE and DIAMETER (R70 to R72): what they refuse, and what they make of a stand. -/

namespace Sys2Proof.Machine

/-! ## The level through the evaluations of a stand (R75, R76) -/

theorem standOf_val (k : Stand) : standOf k.val = some k := dif_pos k.isLt

theorem standOf_none {n : Nat} (h : 5 ≤ n) : standOf n = none := dif_neg (by omega)

@[simp] theorem StandRec.rephase_level (r : StandRec) : r.rephase.level = r.level := by
  obtain ⟨p, hp⟩ := rephase_eq r
  rw [hp]

/-- A level that is set is the level held. -/
theorem setLevel_level (e : Env) (k : Stand) (l : ReelLevel) (u : Nat) (w : Work) :
    (setLevel e k l u w).stands[k].level = l := by
  unfold setLevel
  dsimp only
  split
  · next h => exact h.symm
  · have posted : NoticeFrame (w.setStand k { w.stands[k] with level := l }.rephase) _ :=
      post_frame e (.reel k l u) none _
    have raised : ∀ a {x : Work}, NoticeFrame (w.setStand k { w.stands[k] with level := l }.rephase) x →
        NoticeFrame (w.setStand k { w.stands[k] with level := l }.rephase) (raiseAlarm e a (.stand k) x) :=
      fun a _ h => h.trans (raiseAlarm_frame e a (.stand k) _)
    have level : ∀ x : Work, NoticeFrame (w.setStand k { w.stands[k] with level := l }.rephase) x →
        x.stands[k].level = l := fun x h => by rw [h.stands]; simp
    repeat' split
    · exact level _ (raised _ (raised _ posted))
    · exact level _ (raised _ posted)
    · exact level _ (raised _ posted)
    · exact level _ posted

/-- A pulse leaves the stands alone. -/
theorem pulse_stands (e : Env) (c : CueLine) (w : Work) : (pulse e c w).stands = w.stands := by
  unfold pulse
  dsimp only
  split
  · rfl
  · exact (raiseAlarm_frame _ _ _ _).stands

/-- A fire leaves the level alone. -/
theorem fire_level (e : Env) (k : Stand) (w : Work) : (fire e k w).stands[k].level = w.stands[k].level := by
  unfold fire
  dsimp only
  rw [(post_frame _ _ _ _).stands, pulse_stands]
  simp

/-- An evaluation of the fire conditions leaves the level alone. -/
theorem evalFire_level (e : Env) (sudden : Bool) (k : Stand) (w : Work) :
    (evalFire e sudden k w).stands[k].level = w.stands[k].level := by
  rcases evalFire_cases e sudden k w with h | ⟨_, _, h | ⟨_, _, h⟩⟩ <;> rw [h]
  · exact fire_level e k w
  · rw [(raiseAlarm_frame _ _ _ _).stands, fire_level]

/-- What re-evaluating the phase of a stand can change (R76). -/
theorem rephase_stand (k : Stand) (w : Work) : StandFrame k w (w.updStand k StandRec.rephase) := by
  obtain ⟨p, hp⟩ := rephase_eq w.stands[k]
  unfold Work.updStand
  rw [hp]
  exact setStand_stand k w w.stands[k].level p w.stands[k].lateWindow

/-- A record given to a stand with its phase re-evaluated, beside the record given as it is (R76). -/
theorem setStand_rephase_stand (k : Stand) (w : Work) (r : StandRec) :
    StandFrame k (w.setStand k r) (w.setStand k r.rephase) := by
  obtain ⟨p, hp⟩ := rephase_eq r
  have h := setStand_stand k (w.setStand k r) r.level p r.lateWindow
  have twice : (w.setStand k r).setStand k { r with phase := p } = w.setStand k { r with phase := p } := by
    simp [Work.setStand]
  simpa [hp, twice] using h

/-- The level, the phase and the fire conditions of a stand evaluated in turn (R75, R76). -/
def evalStand (e : Env) (k : Stand) (fresh : Bool) (w : Work) : Work :=
  evalFire e false k ((evalLevel e k fresh w).updStand k StandRec.rephase)

/-- What evaluating a stand can change. -/
theorem evalStand_stand (e : Env) (k : Stand) (fresh : Bool) {w : Work} (h : w.calm) :
    StandFrame k w (evalStand e k fresh w) := by
  have h1 := (evalLevel_stand e k fresh h).trans (rephase_stand k _)
  exact h1.trans (evalFire_stand e false k (h1.calm h))

theorem evalStand_level (e : Env) (k : Stand) (fresh : Bool) (w : Work) :
    (evalStand e k fresh w).stands[k].level = (evalLevel e k fresh w).stands[k].level := by
  unfold evalStand
  rw [evalFire_level]
  simp

/-- The level of a stand without a reel of a known length is NORMAL (R75). -/
theorem evalLevel_level_none {e : Env} {k : Stand} {w : Work} (fresh : Bool)
    (h : e.usable k w.stands[k].running = none) : (evalLevel e k fresh w).stands[k].level = .normal := by
  simp only [evalLevel, h, setLevel_level]

/-- The level of a stand with a running reel is the one R75 gives for its usable length. -/
theorem evalLevel_level_some {e : Env} {k : Stand} {w : Work} {u : Nat} (fresh : Bool)
    (h : e.usable k w.stands[k].running = some u) :
    (evalLevel e k fresh w).stands[k].level =
      if fresh then rawLevel e.settings[k] u else nextLevel e.settings[k] u w.stands[k].level := by
  simp only [evalLevel, h, setLevel_level]

/-- A reel anchored now has all of its usable length (R28). -/
theorem usable_anchorNow (e : Env) (k : Stand) (x : Reel) :
    e.usable k (.reel x (e.anchorNow k x)) = some (e.anchorNow k x).usable := by
  simp [Env.usable, Env.anchoredLength, Env.consumed, Env.anchorNow]

/-- The level of a stand whose reel has been anchored. -/
theorem evalStand_level_anchored (e : Env) (k : Stand) (fresh : Bool) (w : Work) (r : StandRec) {x : Reel}
    (h : r.running = .reel x (e.anchorNow k x)) :
    (evalStand e k fresh (w.setStand k r)).stands[k].level =
      if fresh then rawLevel e.settings[k] (e.anchorNow k x).usable
      else nextLevel e.settings[k] (e.anchorNow k x).usable r.level := by
  rw [evalStand_level, evalLevel_level_some (u := (e.anchorNow k x).usable)]
  · simp
  · simp [h, usable_anchorNow]

theorem setStand_calm {w : Work} (h : w.calm) (k : Stand) (r : StandRec) : (w.setStand k r).calm := h

section
variable {e : Env} {k : Stand} {x : Reel} {w : Work}

/-- What a threading load can change (R70). -/
theorem threadReel_stand (hw : w.calm) :
    StandFrame k (w.setStand k { w.stands[k] with running := .reel x (e.anchorNow k x), feedStart := none })
      (threadReel e k x w) := evalStand_stand e k true (setStand_calm hw k _)

/-- The level after a threading load is the raw one (R70, R75). -/
theorem threadReel_level :
    (threadReel e k x w).stands[k].level = rawLevel e.settings[k] (e.anchorNow k x).usable :=
  evalStand_level_anchored e k true w _ rfl

/-- What a new diameter of the running reel can change (R72). -/
theorem reanchor_stand (hw : w.calm) :
    StandFrame k (w.setStand k { w.stands[k] with running := .reel x (e.anchorNow k x) }) (reanchor e k x w) :=
  evalStand_stand e k false (setStand_calm hw k _)

/-- The level after a new diameter is the one R75 gives from the level held. -/
theorem reanchor_level :
    (reanchor e k x w).stands[k].level = nextLevel e.settings[k] (e.anchorNow k x).usable w.stands[k].level :=
  evalStand_level_anchored e k false w _ rfl

/-- What removing the running reel can change (R71). -/
theorem removeRunning_stand (hw : w.calm) :
    StandFrame k (w.setStand k { w.stands[k] with running := .none, feedStart := none }) (removeRunning e k w) :=
  evalStand_stand e k false (setStand_calm hw k _)

/-- The level without a running reel is NORMAL (R71, R75). -/
theorem removeRunning_level : (removeRunning e k w).stands[k].level = .normal :=
  (evalStand_level e k false _).trans (evalLevel_level_none false (by simp [Env.usable]))

end

/-! ## A clamped diameter (R70, R72) -/

/-- What a request on reels reads of the environment is as it was before a clamp was noted. -/
theorem noteClamp_eq (p : Port) (given held : Nat) (e : Env) :
    noteClamp p given held e = { e with links := (noteClamp p given held e).links } := by
  unfold noteClamp
  split <;> rfl

theorem noteClamp_anchorNow (p : Port) (given held : Nat) (e : Env) (k : Stand) (x : Reel) :
    (noteClamp p given held e).anchorNow k x = e.anchorNow k x := by
  rw [noteClamp_eq]
  rfl

theorem noteClamp_settings (p : Port) (given held : Nat) (e : Env) :
    (noteClamp p given held e).settings = e.settings := by
  rw [noteClamp_eq]

/-! ## An answer that changes one stand -/

/-- A request that leaves a calm part with one stand changed is applied as it answers. -/
theorem applyHead_stand {s : State} {p : Port} {q : Queued} {rest : List Queued} {r : Request} {body : List Byte}
    {f : Env → Work → List Byte → Answer} {c : Code} {b : List Byte} {e : Env} {w : Work} {k : Stand} {x : StandRec}
    (h : HeadOf s p q rest r body) (hw : s.work.calm) (hf : f (popped s.env p rest) s.work body = ⟨c, b, e, w⟩)
    (frame : StandFrame k (s.work.setStand k x) w) :
    applyHead p r f s = appliedState s p q c b e w :=
  applyHead_calm h hf (frame.calm (setStand_calm hw k x))

/-! ## REEL_LOAD (R70) -/

/-- The ranges of a reel, in the words of the rule. -/
theorem Reel.inRange_iff (x : Reel) :
    x.inRange = true ↔ 1 ≤ x.id ∧ x.grade ≤ 255 ∧ 500 ≤ x.width ∧ x.width ≤ 3350 ∧ 80 ≤ x.caliper ∧ x.caliper ≤ 800 ∧
      70 ≤ x.core ∧ x.core ≤ 200 := by
  simp [Reel.inRange, and_assoc]

theorem StandRec.loadable_eq_false (r : StandRec) :
    r.loadable = false ↔ r.ready ≠ none ∨ r.phase.isFired = true := by
  cases h : r.ready <;> cases hf : r.phase.isFired <;> simp [StandRec.loadable, h, hf]

theorem StandRec.loadable_of {r : StandRec} (h : r.ready = none) (hf : r.phase.isFired = false) : r.loadable = true := by
  simp [StandRec.loadable, h, hf]

section
variable {e : Env} {w : Work} {body : List Byte} {n id grade width caliper core diameter : Nat}
  (hb : exact (getNats [1, 4, 1, 2, 2, 1, 2] body) = some [n, id, grade, width, caliper, core, diameter])
include hb

theorem applyReelLoad_range (p : Port)
    (h : 5 ≤ n ∨ ¬(Reel.mk id grade width caliper core diameter).inRange = true) :
    applyReelLoad p e w body = refuse .range e w := by
  simp only [applyReelLoad, hb]
  split
  · rfl
  · next k hk =>
    refine if_neg (h.resolve_left fun hn => ?_)
    rw [standOf_none hn] at hk
    cases hk

theorem applyReelLoad_load (p : Port) {k : Stand} (hn : n = k.val)
    (h : (Reel.mk id grade width caliper core diameter).inRange = true) :
    applyReelLoad p e w body = loadReel p e w k ⟨id, grade, width, caliper, core, diameter⟩ := by
  subst hn
  simp only [applyReelLoad, hb, standOf_val, if_pos h]

end

section
variable {e : Env} {w : Work} {k : Stand} (p : Port) (x : Reel)

theorem loadReel_state (h : w.stands[k].loadable = false) : loadReel p e w k x = refuse .state e w := by
  simp only [loadReel, h]
  rfl

/-- A load that takes the running position (R70). -/
theorem loadReel_threads (h : w.stands[k].loadable = true) (hr : e.run = .idle) (hn : w.stands[k].running = .none) :
    loadReel p e w k x =
      ⟨.ok, putNat 1 1 ++ putNat 2 (clampDiameter x.core x.diameter),
        noteClamp p x.diameter (clampDiameter x.core x.diameter) e,
        threadReel (noteClamp p x.diameter (clampDiameter x.core x.diameter) e) k
          { x with diameter := clampDiameter x.core x.diameter } w⟩ := by
  have ht : threads e w.stands[k] = true := by simp_all [threads]
  simp only [loadReel, h, ht]
  rfl

/-- A load that takes the ready position (R70). -/
theorem loadReel_ready (h : w.stands[k].loadable = true) (hr : e.run = .running ∨ w.stands[k].running ≠ .none) :
    loadReel p e w k x =
      ⟨.ok, putNat 1 0 ++ putNat 2 (clampDiameter x.core x.diameter),
        noteClamp p x.diameter (clampDiameter x.core x.diameter) e,
        readyReel (noteClamp p x.diameter (clampDiameter x.core x.diameter) e) k
          { x with diameter := clampDiameter x.core x.diameter } w⟩ := by
  have ht : threads e w.stands[k] = false := by
    rcases hr with hr | hr <;> simp_all [threads]
  simp only [loadReel, h, ht]
  rfl

end

/-! ## REEL_REMOVE (R71) -/

/-- What is read from the two bytes of a REEL_REMOVE. -/
theorem getNats_two_bytes (n position : Byte) :
    exact (getNats [1, 1] [n, position]) = some [n.toNat, position.toNat] := by
  simp [exact, getNats, getNat]

theorem applyReelRemove_range (e : Env) (w : Work) {n position : Byte} (h : 5 ≤ n.toNat ∨ 2 ≤ position.toNat) :
    applyReelRemove e w [n, position] = refuse .range e w := by
  simp only [applyReelRemove, getNats_two_bytes]
  split
  · next k running hk hr =>
    rcases h with h | h
    · rw [standOf_none h] at hk
      cases hk
    · unfold flagOf at hr
      split at hr <;> simp_all
  · rfl

theorem applyReelRemove_ready (e : Env) (w : Work) {n : Byte} {k : Stand} (hn : n.toNat = k.val) :
    applyReelRemove e w [n, 0] = removeReel e w k false := by
  simp only [applyReelRemove, getNats_two_bytes, hn, standOf_val]
  rfl

theorem applyReelRemove_running (e : Env) (w : Work) {n : Byte} {k : Stand} (hn : n.toNat = k.val) :
    applyReelRemove e w [n, 1] = removeReel e w k true := by
  simp only [applyReelRemove, getNats_two_bytes, hn, standOf_val]
  rfl

section
variable {e : Env} {w : Work} {k : Stand}

theorem removeReel_fired (running : Bool) (h : w.stands[k].phase.isFired = true) :
    removeReel e w k running = refuse .state e w := if_pos h

theorem removeReel_ready_absent (h : w.stands[k].ready = none) : removeReel e w k false = refuse .state e w := by
  simp_all [removeReel]

theorem removeReel_running_kept (h : e.run = .running ∨ w.stands[k].running = .none) :
    removeReel e w k true = refuse .state e w := by
  rcases h with h | h <;> simp_all [removeReel]

theorem removeReel_ready (hf : w.stands[k].phase.isFired = false) (h : w.stands[k].ready ≠ none) :
    removeReel e w k false = answerOk e (removeReady e k w) := by
  simp_all [removeReel]

theorem removeReel_running (hf : w.stands[k].phase.isFired = false) (hr : e.run = .idle)
    (h : w.stands[k].running ≠ .none) : removeReel e w k true = answerOk e (removeRunning e k w) := by
  simp_all [removeReel]

/-- What removing the ready reel can change beside it (R71). -/
theorem removeReady_stand (hw : w.calm) :
    StandFrame k (w.setStand k { w.stands[k] with ready := none }) (removeReady e k w) := by
  have h1 := setStand_rephase_stand k w { w.stands[k] with ready := none }
  have h2 := h1.trans (evalFire_stand e false k (h1.calm (setStand_calm hw k _)))
  unfold removeReady
  dsimp only
  split
  · exact h2.trans ((raiseAlarm_frame _ _ _ _).stand (h2.calm (setStand_calm hw k _)) k)
  · exact h2

/-- The ready reel of an armed stand removed raises NO_READY_REEL (R71). -/
theorem removeReady_hasAlarm (h : w.stands[k].level.armed = true) :
    (removeReady e k w).hasAlarm .noReadyReel (.stand k) := by
  unfold removeReady
  rw [if_pos h]
  exact raiseAlarm_hasAlarm e .noReadyReel (.stand k) _

end

/-! ## DIAMETER (R72) -/

section
variable {e : Env} {w : Work} {body : List Byte} {n d : Nat} (hb : exact (getNats [1, 2] body) = some [n, d])
include hb

theorem applyDiameter_range (p : Port) (h : 5 ≤ n) : applyDiameter p e w body = refuse .range e w := by
  simp only [applyDiameter, hb, standOf_none h]

theorem applyDiameter_state (p : Port) {k : Stand} (hn : n = k.val)
    (h : w.stands[k].running = .none ∨ w.stands[k].running = .unknown) :
    applyDiameter p e w body = refuse .state e w := by
  subst hn
  rcases h with h | h <;> simp only [applyDiameter, hb, standOf_val, setDiameter, h]

theorem applyDiameter_reel (p : Port) {k : Stand} (hn : n = k.val) {x y : Reel} {a : Anchor}
    (h : w.stands[k].running = .reel x a) (hy : y = { x with diameter := clampDiameter x.core d }) :
    applyDiameter p e w body =
      ⟨.ok, putNat 2 y.diameter ++ putNat 4 (e.anchorNow k y).usable, noteClamp p d y.diameter e,
        reanchor (noteClamp p d y.diameter e) k y w⟩ := by
  subst hn hy
  simp only [applyDiameter, hb, standOf_val, setDiameter, h, noteClamp_anchorNow]

end

/-- Settles O28: what each request answers, and the frame and the level of the stand it leaves (`threadReel_`, `removeReady_`,
`removeRunning_` and `reanchor_stand`). -/
theorem reelRequests : Obligations.ReelRequests := by
  refine ⟨⟨?load, ?remove⟩, ?diameter⟩
  case load =>
    intro s p q rest body n id grade width caliper core diameter hq hb hw legal d reel e e1
    have hlegal : (Reel.mk id grade width caliper core diameter).inRange = true ↔ legal := Reel.inRange_iff _
    refine ⟨fun h => ?_, ?_⟩
    · exact congrArg Host.Outcome.next (applyHead_refused _ .range hq hw.atRest
        (applyReelLoad_range hb p (by rwa [hlegal])))
    intro k hn hl r
    have happ : applyReelLoad p e s.work body = _ := applyReelLoad_load hb p hn (hlegal.mpr hl)
    refine ⟨fun h => ?_, fun hr hf hrun hno => ?_, fun hr hf h => ?_⟩
    · exact congrArg Host.Outcome.next (applyHead_refused _ .state hq hw.atRest
        (happ.trans (loadReel_state p _ ((StandRec.loadable_eq_false _).mpr h))))
    · have thread := happ.trans (loadReel_threads p _ (StandRec.loadable_of hr hf) hrun hno)
      have anchor : e1.anchorNow k reel = s.env.anchorNow k reel := noteClamp_anchorNow p diameter d e k reel
      have settings : e1.settings = s.env.settings := noteClamp_settings p diameter d e
      have frame := threadReel_stand (e := e1) (k := k) (x := reel) hw
      have level := threadReel_level (e := e1) (k := k) (x := reel) (w := s.work)
      rw [anchor] at frame level
      rw [settings] at level
      exact ⟨_, congrArg Host.Outcome.next (applyHead_stand hq hw thread frame), rfl, rfl, frame, level⟩
    · have ready := happ.trans (loadReel_ready p _ (StandRec.loadable_of hr hf) h)
      have frame := (setStand_rephase_stand k s.work { r with ready := some reel }).trans
        (evalFire_stand e1 true k (setStand_calm hw k _))
      exact ⟨_, congrArg Host.Outcome.next (applyHead_stand hq hw ready frame), rfl, rfl, frame, rfl⟩
  case remove =>
    intro s p q rest n position hq hw
    refine ⟨fun h => ?_, ?_⟩
    · exact congrArg Host.Outcome.next (applyHead_refused _ .range hq hw.atRest (applyReelRemove_range _ _ h))
    intro k hn r
    refine ⟨?ready, ?running⟩
    case ready =>
      rintro rfl
      have happ := applyReelRemove_ready (popped s.env p rest) s.work hn
      refine ⟨fun h => ?_, fun hf h => ?_⟩
      · exact congrArg Host.Outcome.next (applyHead_refused _ .state hq hw.atRest
          (happ.trans (h.elim (removeReel_fired false) removeReel_ready_absent)))
      · have frame := removeReady_stand (e := popped s.env p rest) (k := k) hw
        exact ⟨_, congrArg Host.Outcome.next (applyHead_stand hq hw (happ.trans (removeReel_ready hf h)) frame), rfl, rfl,
          frame, removeReady_hasAlarm⟩
    case running =>
      rintro rfl
      have happ := applyReelRemove_running (popped s.env p rest) s.work hn
      refine ⟨fun h => ?_, fun hf hr h => ?_⟩
      · exact congrArg Host.Outcome.next (applyHead_refused _ .state hq hw.atRest
          (happ.trans (h.elim (removeReel_fired true) (removeReel_running_kept (e := popped s.env p rest)))))
      · have frame := removeRunning_stand (e := popped s.env p rest) (k := k) hw
        exact ⟨_, congrArg Host.Outcome.next (applyHead_stand hq hw (happ.trans (removeReel_running hf hr h)) frame), rfl, rfl,
          frame, removeRunning_level⟩
  case diameter =>
    intro s p q rest body n d hq hb hw
    refine ⟨fun h => ?_, ?_⟩
    · exact congrArg Host.Outcome.next (applyHead_refused _ .range hq hw.atRest (applyDiameter_range hb p h))
    intro k hn r e
    refine ⟨fun h => ?_, ?_⟩
    · exact congrArg Host.Outcome.next (applyHead_refused _ .state hq hw.atRest (applyDiameter_state hb p hn h))
    · intro x a hx held y length usable e1
      have anchored := applyDiameter_reel (e := e) hb p hn hx (y := y) rfl
      have anchor : e1.anchorNow k y = s.env.anchorNow k y := noteClamp_anchorNow p d held e k y
      have settings : e1.settings = s.env.settings := noteClamp_settings p d held e
      have frame := reanchor_stand (e := e1) (k := k) (x := y) hw
      have level := reanchor_level (e := e1) (k := k) (x := y) (w := s.work)
      rw [anchor] at frame level
      rw [settings] at level
      exact ⟨_, congrArg Host.Outcome.next (applyHead_stand hq hw anchored frame), rfl, rfl, frame, level⟩

end Sys2Proof.Machine
end

section
/-! SUPPORT. Placement (R30, R105): the cut number of the earliest feasible position, and the position that it gives. -/

namespace Sys2Proof.Machine

/-- The smallest cut number beyond a distance (R30). -/
theorem feasibleCut_spec (k : Int) {length : Nat} (h : 1 ≤ length) :
    1 ≤ feasibleCut k length ∧ k ≤ feasibleCut k length * length ∧
      ∀ n : Nat, 1 ≤ n → n < feasibleCut k length → (n : Int) * length < k := by
  unfold feasibleCut
  by_cases hk : k ≤ 0
  · rw [if_pos hk]
    exact ⟨le_rfl, by omega, fun n h1 h2 => absurd h1 (by omega)⟩
  · obtain ⟨m, rfl⟩ := Int.eq_ofNat_of_zero_le (show 0 ≤ k by omega)
    have hm : 1 ≤ (m + length - 1) / length := (Nat.one_le_div_iff h).mpr (by omega)
    rw [if_neg hk, Int.toNat_natCast, max_eq_right hm]
    refine ⟨hm, ?_, fun n _ hn => ?_⟩
    · have := Nat.lt_div_mul_add h (a := m + length - 1)
      exact_mod_cast (by omega : m ≤ (m + length - 1) / length * length)
    · have := (Nat.le_div_iff_mul_le h (x := n + 1)).mp hn
      rw [Nat.add_mul] at this
      exact_mod_cast (by omega : n * length < m)

/-- The smallest cut number beyond a distance is the only one (R30). -/
theorem feasibleCut_eq {k : Int} {length n : Nat} (h : 1 ≤ length) (h1 : 1 ≤ n) (hk : k ≤ n * length)
    (hn : ∀ m : Nat, 1 ≤ m → m < n → (m : Int) * length < k) : feasibleCut k length = n := by
  obtain ⟨g1, gk, gn⟩ := feasibleCut_spec k h
  rcases lt_trichotomy (feasibleCut k length) n with hlt | heq | hgt
  · exact absurd (hn _ g1 hlt) (by omega)
  · exact heq
  · exact absurd (gn n h1 hgt) (by omega)

/-- The cuts of a placement: the order's planned ones, or those to the earliest feasible position (R105). -/
def placedCuts (e : Env) (q : Sequencer) (o : Order) (j : Nat) (start : Pos) : Nat :=
  max o.planned (feasibleCut (dueDistance e q o.tag j - e.ahead start) o.given.length)

/-- Where an order with a start has its end mark placed, if within the horizon (R30, R105). -/
theorem placement_eq {e : Env} {q : Sequencer} {o : Order} {start : Pos} (j : Nat) (hs : o.startPos = some start)
    (hl : 1 ≤ o.given.length) :
    placement e q o j =
      if 1000000000 < e.ahead start + placedCuts e q o j start * o.given.length then none
      else some ⟨⟨start.val + BitVec.ofInt 32 (placedCuts e q o j start * o.given.length), false⟩,
        placedCuts e q o j start⟩ := by
  have hcuts : ∀ n : Nat, (if e.ahead start + ((o.planned * o.given.length : Nat) : Int) <
      e.ahead start + ((n * o.given.length : Nat) : Int) then n else o.planned) = max o.planned n := by
    intro n
    have := Nat.mul_lt_mul_right hl (b := o.planned) (c := n)
    split <;> omega
  have hmax : ∀ n : Nat, n * o.given.length ≤ max o.planned n * o.given.length := fun n =>
    Nat.mul_le_mul_right _ (le_max_right _ _)
  simp only [placement, hs, hcuts, Config.horizon]
  rw [← placedCuts]
  have := hmax (feasibleCut (dueDistance e q o.tag j - e.ahead start) o.given.length)
  rw [← placedCuts] at this
  push_cast at this ⊢
  split
  · rw [if_pos (by omega)]
  · rfl

/-- The cuts of a placement reach the due distance, and where they are raised one cut fewer does not (R105). -/
theorem placedCuts_spec (e : Env) (q : Sequencer) {o : Order} (j : Nat) (start : Pos) (hl : 1 ≤ o.given.length) :
    o.planned ≤ placedCuts e q o j start ∧
      dueDistance e q o.tag j ≤ e.ahead start + placedCuts e q o j start * (o.given.length : Int) ∧
      (o.planned < placedCuts e q o j start → 1 < placedCuts e q o j start →
        e.ahead start + ((placedCuts e q o j start : Int) - 1) * (o.given.length : Int) < dueDistance e q o.tag j) := by
  obtain ⟨_, hdue, hleast⟩ := feasibleCut_spec (dueDistance e q o.tag j - e.ahead start) hl
  have hcuts : placedCuts e q o j start =
      max o.planned (feasibleCut (dueDistance e q o.tag j - e.ahead start) o.given.length) := rfl
  generalize feasibleCut (dueDistance e q o.tag j - e.ahead start) o.given.length = n at hdue hleast hcuts
  rw [hcuts]
  refine ⟨le_max_left _ _, ?_, fun hp h1 => ?_⟩
  · have reach : (n : Int) * (o.given.length : Int) ≤ (max o.planned n : Nat) * (o.given.length : Int) :=
      Int.mul_le_mul_of_nonneg_right (Int.ofNat_le.mpr (le_max_right _ _)) (Int.natCast_nonneg _)
    omega
  · have raised : max o.planned n = n := by omega
    rw [raised] at h1 ⊢
    have short := hleast (n - 1) (by omega) (by omega)
    rw [Nat.cast_sub h1.le, Nat.cast_one] at short
    omega

/-- A position found (R30, R105). -/
theorem placement_feasible {e : Env} {q : Sequencer} {o : Order} {j : Nat} {start : Pos} {x : Placed}
    (hs : o.startPos = some start) (hl : 1 ≤ o.given.length) (hx : placement e q o j = some x) :
    let len : Int := o.given.length
    x.pos.val = start.val + BitVec.ofInt 32 (x.planned * len) ∧ o.planned ≤ x.planned ∧
      dueDistance e q o.tag j ≤ e.ahead start + x.planned * len ∧ e.ahead start + x.planned * len ≤ 1000000000 ∧
      (o.planned < x.planned → 1 < x.planned → e.ahead start + (x.planned - 1) * len < dueDistance e q o.tag j) := by
  intro len
  obtain ⟨hp, hd, hr⟩ := placedCuts_spec e q j start hl
  rw [placement_eq j hs hl] at hx
  split at hx
  · cases hx
  · next hh =>
    obtain rfl := Option.some.inj hx
    exact ⟨rfl, hp, hd, not_lt.mp hh, hr⟩

/-- The cuts of a placement, by the smallest cut number beyond the due distance (R30, R105). -/
theorem placedCuts_eq {e : Env} {q : Sequencer} {o : Order} {j n : Nat} {start : Pos} (hl : 1 ≤ o.given.length)
    (h1 : 1 ≤ n) (hd : dueDistance e q o.tag j ≤ e.ahead start + n * (o.given.length : Int))
    (hn : ∀ m : Nat, 1 ≤ m → m < n → e.ahead start + m * (o.given.length : Int) < dueDistance e q o.tag j) :
    placedCuts e q o j start = max o.planned n := by
  have first : feasibleCut (dueDistance e q o.tag j - e.ahead start) o.given.length = n :=
    feasibleCut_eq hl h1 (by omega) fun m m1 mn => by
      have := hn m m1 mn
      omega
  rw [placedCuts, first]

end Sys2Proof.Machine
end

section
/-! SUPPORT. The tags of marks (R31): the one a counter gives is not in use, and lies from 1 to 65,535. -/

namespace Sys2Proof.Machine

/-- The values after a tag, counted round from 65,535 to 1. -/
theorem succTag_iterate {t : Nat} (h : 1 ≤ t ∧ t ≤ 65535) : ∀ k : Nat, succTag^[k] t = (t - 1 + k) % 65535 + 1
  | 0 => by simp; omega
  | k + 1 => by
    rw [Function.iterate_succ_apply', succTag_iterate h k, succTag]
    split <;> omega

/-- A search that ends at a value in use has met values in use alone. -/
theorem firstFree_mem {used : List Nat} : ∀ {n t : Nat}, firstFree used n t ∈ used → ∀ k ≤ n, succTag^[k] t ∈ used
  | 0, t, h, k, hk => by
    obtain rfl : k = 0 := by omega
    exact h
  | n + 1, t, h, k, hk => by
    simp only [firstFree, List.contains_eq_mem, decide_eq_true_eq] at h
    split at h
    · next ht =>
      cases k with
      | zero => exact ht
      | succ k => exact firstFree_mem h k (by omega)
    · next ht => exact absurd h ht

/-- A counter gives a tag that is not in use (R31). -/
theorem assignTag_not_mem {used : List Nat} {t : Nat} (h : 1 ≤ t ∧ t ≤ 65535) (hl : used.length ≤ 65533) :
    assignTag used t ∉ used := by
  intro hm
  have met := firstFree_mem hm
  have distinct : ((List.range (used.length + 2)).map fun k => succTag^[k] t).Nodup := by
    refine (List.nodup_map_iff_inj_on List.nodup_range).mpr fun a ha b hb hab => ?_
    simp only [List.mem_range] at ha hb
    simp only [succTag_iterate h] at hab
    omega
  have inside : ((List.range (used.length + 2)).map fun k => succTag^[k] t) ⊆ used := by
    intro x hx
    obtain ⟨k, hk, rfl⟩ := List.mem_map.mp hx
    exact met k (by simp only [List.mem_range] at hk; omega)
  have := (distinct.subperm inside).length_le
  simp at this

theorem succTag_range (t : Nat) : 1 ≤ succTag t ∧ succTag t ≤ 65535 := by
  unfold succTag
  split <;> omega

end Sys2Proof.Machine
end

section
/-! SUPPORT. What an announcement can make of the change chain (R37, R142): marks leave or move, proposals are withdrawn, but
no mark enters, none becomes another, and the sequence of orders stays. -/

namespace Sys2Proof.Machine

/-! ## One mark -/

/-- A mark that stays in the track: its place, its span and its flags may be others, and its proposal may be withdrawn. -/
structure Mark.Stays (m m' : Mark) : Prop where
  tag : m'.tag = m.tag
  entry : m'.entry = m.entry
  body : m'.body = m.body ∨ ∃ i j late, m.body = .change i j .proposed late ∧ m'.body = .change i j .planned late

theorem Mark.Stays.refl (m : Mark) : m.Stays m := ⟨rfl, rfl, .inl rfl⟩

theorem Mark.Stays.trans {a b c : Mark} (h : a.Stays b) (g : b.Stays c) : a.Stays c := by
  refine ⟨g.tag.trans h.tag, g.entry.trans h.entry, ?_⟩
  rcases h.body with hb | ⟨i, j, l, hi, hb⟩ <;> rcases g.body with gb | ⟨i', j', l', gi, gb⟩
  · exact .inl (gb.trans hb)
  · exact .inr ⟨i', j', l', hb ▸ gi, gb⟩
  · exact .inr ⟨i, j, l, hi, gb.trans hb⟩
  · rw [hb] at gi
    cases gi

/-- A mark that is PLANNED stays as it is. -/
theorem Mark.Stays.planned {m m' : Mark} (h : m.Stays m') {i j : Nat} {late : Bool}
    (hb : m.body = .change i j .planned late) : m'.body = .change i j .planned late := by
  rcases h.body with g | ⟨_, _, _, g, _⟩
  · exact g.trans hb
  · rw [hb] at g
    cases g

/-- A mark whose proposal is withdrawn (R125). -/
theorem Mark.Stays.withdrawn (m : Mark) :
    m.Stays (if m.changeState? = some .proposed then m.withState .planned else m) := by
  unfold Mark.changeState? Mark.withState
  split
  · next i j st late hb =>
    split
    · next h =>
      cases h
      exact ⟨rfl, rfl, .inr ⟨i, j, late, hb, rfl⟩⟩
    · exact Mark.Stays.refl m
  · exact Mark.Stays.refl m

/-- A mark that counts in the plan window (R103). -/
def Mark.inWindow (m : Mark) : Bool := m.uncommitted || m.changeState? == some .committed

theorem Track.window_length (t : Track) : t.window.length = t.marks.countP Mark.inWindow :=
  List.countP_eq_length_filter.symm

theorem Mark.Stays.inWindow {m m' : Mark} (h : m.Stays m') : m'.inWindow = m.inWindow := by
  unfold Mark.inWindow Mark.uncommitted Mark.changeState?
  rcases h.body with g | ⟨i, j, l, g, g'⟩
  · rw [g]
  · rw [g, g']
    rfl

theorem Mark.Stays.kind {m m' : Mark} (h : m.Stays m') : m'.kind = m.kind := by
  unfold Mark.kind
  rcases h.body with g | ⟨i, j, l, g, g'⟩
  · rw [g]
  · rw [g, g']
    rfl

/-! ## The track -/

theorem map_subperm {α β : Type} (f : α → β) {l l' : List α} (h : l.Subperm l') : (l.map f).Subperm (l'.map f) := by
  obtain ⟨k, hp, hs⟩ := h
  exact ⟨k.map f, hp.map f, hs.map f⟩

/-- A track of which marks have left, and whose other marks stay. -/
structure Track.Thinned (t t' : Track) : Prop where
  nextTag : t'.nextTag = t.nextTag
  entryCount : t'.entryCount = t.entryCount
  marks : ∃ f : Mark → Mark, (∀ m : Mark, m.Stays (f m)) ∧ t'.marks.Subperm (t.marks.map f)

theorem Track.Thinned.refl (t : Track) : t.Thinned t :=
  ⟨rfl, rfl, id, Mark.Stays.refl, by rw [List.map_id]⟩

theorem Track.Thinned.trans {a b c : Track} (h : a.Thinned b) (g : b.Thinned c) : a.Thinned c := by
  obtain ⟨f, hf, hs⟩ := h.marks
  obtain ⟨f', hf', hs'⟩ := g.marks
  refine ⟨g.nextTag.trans h.nextTag, g.entryCount.trans h.entryCount, f' ∘ f, fun m => (hf m).trans (hf' _), ?_⟩
  rw [← List.map_map]
  exact hs'.trans (map_subperm f' hs)

/-- Marks leave a track. -/
theorem Track.Thinned.filter (t : Track) (p : Mark → Bool) : t.Thinned { t with marks := t.marks.filter p } :=
  ⟨rfl, rfl, id, Mark.Stays.refl, by rw [List.map_id]; exact List.filter_sublist.subperm⟩

/-- A mark is rewritten in its place. -/
theorem Track.Thinned.update (t : Track) (tag : Nat) {f : Mark → Mark} (hf : ∀ m : Mark, m.Stays (f m)) :
    t.Thinned (t.update tag f) := by
  refine ⟨rfl, rfl, fun m => if m.tag = tag then f m else m, fun m => ?_, List.Subperm.refl _⟩
  dsimp only
  split
  · exact hf m
  · exact Mark.Stays.refl m

theorem insertMark_perm (b : Word) (m : Mark) : ∀ l : List Mark, (insertMark b m l).Perm (m :: l)
  | [] => .refl _
  | x :: l => by
    unfold insertMark
    split
    · exact .refl _
    · exact ((insertMark_perm b m l).cons x).trans (.swap m x l)

/-- A mark moves to another place (R39). -/
theorem Track.Thinned.move {e : Env} {t t' : Track} {tag : Nat} {p : Pos} (h : t.move e tag p = some t') :
    t.Thinned t' := by
  unfold Track.move at h
  split at h
  · cases h
  · next m hm =>
    split at h
    · obtain rfl := Option.some.inj h
      have htag : m.tag = tag := by simpa using List.find?_some hm
      set f : Mark → Mark := fun x => if x.tag = tag then { x with start := p } else x with hf
      refine ⟨rfl, rfl, f, fun x => ?_, ?_⟩
      · by_cases hx : x.tag = tag
        · simp only [hf, if_pos hx]
          exact ⟨rfl, rfl, .inl rfl⟩
        · simp only [hf, if_neg hx]
          exact Mark.Stays.refl x
      · have erased : (m :: (t.remove tag).marks).Subperm t.marks := by
          have split := List.perm_cons_erase (List.mem_of_find?_eq_some hm)
          have left : (t.remove tag).marks.Subperm (t.marks.erase m) := by
            refine (split.filter _).subperm.trans ?_
            rw [List.filter_cons_of_neg (by simp [htag])]
            exact List.filter_sublist.subperm
          exact ((List.subperm_cons m).mpr left).trans split.symm.subperm
        have moved : f m = { m with start := p } := if_pos htag
        have others : (t.remove tag).marks.map f = (t.remove tag).marks := by
          refine (List.map_congr_left fun x hx => ?_).trans (List.map_id _)
          have hx : x.tag ≠ tag := by simpa using (List.mem_filter.mp hx).2
          exact if_neg hx
        refine (insertMark_perm _ _ _).subperm.trans ?_
        have := map_subperm f erased
        rwa [List.map_cons, moved, others] at this
    · cases h

section
variable {t t' : Track} (h : t.Thinned t')
include h

/-- A mark of the later track is one of the earlier. -/
theorem Track.Thinned.origin {m' : Mark} (hm : m' ∈ t'.marks) : ∃ m ∈ t.marks, m.Stays m' := by
  obtain ⟨f, hf, hs⟩ := h.marks
  obtain ⟨m, hmem, rfl⟩ := List.mem_map.mp (hs.subset hm)
  exact ⟨m, hmem, hf m⟩

/-- Marks of a sort that marks do not change are not more than before. -/
theorem Track.Thinned.countP_le {p : Mark → Bool} (hp : ∀ m m' : Mark, m.Stays m' → p m' = p m) :
    t'.marks.countP p ≤ t.marks.countP p := by
  obtain ⟨f, hf, hs⟩ := h.marks
  refine (hs.countP_le p).trans_eq ?_
  rw [List.countP_map]
  exact List.countP_congr fun m _ => by simp [hp _ _ (hf m)]

theorem Track.Thinned.length_le : t'.marks.length ≤ t.marks.length := by
  simpa using h.countP_le (p := fun _ => true) fun _ _ _ => rfl

theorem Track.Thinned.window_le : t'.window.length ≤ t.window.length := by
  simpa only [Track.window_length] using h.countP_le fun _ _ => Mark.Stays.inWindow

theorem Track.Thinned.defects_le : t'.defects.length ≤ t.defects.length := by
  simp only [Track.defects, ← List.countP_eq_length_filter]
  exact h.countP_le fun m m' g => by rw [g.kind]

theorem Track.Thinned.tags_nodup (hn : (t.marks.map Mark.tag).Nodup) : (t'.marks.map Mark.tag).Nodup := by
  obtain ⟨f, hf, hs⟩ := h.marks
  have tags : (t.marks.map f).map Mark.tag = t.marks.map Mark.tag := by
    rw [List.map_map]
    exact List.map_congr_left fun m _ => (hf m).tag
  obtain ⟨k, hp, hk⟩ := map_subperm Mark.tag hs
  rw [tags] at hk
  exact (hp.nodup_iff).mp (hk.nodup hn)

theorem Track.Thinned.entries (he : ∀ m ∈ t.marks, m.entry < t.entryCount) :
    ∀ m ∈ t'.marks, m.entry < t'.entryCount := by
  intro m' hm'
  obtain ⟨m, hm, hs⟩ := h.origin hm'
  rw [hs.entry, h.entryCount]
  exact he m hm

end

/-- The bounds of the track hold of one of which marks have left. -/
theorem Track.Thinned.room {w w' : Work} (h : w.track.Thinned w'.track) (r : w.TrackRoom) : w'.TrackRoom where
  marks := h.length_le.trans r.marks
  defects := h.defects_le.trans r.defects
  tags := h.tags_nodup r.tags
  counter := by rw [h.nextTag]; exact r.counter
  entries := h.entries r.entries

/-! ## The frame of an announcement -/

/-- Two states of the blocks between which marks may leave the track, and the orders of the sequence are the same. -/
structure PlanFrame (w w' : Work) : Prop where
  track : w.track.Thinned w'.track
  sequence : w'.seq.sequence.map Order.tag = w.seq.sequence.map Order.tag

theorem PlanFrame.refl (w : Work) : PlanFrame w w := ⟨Track.Thinned.refl _, rfl⟩

theorem PlanFrame.trans {a b c : Work} (h : PlanFrame a b) (g : PlanFrame b c) : PlanFrame a c :=
  ⟨h.track.trans g.track, g.sequence.trans h.sequence⟩

/-- A change of neither the track nor the sequencer. -/
theorem PlanFrame.of_eq {w w' : Work} (ht : w'.track = w.track) (hs : w'.seq = w.seq) : PlanFrame w w' :=
  ⟨ht ▸ Track.Thinned.refl _, by rw [hs]⟩

theorem NoticeFrame.plan {w w' : Work} (h : NoticeFrame w w') : PlanFrame w w' := .of_eq h.track h.seq

theorem foldl_plan {α : Type} (f : Work → α → Work) (h : ∀ w x, PlanFrame w (f w x)) :
    ∀ (l : List α) (w : Work), PlanFrame w (l.foldl f w)
  | [], w => PlanFrame.refl w
  | x :: rest, w => (h w x).trans (foldl_plan f h rest (f w x))

theorem iterate_plan {f : Work → Work} (h : ∀ w, PlanFrame w (f w)) : ∀ (n : Nat) (w : Work), PlanFrame w (f^[n] w)
  | 0, w => PlanFrame.refl w
  | n + 1, w => (h w).trans (iterate_plan h n (f w))

/-- An order is rewritten under its tag. -/
theorem updOrder_plan (w : Work) (tag : Nat) {f : Order → Order} (hf : ∀ o, (f o).tag = o.tag) :
    PlanFrame w (w.updOrder tag f) := by
  refine ⟨Track.Thinned.refl _, ?_⟩
  simp only [Work.updOrder, Sequencer.update, List.map_map]
  refine List.map_congr_left fun o _ => ?_
  simp only [Function.comp]
  split
  · exact hf o
  · rfl

theorem updTallies_plan (w : Work) (tag : Nat) (f : Tallies → Tallies) : PlanFrame w (w.updTallies tag f) :=
  updOrder_plan w tag fun _ => rfl

/-! ## Removals and moves (R39, R107, R125) -/

theorem removeUntaken_frame (tag : Nat) (w : Work) : NoticeFrame w (removeUntaken tag w) :=
  (foldl_frame _ (fun w p => setDesk_frame w p _) allPorts w).trans (NoticeFrame.replace _ _ _)

/-- A proposal withdrawn leaves its mark PLANNED (R125). -/
theorem withdrawFor_plan (changeTag : Nat) (w : Work) : PlanFrame w (withdrawFor changeTag w) := by
  unfold withdrawFor
  split
  · exact PlanFrame.refl w
  · next p _ =>
    have untaken := (removeUntaken_frame p.tag
      { w with prop := { w.prop with list := w.prop.list.filter fun x => x.changeTag != changeTag } }).plan
    have shorter : PlanFrame w
        { w with prop := { w.prop with list := w.prop.list.filter fun x => x.changeTag != changeTag } } := .of_eq rfl rfl
    refine (shorter.trans untaken).trans ⟨Track.Thinned.update _ _ Mark.Stays.withdrawn, rfl⟩

theorem unlink_plan (w : Work) (i j : Nat) : PlanFrame w (w.unlink i j) := by
  refine PlanFrame.trans ?_ (updOrder_plan _ j fun _ => rfl)
  exact updOrder_plan w i fun _ => rfl

section
variable {a : Work → Work} (ha : ∀ w, PlanFrame w (a w))
include ha

theorem removeChange_plan (w : Work) (tag : Nat) : PlanFrame w (removeChange a w tag) := by
  unfold removeChange
  split
  · exact PlanFrame.refl w
  · split
    · exact PlanFrame.refl w
    · split
      · refine PlanFrame.trans ?_ (ha _)
        exact ((withdrawFor_plan tag w).trans (unlink_plan _ _ _)).trans ⟨Track.Thinned.filter _ _, rfl⟩
      · exact PlanFrame.refl w

theorem removeChanges_plan (tags : List Nat) (w : Work) : PlanFrame w (removeChanges a tags w) :=
  (foldl_plan _ (fun w g => withdrawFor_plan g w) _ w).trans (foldl_plan _ (removeChange_plan ha) _ _)

end

theorem moveTo_plan {e : Env} {g i j : Nat} {p : Placed} {w w' : Work} (h : moveTo e g i j p w = some w') :
    PlanFrame w w' := by
  obtain ⟨t, ht, rfl⟩ := Option.map_eq_some_iff.mp h
  have moved : PlanFrame w { w with track := t, owed := { w.owed with due := true } } := ⟨.move ht, rfl⟩
  refine PlanFrame.trans ?_ (updOrder_plan _ j fun _ => rfl)
  exact moved.trans (updOrder_plan _ i fun _ => rfl)

theorem placeMarks_plan (e : Env) : ∀ (tags : List Nat) (n : Nat) (w : Work),
    PlanFrame w (placeMarks e tags n w).work
  | [], n, w => PlanFrame.refl w
  | g :: rest, n, w => by
    unfold placeMarks
    split
    · exact placeMarks_plan e rest n w
    · split
      · exact placeMarks_plan e rest n w
      · split
        · exact ⟨Track.Thinned.refl _, rfl⟩
        · split
          · exact placeMarks_plan e rest n w
          · next h => exact (moveTo_plan h).trans (placeMarks_plan e rest (n + 1) _)

section
variable {a : Work → Work} (ha : ∀ w, PlanFrame w (a w))
include ha

theorem placeAll_plan (e : Env) (tags : List Nat) (w : Work) : PlanFrame w (placeAll e a tags w) :=
  ((placeMarks_plan e tags 0 w).trans (removeChanges_plan ha _ _)).trans (iterate_plan ha _ _)

theorem moveOrder_plan (e : Env) (i c : Nat) (w : Work) : PlanFrame w (moveOrder e a i c w).1 := by
  have placed : ∀ (tags : List Nat) (f : Order → Order), (∀ o, (f o).tag = o.tag) →
      PlanFrame w (placeAll e a tags (w.updOrder i f)) := fun tags f hf =>
    (updOrder_plan w i hf).trans (placeAll_plan ha e tags _)
  unfold moveOrder
  split
  · exact PlanFrame.refl w
  · split
    · exact updOrder_plan w i fun _ => rfl
    · split
      · exact placed _ _ fun _ => rfl
      · exact placed _ _ fun _ => rfl
      · exact PlanFrame.refl w

/-! ## The recompute and the announcements (R37, R142, R143) -/

omit ha in
theorem raiseShort_plan (e : Env) (tag : Nat) (w : Work) : PlanFrame w (raiseShort e tag w) := by
  unfold raiseShort
  split
  · exact PlanFrame.refl w
  · split
    · exact PlanFrame.refl w
    · exact (updTallies_plan w tag _).trans (raiseAlarm_frame _ _ _ _).plan

theorem recomputePass_plan (e : Env) : ∀ (tags : List Nat) (w : Work), PlanFrame w (recomputePass e a tags w)
  | [], w => PlanFrame.refl w
  | tag :: rest, w => by
    unfold recomputePass
    split
    · exact recomputePass_plan e rest w
    · next o f _ =>
      have forecast := updTallies_plan w tag fun t => { t with forecast := f }
      have moved := forecast.trans (moveOrder_plan ha e tag (o.given.required - f) _)
      dsimp only
      split
      · exact forecast.trans (recomputePass_plan e rest _)
      · split
        · next hm =>
          rw [hm] at moved
          exact (moved.trans (raiseShort_plan e tag _)).trans (recomputePass_plan e rest _)
        · next hm =>
          rw [hm] at moved
          exact moved.trans (recomputePass_plan e rest _)
        · next hm =>
          rw [hm] at moved
          exact moved.trans (recomputePass_plan e rest _)

end

theorem recomputeWithin_plan (e : Env) : ∀ (n : Nat) (w : Work), PlanFrame w (recomputeWithin e n w)
  | 0, w => PlanFrame.refl w
  | n + 1, w => recomputePass_plan (recomputeWithin_plan e n) e _ w

/-- What an announcement of a departure or a move can change. -/
theorem announce_plan (e : Env) (w : Work) : PlanFrame w (announce e w) := recomputeWithin_plan e _ w

/-- What an announcement of an extent can change. -/
theorem announceExtent_plan (e : Env) (m : Mark) (w : Work) : PlanFrame w (announceExtent e m w) := by
  refine PlanFrame.trans ?_ (announce_plan e _)
  exact .of_eq rfl rfl

end Sys2Proof.Machine
end

section
/-! SUPPORT. What freeing an entry of a full track can change (R36), and what the evaluation of a new end mark can (R34). -/

namespace Sys2Proof.Machine

/-! ## A freed entry (R36) -/

/-- The closest pair of a list is one of it. -/
theorem closestPair_mem {l : List MergePair} {p : MergePair} (h : closestPair l = some p) : p ∈ l := by
  have chosen : ∀ (l : List MergePair) (x : MergePair),
      l.foldl (fun best q => if q.gap < best.gap then q else best) x ∈ x :: l := by
    intro l
    induction l with
    | nil => simp
    | cons y l ih =>
      intro x
      rw [List.foldl_cons]
      split
      · exact List.mem_cons_of_mem _ (ih y)
      · exact List.mem_cons.mpr ((List.mem_cons.mp (ih x)).imp_right (List.mem_cons_of_mem y))
  cases l with
  | nil => cases h
  | cons x l => exact Option.some.inj h ▸ chosen l x

/-- The marks of a pair of candidates are candidates. -/
theorem mergePairs_first {e : Env} {p : MergePair} : ∀ {l : List Mark}, p ∈ mergePairs e l → p.first ∈ l
  | [], h => by simp [mergePairs] at h
  | [_], h => by simp [mergePairs] at h
  | m :: n :: rest, h => by
    rw [mergePairs, List.mem_cons] at h
    rcases h with rfl | h
    · simp
    · exact List.mem_cons_of_mem _ (mergePairs_first h)

/-- A mark rewritten under its tag, where tags are distinct, is the only one. -/
theorem Track.update_const {t : Track} (hn : (t.marks.map Mark.tag).Nodup) {m : Mark} (hm : m ∈ t.marks)
    (f : Mark → Mark) : (t.update m.tag fun _ => f m) = t.update m.tag f := by
  unfold Track.update
  congr 1
  refine List.map_congr_left fun x hx => ?_
  by_cases h : x.tag = m.tag
  · rw [List.inj_on_of_nodup_map hn hx hm h]
  · simp [h]

/-- What freeing an entry can change. -/
theorem freeEntry_plan {e : Env} {w w' : Work} (hn : (w.track.marks.map Mark.tag).Nodup)
    (h : freeEntry e w = some w') : PlanFrame w w' := by
  unfold freeEntry at h
  split at h
  · cases h
  · next p hp =>
    obtain rfl := Option.some.inj h
    have first : p.first ∈ w.track.marks :=
      List.mem_of_mem_filter (List.mem_of_mem_filter (mergePairs_first (closestPair_mem hp)))
    have grown : PlanFrame w
        { w with track := w.track.update p.first.tag fun _ => p.first.reachTo e (e.ahead p.second.finish) } := by
      rw [Track.update_const hn first fun m => m.reachTo e (e.ahead p.second.finish)]
      exact ⟨Track.Thinned.update _ _ fun m => ⟨rfl, rfl, .inl rfl⟩, rfl⟩
    have told := grown.trans (announceExtent_plan e (p.first.reachTo e (e.ahead p.second.finish)) _)
    refine (told.trans ?_).trans (announce_plan e _)
    exact ⟨Track.Thinned.filter _ _, rfl⟩

/-! ## The evaluation of a mark that is not committed (R43, R45) -/

theorem pulse_plan (e : Env) (c : CueLine) (w : Work) : PlanFrame w (pulse e c w) := by
  unfold pulse
  dsimp only
  split
  · exact .of_eq rfl rfl
  · refine PlanFrame.trans ?_ (raiseAlarm_frame _ _ _ _).plan
    exact .of_eq rfl rfl

theorem pulseStation_plan (e : Env) (st : Station) (w : Work) : PlanFrame w (pulseStation e st w) := by
  unfold pulseStation
  split
  · exact PlanFrame.refl w
  · exact pulse_plan e _ w

theorem postStation_plan (e : Env) (st : Station) (b : StationBody) (w : Work) : PlanFrame w (postStation e st b w) := by
  unfold postStation
  split
  · exact PlanFrame.refl w
  · exact (post_frame _ _ _ _).plan

theorem setRamp_plan (w : Work) (i : StationIx) (r : Option Ramp) : PlanFrame w (w.setRamp i r) := .of_eq rfl rfl

/-- The step test of a ramp leaves the track and the sequencer alone (R60). -/
theorem rampTest_plan (e : Env) (before : Option Pos) (created : Bool) (w : Work) (i : StationIx) :
    PlanFrame w (rampTest e before created w i) := by
  unfold rampTest
  split
  · split
    · unfold deliverStep
      dsimp only
      refine PlanFrame.trans ?_ (setRamp_plan _ _ _)
      refine PlanFrame.trans ?_ (pulseStation_plan _ _ _)
      refine PlanFrame.trans ?_ (postStation_plan _ _ _ _)
      exact .of_eq rfl rfl
    · exact PlanFrame.refl w
  · exact PlanFrame.refl w

theorem retireMarks_plan (e : Env) (except : Option Nat) (w : Work) : PlanFrame w (retireMarks e except w) := by
  unfold retireMarks
  split
  · exact ⟨Track.Thinned.filter _ _, rfl⟩
  · exact PlanFrame.refl w

theorem Mark.uncommitted_not_committed {m : Mark} (h : m.uncommitted = true) : m.changeState? ≠ some .committed := by
  intro hc
  simp [Mark.uncommitted, hc] at h

/-- A mark that is PLANNED or PROPOSED passes no point (R44, R46). -/
theorem passPoint_uncommitted {e : Env} {a : Mark → Work → Work} {commit : Bool} {n : Nat} {w : Work}
    (h : ∀ m ∈ w.track.marks, m.entry = n → m.uncommitted = true) (x : LinePoint) :
    passPoint e a commit n w x = w := by
  have found : ∀ m, w.track.byEntry n = some m → m.uncommitted = true := fun m hm =>
    h m (List.mem_of_find?_eq_some hm) (by simpa using List.find?_some hm)
  cases x with
  | none =>
    unfold passPoint passDatum
    dsimp only
    split
    · rfl
    · next m hm =>
      have := Mark.uncommitted_not_committed (found m hm)
      simp [this]
  | some i =>
    unfold passPoint passStation
    dsimp only
    split
    · next st m _ hm => simp [found m hm]
    · rfl

/-- What the evaluation of a mark that is PLANNED or PROPOSED can change. -/
theorem evaluateOne_plan {e : Env} {n : Nat} {w : Work}
    (h : ∀ m ∈ w.track.marks, m.entry = n → m.uncommitted = true) : PlanFrame w (evaluateOne e n w) := by
  have passed : [n].foldl (passMark e noArrival false) w = w := List.foldl_fixed' (passPoint_uncommitted h) (linePoints e)
  unfold evaluateOne evaluate
  dsimp only
  rw [passed]
  exact (foldl_plan _ (fun w i => rampTest_plan e _ false w i) allStations w).trans (retireMarks_plan e _ _)

end Sys2Proof.Machine
end

section
/-! SUPPORT. The extension of the chain (R103): the order whose end mark is created, the mark it is given, and what every round
keeps. -/

namespace Sys2Proof.Machine

/-! ## Successors -/

/-- The successor of a tag is read off the tags of the sequence. -/
theorem successorIn_tags (g : Nat) : ∀ {l l' : List Order}, l.map Order.tag = l'.map Order.tag →
    (successorIn g l).map Order.tag = (successorIn g l').map Order.tag
  | [], [], _ => rfl
  | [_], [_], _ => rfl
  | a :: b :: l, a' :: b' :: l', h => by
    obtain ⟨ha, hb, hl⟩ : a.tag = a'.tag ∧ b.tag = b'.tag ∧ l.map Order.tag = l'.map Order.tag := by simpa using h
    have tail : (b :: l).map Order.tag = (b' :: l').map Order.tag := by simp [hb, hl]
    simp only [successorIn, ha]
    split
    · simp [hb]
    · exact successorIn_tags g tail
  | [], _ :: _, h => by simp at h
  | [_], [], h => by simp at h
  | [_], _ :: _ :: _, h => by simp at h
  | _ :: _ :: _, [], h => by simp at h
  | _ :: _ :: _, [_], h => by simp at h

/-- The order after the first of its tag is its successor. -/
theorem successorIn_append {o p : Order} (rest : List Order) : ∀ {l : List Order}, (∀ x ∈ l, x.tag ≠ o.tag) →
    successorIn o.tag (l ++ o :: p :: rest) = some p
  | [], _ => by simp [successorIn]
  | [a], h => by
    have ha : a.tag ≠ o.tag := h a (by simp)
    simp [successorIn, ha]
  | a :: b :: l, h => by
    have ha : a.tag ≠ o.tag := h a (by simp)
    have ih := successorIn_append (p := p) rest (l := b :: l) fun x hx => h x (List.mem_cons_of_mem a hx)
    simpa [successorIn, ha] using ih

/-- The order that extension takes leads to its successor (R103). -/
theorem toExtend_successor {w : Work} {i j : Order} (h : toExtend w = some (i, j)) :
    w.seq.successor i.tag = some j := by
  unfold toExtend at h
  dsimp only at h
  split at h
  · cases h
  · obtain ⟨k, hk, hp⟩ := Option.map_eq_some_iff.mp h
    obtain ⟨rfl, rfl⟩ := Prod.mk.inj hp
    exact hk

/-- From the running order on, the first order with a start and neither an end mark nor a committed end is the one that
extension takes, where it has a successor (R103). -/
theorem toExtend_eq {w : Work} {passed first later : List Order} {i j : Order}
    (hn : (w.seq.sequence.map Order.tag).Nodup) (hs : w.seq.sequence = passed ++ (first ++ i :: j :: later))
    (hp : ∀ o ∈ passed, w.seq.running ≠ some o.tag)
    (hr : ∀ o, (first ++ [i]).head? = some o → w.seq.running = some o.tag)
    (hf : ∀ o ∈ first, o.startPos = none ∨ o.endTag ≠ none ∨ o.endCommitted = true)
    (h1 : i.startPos ≠ none) (h2 : i.endTag = none) (h3 : i.endCommitted = false) : toExtend w = some (i, j) := by
  have successor : w.seq.successor i.tag = some j := by
    have apart : ∀ x ∈ passed ++ first, x.tag ≠ i.tag := by
      intro x hx heq
      rw [hs, ← List.append_assoc, List.map_append, List.nodup_append] at hn
      exact hn.2.2 x.tag (List.mem_map_of_mem hx) i.tag (by simp) heq
    rw [Sequencer.successor, hs, ← List.append_assoc]
    exact successorIn_append later apart
  have fromRunning : (w.seq.sequence.dropWhile fun o => some o.tag != w.seq.running) = first ++ i :: j :: later := by
    rw [hs, List.dropWhile_append_of_pos fun o ho => by simpa using (hp o ho).symm]
    cases first with
    | nil => simp [hr i rfl]
    | cons o first => simp [hr o rfl]
  have skipped : ∀ o ∈ first, ¬(o.startPos.isSome && o.endTag.isNone && !o.endCommitted &&
      (w.seq.successor o.tag).isSome) = true := by
    intro o ho
    rcases hf o ho with h | h | h <;> simp_all
  have taken : ((first ++ i :: j :: later).find? fun o => o.startPos.isSome && o.endTag.isNone && !o.endCommitted &&
      (w.seq.successor o.tag).isSome) = some i := by
    rw [List.find?_append, List.find?_eq_none.mpr skipped, Option.none_or]
    simp [Option.isSome_iff_ne_none, h1, h2, h3, successor]
  simp only [toExtend, fromRunning, taken, successor, Option.map_some]

/-! ## The mark that is created -/

/-- Two rewritings of the order with a tag are one. -/
theorem Sequencer.update_update (q : Sequencer) (tag : Nat) {f g : Order → Order} (hf : ∀ o, (f o).tag = o.tag) :
    (q.update tag f).update tag g = q.update tag fun o => g (f o) := by
  have both : ∀ l : List Order, (l.map fun o => if o.tag = tag then f o else o).map
      (fun o => if o.tag = tag then g o else o) = l.map fun o => if o.tag = tag then g (f o) else o := by
    intro l
    rw [List.map_map]
    refine List.map_congr_left fun o _ => ?_
    by_cases h : o.tag = tag <;> simp [h, hf]
  simp only [Sequencer.update, both]

/-- The end mark that a position and a pair of orders give (R103). -/
def Work.endMarkAt (w : Work) (i j : Nat) (p : Placed) : Mark :=
  ⟨assignTag (w.track.marks.map Mark.tag) w.track.nextTag, .change i j .planned false, p.pos, 0, 0, 0, w.track.entryCount⟩

/-- The track and the orders with that mark (R103). -/
def Work.withEnd (e : Env) (i j : Nat) (p : Placed) (w : Work) : Work :=
  { w with
    track := w.track.put e (.change i j .planned false) p.pos 0 0 0
    seq := (w.seq.update i fun o => { o with planned := p.planned, endTag := some (w.endMarkAt i j p).tag }).update j
      fun o => { o with startTag := some (w.endMarkAt i j p).tag, startPos := some p.pos } }

/-- The marks with that one are those of before and it (R103). -/
theorem withEnd_marks (e : Env) (i j : Nat) (p : Placed) (w : Work) :
    (w.withEnd e i j p).track.marks.Perm (w.endMarkAt i j p :: w.track.marks) := insertMark_perm _ _ _

/-- The mark announced, the due test owed, and the mark evaluated (R34, R37, R113). -/
def createEnd (e : Env) (i j : Nat) (p : Placed) (w : Work) : Work :=
  let told := announceExtent e (w.endMarkAt i j p) (w.withEnd e i j p)
  evaluateOne e w.track.entryCount { told with owed := { told.owed with due := true } }

/-- A round of an extension with room in the window and the track, and a position (R103). -/
theorem extendLoop_create {e : Env} {w : Work} {i j : Order} {p : Placed} (n : Nat) (hx : toExtend w = some (i, j))
    (hw : w.track.window.length < 8) (hp : placement e w.seq { i with planned := i.plannedNow } j.tag = some p)
    (hm : w.track.marks.length < 192) (he : ∀ m ∈ w.track.marks, m.entry < w.track.entryCount) :
    extendLoop e (n + 1) w = extendLoop e n (createEnd e i.tag j.tag p w) := by
  have recorded : recordMark e (.change i.tag j.tag .planned false) p.pos 0
      (w.updOrder i.tag fun o => { o with planned := p.planned }) =
        ({ w.updOrder i.tag fun o => { o with planned := p.planned } with
            track := w.track.put e (.change i.tag j.tag .planned false) p.pos 0 0 0 },
          some (w.endMarkAt i.tag j.tag p)) := Prod.ext rfl (Track.put_newest e he _ _ _ _ _)
  have linked : ({ w.updOrder i.tag fun o => { o with planned := p.planned } with
      track := w.track.put e (.change i.tag j.tag .planned false) p.pos 0 0 0 } : Work).link i.tag j.tag
        (w.endMarkAt i.tag j.tag p) = w.withEnd e i.tag j.tag p := by
    simp only [Work.link, Work.updOrder, Work.withEnd]
    rw [Sequencer.update_update w.seq i.tag (f := fun o => { o with planned := p.planned }) fun _ => rfl]
    rfl
  rw [extendLoop, hx]
  simp only [hp, Config.planWindow, Config.trackLimit, if_pos hw, if_pos hm, recorded, linked]
  rfl

/-! ## What every round keeps -/

/-- An extension begun at `w0` and come to `w`: the bounds of the track and the sequence of orders are kept, the plan window
holds at most 8 marks where it held no more, and each mark it has entered is PLANNED and leads from an order to its
successor. -/
structure Extended (w0 w : Work) : Prop where
  room : w.TrackRoom
  sequence : w.seq.sequence.map Order.tag = w0.seq.sequence.map Order.tag
  window : w.track.window.length ≤ max 8 w0.track.window.length
  entered : ∀ m ∈ w.track.marks, (∀ x ∈ w0.track.marks, x.tag ≠ m.tag) →
    ∃ i j k, m.body = .change i j .planned false ∧ w0.seq.successor i = some k ∧ k.tag = j

theorem Extended.start {w : Work} (h : w.TrackRoom) : Extended w w :=
  ⟨h, rfl, le_max_right _ _, fun m hm hx => absurd rfl (hx m hm)⟩

/-- What leaves the sequence of orders and only thins the track goes on with an extension. -/
theorem Extended.plan {w0 w w' : Work} (h : Extended w0 w) (g : PlanFrame w w') : Extended w0 w' where
  room := g.track.room h.room
  sequence := g.sequence.trans h.sequence
  window := g.track.window_le.trans h.window
  entered m' hm' hx := by
    obtain ⟨m, hm, hs⟩ := g.track.origin hm'
    obtain ⟨i, j, k, hb, hk⟩ := h.entered m hm fun x hx' => hs.tag ▸ hx x hx'
    exact ⟨i, j, k, hs.planned hb, hk⟩

/-- A track with room that takes a change keeps its bounds. -/
theorem withEnd_room {e : Env} {w : Work} (i j : Nat) (p : Placed) (h : w.TrackRoom) (hm : w.track.marks.length < 192) :
    (w.withEnd e i j p).TrackRoom := by
  have perm := withEnd_marks e i j p w
  have fresh := assignTag_not_mem h.counter (used := w.track.marks.map Mark.tag) (by simp; omega)
  refine ⟨?_, ?_, ?_, succTag_range _, fun m hmem => ?_⟩
  · rw [perm.length_eq]
    exact hm
  · have same : ((w.withEnd e i j p).track.defects).Perm w.track.defects :=
      (perm.filter _).trans (by rw [List.filter_cons_of_neg (by simp [Work.endMarkAt, Mark.kind, MarkBody.kind])]; rfl)
    rw [same.length_eq]
    exact h.defects
  · rw [(perm.map Mark.tag).nodup_iff]
    exact List.nodup_cons.mpr ⟨fresh, h.tags⟩
  · rcases List.mem_cons.mp (perm.subset hmem) with rfl | hmem
    · exact Nat.lt_succ_self _
    · exact Nat.lt_succ_of_lt (h.entries m hmem)

theorem withEnd_sequence (e : Env) (i j : Nat) (p : Placed) (w : Work) :
    (w.withEnd e i j p).seq.sequence.map Order.tag = w.seq.sequence.map Order.tag := by
  have frame : PlanFrame w ((w.updOrder i fun o =>
      { o with planned := p.planned, endTag := some (w.endMarkAt i j p).tag }).updOrder j fun o =>
        { o with startTag := some (w.endMarkAt i j p).tag, startPos := some p.pos }) := by
    refine PlanFrame.trans ?_ (updOrder_plan _ j fun _ => rfl)
    exact updOrder_plan w i fun _ => rfl
  exact frame.sequence

/-- The entry of an end mark goes on with an extension (R103). -/
theorem Extended.withEnd {e : Env} {w0 w : Work} {i j : Nat} {k : Order} (p : Placed) (h : Extended w0 w)
    (hm : w.track.marks.length < 192) (hw : w.track.window.length < 8) (hs : w.seq.successor i = some k)
    (hj : k.tag = j) : Extended w0 (w.withEnd e i j p) := by
  have perm := withEnd_marks e i j p w
  refine ⟨withEnd_room i j p h.room hm, (withEnd_sequence e i j p w).trans h.sequence, ?_, fun m hmem hx => ?_⟩
  · rw [Track.window_length] at hw ⊢
    rw [perm.countP_eq, List.countP_cons]
    split <;> omega
  · rcases List.mem_cons.mp (perm.subset hmem) with rfl | hmem
    · have tags := successorIn_tags i h.sequence
      rw [← Sequencer.successor, hs] at tags
      obtain ⟨k', hk', hk⟩ := Option.map_eq_some_iff.mp tags.symm
      exact ⟨i, j, k', rfl, hk', hk.trans hj⟩
    · exact h.entered m hmem hx

/-- A round that creates an end mark goes on with an extension (R103). -/
theorem Extended.createEnd {e : Env} {w0 w : Work} {i j : Nat} {k : Order} (p : Placed) (h : Extended w0 w)
    (hm : w.track.marks.length < 192) (hw : w.track.window.length < 8) (hs : w.seq.successor i = some k)
    (hj : k.tag = j) : Extended w0 (createEnd e i j p w) := by
  unfold Machine.createEnd
  have told := announceExtent_plan e (w.endMarkAt i j p) (w.withEnd e i j p)
  generalize announceExtent e (w.endMarkAt i j p) (w.withEnd e i j p) = t at told
  have owed : PlanFrame t { t with owed := { t.owed with due := true } } := .of_eq rfl rfl
  refine ((h.withEnd p hm hw hs hj).plan (told.trans owed)).plan (evaluateOne_plan ?_)
  intro m' hm' hn
  obtain ⟨m, hmem, hs⟩ := told.track.origin hm'
  have perm := withEnd_marks e i j p w
  rcases List.mem_cons.mp (perm.subset hmem) with rfl | hmem
  · have planned := hs.planned (i := i) (j := j) (late := false) rfl
    simp [Mark.uncommitted, Mark.changeState?, planned]
  · have := h.room.entries m hmem
    rw [← hs.entry, hn] at this
    exact absurd this (lt_irrefl _)

/-- The indications of an attempt, and what the event owes. -/
theorem indications_plan (w : Work) (noPlace refused : Bool) (owed : Owed) :
    PlanFrame w { w with seq := { w.seq with noPlace := noPlace, trackRefused := refused }, owed := owed } :=
  ⟨Track.Thinned.refl _, rfl⟩

/-- Every round of an extension goes on with it (R103). -/
theorem extendLoop_extended {e : Env} {w0 : Work} : ∀ (n : Nat) {w : Work}, Extended w0 w →
    Extended w0 (extendLoop e n w)
  | 0, w, h => h
  | n + 1, w, h => by
    by_cases hc : ∃ i j p, toExtend w = some (i, j) ∧ w.track.window.length < 8 ∧
        placement e w.seq { i with planned := i.plannedNow } j.tag = some p ∧ w.track.marks.length < 192
    · obtain ⟨i, j, p, hx, hw, hp, hm⟩ := hc
      rw [extendLoop_create n hx hw hp hm h.room.entries]
      exact extendLoop_extended n (h.createEnd p hm hw (toExtend_successor hx) rfl)
    · rw [extendLoop]
      split
      · exact h
      · next i j hx =>
        split
        · next hw =>
          dsimp only
          split
          · refine h.plan (PlanFrame.trans ?_ (indications_plan _ true _ _))
            exact updOrder_plan w i.tag fun _ => rfl
          · next p hp =>
            have full : ¬w.track.marks.length < Config.trackLimit := fun hm => hc ⟨i, j, p, hx, hw, hp, hm⟩
            have placed : PlanFrame w (w.updOrder i.tag fun o => { o with planned := p.planned }) :=
              updOrder_plan w i.tag fun _ => rfl
            rw [if_neg full]
            split
            · next w2 hf => exact extendLoop_extended n ((h.plan placed).plan (freeEntry_plan h.room.tags hf))
            · refine (h.plan placed).plan (PlanFrame.trans ?_ (indications_plan _ _ true _))
              exact (raiseAlarm_frame _ _ _ _).plan
        · exact h

/-- An extension goes on from the state it is made in (R103). -/
theorem extendChain_extended (e : Env) {w : Work} (h : w.TrackRoom) : Extended w (extendChain e w) :=
  extendLoop_extended Config.orderLimit ((Extended.start h).plan (indications_plan w false false _))

/-- Settles O39: placement by `placement_feasible`, `placement_eq` and `placedCuts_eq`, what an extension keeps by
`extendChain_extended`, and the end mark it creates by `toExtend_eq` and `extendLoop_create`. -/
theorem placementIsFeasible : Obligations.PlacementIsFeasible := by
  refine ⟨⟨fun e q o j start x => placement_feasible, fun e w h => ?_⟩, fun e q o j n start => ⟨fun hs => ?_, ?_⟩, ?_⟩
  · have kept := extendChain_extended e h
    exact ⟨kept.window, kept.entered⟩
  · simp only [placement, hs]
  · intro hs hl h1 hd hn cuts
    rw [placement_eq j hs hl, placedCuts_eq hl h1 hd hn]
    exact ⟨fun h => if_neg (not_lt.mpr h), fun h => if_pos h⟩
  · intro e w passed first later i j p room hw hm hn hs hp hr hf h1 h2 h3 planned hpl tag m ended begun entered told
    have cleared : toExtend { w with
        seq := { w.seq with noPlace := false, trackRefused := false }
        owed := { w.owed with extend := false } } = some (i, j) := toExtend_eq hn hs hp hr hf h1 h2 h3
    exact extendLoop_create 31 cleared hw hpl hm room.entries

end Sys2Proof.Machine
end

section
/-! SUPPORT. What leaves the track alone: notices and cues, the station unit at a passage (R58), the cuts (R129), the levels and
fire conditions of a stand (R75, R76), the requirement rule (R88), the records at the stacker (R136), and proposals issued. -/

namespace Sys2Proof.Machine

/-! ## Notices, alarms and cues -/

@[simp] theorem post_track (e : Env) (b : NoticeBody) (src : Option Port) (w : Work) : (post e b src w).track = w.track :=
  (post_frame e b src w).track

@[simp] theorem raiseAlarm_track (e : Env) (k : AlarmKind) (x : Subject) (w : Work) :
    (raiseAlarm e k x w).track = w.track := (raiseAlarm_frame e k x w).track

@[simp] theorem removeUntaken_track (tag : Nat) (w : Work) : (removeUntaken tag w).track = w.track :=
  (removeUntaken_frame tag w).track

@[simp] theorem pulse_track (e : Env) (c : CueLine) (w : Work) : (pulse e c w).track = w.track := by
  unfold pulse
  dsimp only
  split
  · rfl
  · exact raiseAlarm_track _ _ _ _

/-- A fold whose every step leaves the track alone leaves it alone. -/
theorem foldl_track {α : Type} {f : Work → α → Work} (h : ∀ w x, (f w x).track = w.track) (l : List α) (w : Work) :
    (l.foldl f w).track = w.track :=
  List.foldlRecOn (motive := fun x => x.track = w.track) l f rfl fun x hx a _ => (h x a).trans hx

/-! ## The station unit (R58 to R64) -/

@[simp] theorem postStation_track (e : Env) (st : Station) (b : StationBody) (w : Work) :
    (postStation e st b w).track = w.track := by
  unfold postStation
  split <;> simp

@[simp] theorem pulseStation_track (e : Env) (st : Station) (w : Work) : (pulseStation e st w).track = w.track := by
  unfold pulseStation
  split <;> simp

@[simp] theorem markNotice_track (e : Env) (i : StationIx) (st : Station) (m : Mark) (a : StationAction) (w : Work) :
    (markNotice e i st m a w).track = w.track := by simp [markNotice]

@[simp] theorem rampTest_track (e : Env) (before : Option Pos) (created : Bool) (w : Work) (i : StationIx) :
    (rampTest e before created w i).track = w.track := by
  unfold rampTest
  split
  · split
    · simp [deliverStep]
    · rfl
  · rfl

@[simp] theorem changeover_track (e : Env) (i : StationIx) (st : Station) (m : Mark) (j : Nat) (late : Bool) (w : Work) :
    (changeover e i st m j late w).track = w.track := by
  unfold changeover endRamp
  dsimp only
  split <;> simp

@[simp] theorem slitterChange_track (e : Env) (i : StationIx) (st : Station) (m : Mark) (k j : Nat) (late : Bool)
    (w : Work) : (slitterChange e i st m k j late w).track = w.track := by
  unfold slitterChange
  split
  · rfl
  · split
    · rfl
    · simp

/-! ## Cuts and the switch (R128, R129) -/

@[simp] theorem makeCut_track (e : Env) (c : Schedule) (w : Work) : (makeCut e c w).track = w.track := by simp [makeCut]

@[simp] theorem makeCuts_track (e : Env) (limit : Option Pos) : ∀ (n : Nat) (w : Work),
    (makeCuts e limit n w).track = w.track
  | 0, w => rfl
  | n + 1, w => by
    unfold makeCuts
    split
    · rfl
    · split
      · rw [makeCuts_track e limit n, makeCut_track]
      · rfl

@[simp] theorem cutTest_track (e : Env) (limit : Option Pos) (w : Work) : (cutTest e limit w).track = w.track := by
  unfold cutTest
  split <;> simp

@[simp] theorem switchSchedule_track (e : Env) (t : Pos) (i j : Nat) (late : Bool) (w : Work) :
    (switchSchedule e t i j late w).track = w.track := by
  unfold switchSchedule
  dsimp only
  split
  all_goals simp only [cutTest_track, Work.updTallies_track, apply_ite Work.track, pulse_track, ite_self]

/-! ## A passage (R58) -/

@[simp] theorem knifeChangeover_track (e : Env) (i : StationIx) (st : Station) (m : Mark) (k j : Nat) (late : Bool)
    (w : Work) : (knifeChangeover e i st m k j late w).track = w.track := by simp [knifeChangeover]

@[simp] theorem changeBegin_track (e : Env) (i : StationIx) (st : Station) (m : Mark) (k j : Nat) (late : Bool)
    (w : Work) : (changeBegin e i st m k j late w).track = w.track := by
  unfold changeBegin
  cases st.kind <;> simp

/-- What the station unit does with a begin leaves the track alone. -/
@[simp] theorem beginPassage_track (e : Env) (i : StationIx) (st : Station) (m : Mark) (late : Bool) (w : Work) :
    (beginPassage e i st m late w).track = w.track := by
  unfold beginPassage
  split <;> simp

/-! ## Stands (R75 to R80, R88) -/

@[simp] theorem setLevel_track (e : Env) (k : Stand) (l : ReelLevel) (u : Nat) (w : Work) :
    (setLevel e k l u w).track = w.track := by
  unfold setLevel
  dsimp only
  repeat' split
  all_goals simp

@[simp] theorem evalLevel_track (e : Env) (k : Stand) (fresh : Bool) (w : Work) :
    (evalLevel e k fresh w).track = w.track := by
  unfold evalLevel
  dsimp only
  split <;> simp

@[simp] theorem fire_track (e : Env) (k : Stand) (w : Work) : (fire e k w).track = w.track := by simp [fire]

@[simp] theorem evalFire_track (e : Env) (sudden : Bool) (k : Stand) (w : Work) :
    (evalFire e sudden k w).track = w.track := by
  rcases evalFire_cases e sudden k w with h | ⟨_, _, h | ⟨_, _, h⟩⟩ <;> rw [h] <;> simp

@[simp] theorem evalFires_track (e : Env) (w : Work) : (evalFires e w).track = w.track :=
  foldl_track (fun w k => evalFire_track e false k w) allStands w

@[simp] theorem evalStand_track (e : Env) (k : Stand) (fresh : Bool) (w : Work) :
    (evalStand e k fresh w).track = w.track := by simp [evalStand]

@[simp] theorem standAdvance_track (e : Env) (c : Encoder) (w : Work) : (standAdvance e c w).track = w.track := by
  unfold standAdvance
  rw [evalFires_track, foldl_track fun w k => by simp]

@[simp] theorem requirementRule_track (e : Env) (k : Stand) (w : Work) : (requirementRule e k w).track = w.track := by
  unfold requirementRule
  split
  · rfl
  · split <;> simp

@[simp] theorem requirementRules_track (e : Env) (w : Work) : (requirementRules e w).track = w.track :=
  foldl_track (fun w k => requirementRule_track e k w) allStands w

@[simp] theorem swapReels_track (e : Env) (k : Stand) (j : Word) (w : Work) : (swapReels e k j w).track = w.track := by
  simp [swapReels]

@[simp] theorem failSplice_track (e : Env) (k : Stand) (w : Work) : (failSplice e k w).track = w.track := by
  simp [failSplice]

/-! ## The stacker and completion (R136, R137) -/

@[simp] theorem closeStack_track (e : Env) (j : Nat) (w : Work) : (closeStack e j w).track = w.track := by
  unfold closeStack
  split <;> simp

@[simp] theorem completionTest_track (e : Env) (j : Nat) (w : Work) : (completionTest e j w).track = w.track := by
  unfold completionTest completeOrder
  dsimp only
  repeat' split
  all_goals simp

@[simp] theorem departure_track (e : Env) (x : Sheet) (w : Work) : (departure e x w).track = w.track := by
  unfold departure
  dsimp only
  rw [completionTest_track]
  repeat' split
  all_goals simp

/-! ## Proposals issued and their results formed (R114, R115, R119) -/

@[simp] theorem postProposal_track (e : Env) (tag g : Nat) (sc : Scope) (w : Work) (r : Role) :
    (postProposal e tag g sc w r).track = w.track := by
  unfold postProposal
  repeat' split
  all_goals simp

@[simp] theorem issue_track (e : Env) (old : Nat) (sc : Scope) (w : Work) : (issue e old sc w).track = w.track := by
  unfold issue
  split
  · rfl
  · exact foldl_track (fun w r => postProposal_track e _ _ sc w r) [.dry, .wet] _

@[simp] theorem postResult_track (e : Env) (p : Proposal) (r : Result) (n : Nat) (stalled : Bool) (w : Work) :
    (postResult e p r n stalled w).track = w.track := by
  unfold postResult
  split <;> simp

@[simp] theorem formResult_track (e : Env) (p : Proposal) (w : Work) : (formResult e p w).track = w.track := by
  unfold formResult
  dsimp only
  split <;> simp

end Sys2Proof.Machine
end

section
/-! SUPPORT. The bounds of the track (`Work.TrackRoom`) through each operation on it: a mark put in, a mark rewritten, the track
put in order, an entry freed. -/

namespace Sys2Proof.Machine

/-! ## One mark -/

/-- A mark rewritten under its tag, its entry number and its kind. -/
structure Mark.Same (m m' : Mark) : Prop where
  tag : m'.tag = m.tag
  entry : m'.entry = m.entry
  kind : m'.kind = m.kind

theorem Mark.Same.refl (m : Mark) : m.Same m := ⟨rfl, rfl, rfl⟩

theorem Mark.Same.trans {a b c : Mark} (h : a.Same b) (g : b.Same c) : a.Same c :=
  ⟨g.tag.trans h.tag, g.entry.trans h.entry, g.kind.trans h.kind⟩

theorem Mark.Stays.same {m m' : Mark} (h : m.Stays m') : m.Same m' := ⟨h.tag, h.entry, h.kind⟩

theorem Mark.withState_same (m : Mark) (st : ChangeState) : m.Same (m.withState st) := by
  unfold Mark.withState
  split
  · next h => exact ⟨rfl, rfl, by simp [Mark.kind, h, MarkBody.kind]⟩
  · exact .refl m

theorem Mark.setLate_same (m : Mark) : m.Same m.setLate := by
  unfold Mark.setLate
  split
  · next h => exact ⟨rfl, rfl, by simp [Mark.kind, h, MarkBody.kind]⟩
  · exact .refl m

/-! ## Marks found in the track -/

theorem Track.find_mem {t : Track} {g : Nat} {m : Mark} (h : t.find g = some m) : m ∈ t.marks :=
  List.mem_of_find?_eq_some h

theorem Track.find_tag {t : Track} {g : Nat} {m : Mark} (h : t.find g = some m) : m.tag = g := by
  simpa using List.find?_some h

theorem Track.byEntry_mem {t : Track} {n : Nat} {m : Mark} (h : t.byEntry n = some m) : m ∈ t.marks :=
  List.mem_of_find?_eq_some h

theorem Track.byEntry_entry {t : Track} {n : Nat} {m : Mark} (h : t.byEntry n = some m) : m.entry = n := by
  simpa using List.find?_some h

/-- Where tags are distinct, the mark with the tag of a mark is that mark. -/
theorem Work.TrackRoom.eq_of_tag {w : Work} (h : w.TrackRoom) {m x : Mark} (hm : m ∈ w.track.marks)
    (hx : x ∈ w.track.marks) (ht : x.tag = m.tag) : x = m := List.inj_on_of_nodup_map h.tags hx hm ht

/-! ## The bounds -/

/-- The bounds are of the track alone. -/
theorem Work.TrackRoom.of_eq {w w' : Work} (h : w.TrackRoom) (ht : w'.track = w.track) : w'.TrackRoom where
  marks := ht ▸ h.marks
  defects := ht ▸ h.defects
  tags := ht ▸ h.tags
  counter := ht ▸ h.counter
  entries := ht ▸ h.entries

theorem Work.TrackRoom.plan {w w' : Work} (h : w.TrackRoom) (g : PlanFrame w w') : w'.TrackRoom := g.track.room h

/-- Each mark rewritten under its tag, its entry number and its kind. -/
theorem Work.TrackRoom.map {w w' : Work} (h : w.TrackRoom) {f : Mark → Mark} (hf : ∀ m ∈ w.track.marks, m.Same (f m))
    (ht : w'.track = { w.track with marks := w.track.marks.map f }) : w'.TrackRoom := by
  have tags : (w.track.marks.map f).map Mark.tag = w.track.marks.map Mark.tag := by
    rw [List.map_map]
    exact List.map_congr_left fun m hm => (hf m hm).tag
  have defects : (w.track.marks.map f).countP (fun m => decide (m.kind = .defect)) =
      w.track.marks.countP fun m => decide (m.kind = .defect) := by
    rw [List.countP_map]
    exact List.countP_congr fun m hm => by simp [(hf m hm).kind]
  refine ⟨?_, ?_, ?_, ?_, ?_⟩ <;> rw [ht]
  · rw [List.length_map]
    exact h.marks
  · have bound := h.defects
    rw [Track.defects, ← List.countP_eq_length_filter] at bound ⊢
    exact defects.trans_le bound
  · exact tags ▸ h.tags
  · exact h.counter
  · intro m' hm'
    obtain ⟨m, hm, rfl⟩ := List.mem_map.mp hm'
    exact (hf m hm).entry ▸ h.entries m hm

/-- The marks with a tag rewritten under it, their entry numbers and their kinds. -/
theorem Work.TrackRoom.update {w w' : Work} (h : w.TrackRoom) {g : Nat} {f : Mark → Mark}
    (hf : ∀ m ∈ w.track.marks, m.tag = g → m.Same (f m)) (ht : w'.track = w.track.update g f) : w'.TrackRoom := by
  refine h.map (f := fun m => if m.tag = g then f m else m) (fun m hm => ?_) ht
  split
  · next hg => exact hf m hm hg
  · exact .refl m

/-- A mark of the track replaced by another with its tag, its entry number and its kind. -/
theorem Work.TrackRoom.replace {w w' : Work} (h : w.TrackRoom) {m m' : Mark} (hm : m ∈ w.track.marks)
    (ht : w'.track = w.track.update m.tag fun _ => m') (hs : m.Same m') : w'.TrackRoom :=
  h.update (fun x hx hg => by rw [h.eq_of_tag hm hx hg]; exact hs) ht

/-- The same marks in another order. -/
theorem Work.TrackRoom.perm {w w' : Work} (h : w.TrackRoom) {l : List Mark} (hl : l.Perm w.track.marks)
    (ht : w'.track = { w.track with marks := l }) : w'.TrackRoom := by
  refine ⟨?_, ?_, ?_, ?_, ?_⟩ <;> rw [ht]
  · exact hl.length_eq.trans_le h.marks
  · exact (hl.filter _).length_eq.trans_le h.defects
  · exact (hl.map Mark.tag).nodup_iff.mpr h.tags
  · exact h.counter
  · exact fun m hm => h.entries m (hl.subset hm)

theorem sortMarks_perm (b : Word) : ∀ l : List Mark, (sortMarks b l).Perm l
  | [] => .refl _
  | m :: l => (insertMark_perm b m _).trans ((sortMarks_perm b l).cons m)

/-- The next free tag is not in use (R31). -/
theorem Work.TrackRoom.fresh {w : Work} (h : w.TrackRoom) :
    assignTag (w.track.marks.map Mark.tag) w.track.nextTag ∉ w.track.marks.map Mark.tag := by
  have marks := h.marks
  exact assignTag_not_mem h.counter (by simp only [List.length_map]; omega)

/-- A mark put into a track that has room for it (R31, R33). -/
theorem Work.TrackRoom.put {w w' : Work} {e : Env} {body : MarkBody} {s : Pos} {n : Nat} {begins ends : BitVec 24}
    (h : w.TrackRoom) (hm : w.track.marks.length < 192) (hd : body.kind = .defect → w.track.defects.length < 160)
    (ht : w'.track = w.track.put e body s n begins ends) : w'.TrackRoom := by
  set m : Mark :=
    ⟨assignTag (w.track.marks.map Mark.tag) w.track.nextTag, body, s, n, begins, ends, w.track.entryCount⟩ with hmark
  have perm : w'.track.marks.Perm (m :: w.track.marks) := by
    rw [ht]
    exact insertMark_perm _ _ _
  refine ⟨?_, ?_, ?_, ?_, fun x hx => ?_⟩
  · rw [perm.length_eq]
    exact hm
  · have bound := h.defects
    rw [Track.defects] at bound hd ⊢
    rw [(perm.filter _).length_eq, List.filter_cons]
    split
    · next hk => exact hd (by simpa [Mark.kind, hmark] using hk)
    · exact bound
  · rw [(perm.map Mark.tag).nodup_iff]
    exact List.nodup_cons.mpr ⟨h.fresh, h.tags⟩
  · rw [ht]
    exact succTag_range _
  · rw [ht]
    rcases List.mem_cons.mp (perm.subset hx) with rfl | hx
    · exact Nat.lt_succ_self _
    · exact Nat.lt_succ_of_lt (h.entries x hx)

/-! ## A mark that has gone -/

section
variable {t t' : Track} (h : t.Thinned t') {m : Mark} (hm : m ∈ t.marks) (hg : ∀ x ∈ t'.marks, x.tag ≠ m.tag)
include h hm hg

/-- A track that has lost a mark of a sort that marks do not change holds fewer of that sort. -/
theorem Track.Thinned.countP_lt {p : Mark → Bool} (hp : ∀ m m' : Mark, m.Stays m' → p m' = p m) (hpm : p m = true) :
    t'.marks.countP p < t.marks.countP p := by
  obtain ⟨f, hf, l, hl, hs⟩ := h.marks
  have out : f m ∉ l := fun hx => hg (f m) (hl.subset hx) (hf m).tag
  have short := ((hs.erase (f m)).countP_le (p := p))
  have inside : f m ∈ t.marks.map f := List.mem_map_of_mem hm
  have counted : (t.marks.map f).countP p = t.marks.countP p := by
    rw [List.countP_map]
    exact List.countP_congr fun x _ => by simp [hp _ _ (hf x)]
  rw [List.erase_of_not_mem out] at short
  rw [← counted, ← hl.countP_eq, (List.perm_cons_erase inside).countP_eq, List.countP_cons_of_pos (by
    rw [hp _ _ (hf m), hpm])]
  exact Nat.lt_succ_of_le short

theorem Track.Thinned.length_lt : t'.marks.length < t.marks.length := by
  simpa using h.countP_lt hm hg (p := fun _ => true) (fun _ _ _ => rfl) rfl

theorem Track.Thinned.defects_lt (hk : m.kind = .defect) : t'.defects.length < t.defects.length := by
  simp only [Track.defects, ← List.countP_eq_length_filter]
  exact h.countP_lt hm hg (fun m m' g => by rw [g.kind]) (by simp [hk])

end

theorem Track.remove_gone {t : Track} {g : Nat} : ∀ x ∈ (t.remove g).marks, x.tag ≠ g := fun x hx => by
  simpa using (List.mem_filter.mp hx).2

/-- A mark that has gone from a track does not come back as marks leave. -/
theorem Track.Thinned.gone {t t' : Track} (h : t.Thinned t') {g : Nat} (hg : ∀ x ∈ t.marks, x.tag ≠ g) :
    ∀ x ∈ t'.marks, x.tag ≠ g := fun x hx => by
  obtain ⟨m, hm, hs⟩ := h.origin hx
  rw [hs.tag]
  exact hg m hm

/-! ## An entry freed, and a mark handed in (R34, R36) -/

theorem mergePairs_second {e : Env} {p : MergePair} : ∀ {l : List Mark}, p ∈ mergePairs e l → p.second ∈ l
  | [], h => by simp [mergePairs] at h
  | [_], h => by simp [mergePairs] at h
  | m :: n :: rest, h => by
    rw [mergePairs, List.mem_cons] at h
    rcases h with rfl | h
    · simp
    · exact List.mem_cons_of_mem _ (mergePairs_second h)

theorem mergeCandidates_mem {e : Env} {t : Track} {m : Mark} (h : m ∈ mergeCandidates e t) :
    m ∈ t.marks ∧ m.kind = .defect := by
  obtain ⟨hm, hk⟩ := List.mem_filter.mp (List.mem_of_mem_filter h)
  exact ⟨hm, by simpa using hk⟩

/-- A freed entry leaves room for one more mark (R36). -/
theorem freeEntry_length {e : Env} {w w' : Work} (hr : w.TrackRoom) (h : freeEntry e w = some w') :
    w'.track.marks.length < 192 := by
  have frame := freeEntry_plan hr.tags h
  unfold freeEntry at h
  split at h
  · cases h
  · next p hp =>
    obtain rfl := Option.some.inj h
    obtain ⟨second, _⟩ := mergeCandidates_mem (mergePairs_second (closestPair_mem hp))
    exact (frame.track.length_lt second
      ((announce_plan e _).track.gone Track.remove_gone)).trans_le hr.marks

/-- Room made in a track (R36). -/
theorem makeRoom_trackRoom {e : Env} {w w' : Work} (hr : w.TrackRoom) (h : makeRoom e w = some w') :
    w'.TrackRoom ∧ w'.track.marks.length < 192 := by
  unfold makeRoom at h
  split at h
  · next hm =>
    cases h
    exact ⟨hr, hm⟩
  · exact ⟨hr.plan (freeEntry_plan hr.tags h), freeEntry_length hr h⟩

/-- A CHANGE, JOINT or MISMATCH mark handed to the track (R34, R36). -/
theorem handIn_trackRoom (e : Env) {body : MarkBody} (s : Pos) (n : Nat) {w : Work} (hr : w.TrackRoom)
    (hb : body.kind ≠ .defect) : (handIn e body s n w).1.TrackRoom := by
  unfold handIn
  split
  · next w1 h =>
    obtain ⟨room, length⟩ := makeRoom_trackRoom hr h
    exact room.put length (fun hk => absurd hk hb) rfl
  · exact hr.of_eq (raiseAlarm_track _ _ _ _)

end Sys2Proof.Machine
end

section
/-! SUPPORT. The bounds of the track through what an event does to it: passages and evaluations, marks entered and closed, joints
and arrivals, the chain re-planned, proposals and their effects, and the settling of what the event owes. -/

namespace Sys2Proof.Machine

/-- A fold whose every step keeps the bounds of the track keeps them. -/
theorem foldl_trackRoom {α : Type} {f : Work → α → Work} (hf : ∀ w x, w.TrackRoom → (f w x).TrackRoom) (l : List α)
    {w : Work} (h : w.TrackRoom) : (l.foldl f w).TrackRoom := List.foldlRecOn l f h fun w hw x _ => hf w x hw

/-! ## Passages and evaluations (R43 to R49) -/

theorem beginAt_trackRoom (e : Env) (commit : Bool) (i : StationIx) (st : Station) {m : Mark} {w : Work}
    (h : w.TrackRoom) (hm : m ∈ w.track.marks) : (beginAt e commit i st m w).TrackRoom := by
  unfold beginAt
  split
  · refine h.replace hm (m' := if commit then Mark.setLate { m with beginPassed := setFlag m.beginPassed i }
      else { m with beginPassed := setFlag m.beginPassed i }) (by simp) ?_
    have flagged : m.Same { m with beginPassed := setFlag m.beginPassed i } := ⟨rfl, rfl, rfl⟩
    split
    · exact flagged.trans (Mark.setLate_same _)
    · exact ⟨rfl, rfl, rfl⟩
  · exact h

theorem endAt_trackRoom (e : Env) (i : StationIx) (st : Station) {m : Mark} {w : Work} (h : w.TrackRoom)
    (hm : m ∈ w.track.marks) : (endAt e i st m w).TrackRoom := by
  unfold endAt
  split
  · exact h.replace hm (m' := { m with endPassed := setFlag m.endPassed i }) (by simp) ⟨rfl, rfl, rfl⟩
  · exact h

theorem passStation_trackRoom (e : Env) (commit : Bool) (n : Nat) (i : StationIx) {w : Work} (h : w.TrackRoom) :
    (passStation e commit n i w).TrackRoom := by
  unfold passStation
  split
  · next st m _ hm =>
    have begun := beginAt_trackRoom e commit i st h (Track.byEntry_mem hm)
    split
    · dsimp only
      split
      · next hm1 => exact endAt_trackRoom e i st begun (Track.byEntry_mem hm1)
      · exact begun
    · exact h
  · exact h

section
variable {a : Mark → Work → Work} (ha : ∀ m w, w.TrackRoom → (a m w).TrackRoom)
include ha

theorem passDatum_trackRoom (e : Env) (n : Nat) {w : Work} (h : w.TrackRoom) : (passDatum e a n w).TrackRoom := by
  unfold passDatum
  split
  · exact h
  · next m hm =>
    split
    · exact ha _ _ (h.replace (Track.byEntry_mem hm) rfl (Mark.withState_same m .active))
    · exact h

theorem passPoint_trackRoom (e : Env) (commit : Bool) (n : Nat) {w : Work} (h : w.TrackRoom) (x : LinePoint) :
    (passPoint e a commit n w x).TrackRoom := by
  cases x with
  | none => exact passDatum_trackRoom ha e n h
  | some i => exact passStation_trackRoom e commit n i h

/-- An evaluation keeps the bounds of the track where what it reports arrivals to does (R43). -/
theorem evaluate_trackRoom (e : Env) (commit : Bool) (l : List Nat) (except : Option Nat) {w : Work} (h : w.TrackRoom) :
    (evaluate e a commit l except w).TrackRoom := by
  have passed : (l.foldl (passMark e a commit) w).TrackRoom :=
    foldl_trackRoom (fun _ n hw => foldl_trackRoom (fun _ x hx => passPoint_trackRoom ha e commit n hx x) _ hw) l h
  exact (passed.of_eq (foldl_track (fun w i => rampTest_track e _ false w i) allStations _)).plan
    (retireMarks_plan e except _)

end

theorem evaluateOne_trackRoom (e : Env) (n : Nat) {w : Work} (h : w.TrackRoom) : (evaluateOne e n w).TrackRoom :=
  evaluate_trackRoom (fun _ _ hw => hw) e false [n] (some n) h

/-! ## Marks entered and closed (R34, R35, R40) -/

/-- A mark announced and evaluated. -/
theorem announced_trackRoom (e : Env) (m : Mark) (n : Nat) {w : Work} (h : w.TrackRoom) :
    (evaluateOne e n (announceExtent e m w)).TrackRoom := evaluateOne_trackRoom e n (h.plan (announceExtent_plan e m w))

theorem enterMark_trackRoom (e : Env) {body : MarkBody} (s : Pos) (n : Nat) {w : Work} (h : w.TrackRoom)
    (hb : body.kind ≠ .defect) : (enterMark e body s n w).1.TrackRoom := by
  have handed := handIn_trackRoom e s n h hb
  unfold enterMark
  split
  · next hx =>
    rw [hx] at handed
    exact announced_trackRoom e _ _ handed
  · next hx =>
    rw [hx] at handed
    exact handed

theorem closeMismatch_trackRoom (e : Env) (g : Nat) (p : Pos) {w : Work} (h : w.TrackRoom) :
    (closeMismatch e g p w).TrackRoom := by
  unfold closeMismatch
  split
  · exact h
  · next m hm =>
    split
    · next k hk =>
      obtain rfl := Track.find_tag hm
      refine announced_trackRoom e _ _ (h.replace (Track.find_mem hm) rfl ⟨rfl, rfl, ?_⟩)
      simp [Mark.kind, hk, MarkBody.kind]
    · exact h

theorem mergeTarget_mem {e : Env} {lo hi : Int} {l : List Mark} {m : Mark} (h : mergeTarget e lo hi l = some m) :
    m ∈ l := by
  cases l with
  | nil => cases h
  | cons x l =>
    refine Option.some.inj h ▸ List.foldlRecOn (motive := fun b => b ∈ x :: l) l _ (by simp) fun b hb y hy => ?_
    split
    · exact List.mem_cons_of_mem x hy
    · exact hb

/-- A DEFECT span recorded, merged or dropped (R35). -/
theorem enterDefect_trackRoom (e : Env) (i c : Nat) (s : Pos) (n : Nat) {w : Work} (h : w.TrackRoom) :
    (enterDefect e i c s n w).1.TrackRoom := by
  unfold enterDefect
  split
  · next room =>
    obtain ⟨defects, marks⟩ := room
    have entered : Work.TrackRoom { w with track := w.track.put e (.defect i c) s n 0 0 } :=
      h.put marks (fun _ => defects) rfl
    dsimp only
    split
    · exact announced_trackRoom e _ _ entered
    · exact entered
  · dsimp only
    split
    · exact h.of_eq (raiseAlarm_track _ _ _ _)
    · next m hm =>
      obtain ⟨mem, kind⟩ := mergeCandidates_mem (mergeTarget_mem hm)
      split
      · exact (h.replace (m' := m.reachTo e _) mem rfl ⟨rfl, rfl, rfl⟩).plan (announceExtent_plan e _ _)
      · set w1 := announce e { w with track := w.track.remove m.tag, owed := { w.owed with extend := true } }
        have frame : PlanFrame w w1 := by
          refine PlanFrame.trans ?_ (announce_plan e _)
          exact ⟨Track.Thinned.filter _ _, rfl⟩
        have gone : ∀ x ∈ w1.track.marks, x.tag ≠ m.tag := (announce_plan e _).track.gone Track.remove_gone
        have marks := (frame.track.length_lt mem gone).trans_le h.marks
        have defects := (frame.track.defects_lt mem gone kind).trans_le h.defects
        have entered : Work.TrackRoom { w1 with
            track := w1.track.put e m.body s (max (e.ahead (s.plus n)) (e.ahead m.finish) - e.ahead s).toNat
              m.beginPassed m.endPassed } := (h.plan frame).put marks (fun _ => defects) rfl
        split
        · exact announced_trackRoom e _ _ entered
        · exact entered

/-! ## Joints and arrivals (R83, R89 to R92, R98) -/

theorem openAt_trackRoom (e : Env) (k : Stand) (s : Pos) {w : Work} (h : w.TrackRoom) : (openAt e k s w).TrackRoom := by
  have entered := enterMark_trackRoom e (body := .mismatch k true) (Pos.at s.val) 0 h (by simp [MarkBody.kind])
  unfold openAt
  split <;> next hx =>
    rw [hx] at entered
    exact entered.of_eq rfl

theorem settleOpen_trackRoom (e : Env) (k : Stand) (c : JointCase) {w : Work} (h : w.TrackRoom) :
    (settleOpen e k c w).1.TrackRoom := by
  unfold settleOpen
  split
  · exact h
  · split
    · exact h
    · split
      · exact h
      · exact (closeMismatch_trackRoom e _ _ h).of_eq rfl

theorem testRequirement_trackRoom (e : Env) (k : Stand) (c : JointCase) (closed : Bool) {w : Work} (h : w.TrackRoom) :
    (testRequirement e k c closed w).1.TrackRoom := by
  unfold testRequirement
  split
  · exact h
  · split
    · dsimp only
      split
      · exact (enterMark_trackRoom e _ _ h (by simp [MarkBody.kind])).of_eq rfl
      · exact h.of_eq rfl
    · exact h

theorem openUnsuited_trackRoom (e : Env) (k : Stand) (c : JointCase) (handed : Bool) {w : Work} (h : w.TrackRoom) :
    (openUnsuited e k c handed w).TrackRoom := by
  unfold openUnsuited
  dsimp only
  split
  · exact openAt_trackRoom e k _ h
  · exact h

theorem mismatchAtJoint_trackRoom (e : Env) (k : Stand) (c : JointCase) {w : Work} (h : w.TrackRoom) :
    (mismatchAtJoint e k c w).TrackRoom :=
  openUnsuited_trackRoom e k c _ (testRequirement_trackRoom e k c _ (settleOpen_trackRoom e k c h))

theorem enterJoint_trackRoom (e : Env) (k : Stand) (j : Word) (estimated : Bool) {w : Work} (h : w.TrackRoom) :
    (enterJoint e k j estimated w).1.TrackRoom := enterMark_trackRoom e _ _ h (by simp [MarkBody.kind])

theorem makeJoint_trackRoom (e : Env) (k : Stand) (j : Word) (estimated : Bool) {w : Work} (h : w.TrackRoom) :
    (makeJoint e k j estimated w).1.TrackRoom := by
  have swapped := (enterJoint_trackRoom e k j estimated h).of_eq (swapReels_track e k j _)
  exact (mismatchAtJoint_trackRoom e k ⟨Pos.at j, Pos.at ((Pos.at j).plus (jointHalf e.settings[k] estimated : Nat)).val,
    w.stands[k].running⟩ swapped).of_eq (by simp [makeJoint])

theorem standArrival_trackRoom (e : Env) (t : Pos) (j : Nat) {w : Work} (k : Stand) (h : w.TrackRoom) :
    (standArrival e t j w k).TrackRoom := by
  unfold standArrival
  extract_lets r dealt w1
  split
  · exact h
  · refine Work.TrackRoom.of_eq ?_ (requirementRule_track e k _)
    unfold w1
    split
    · split
      · exact (closeMismatch_trackRoom e _ t h).of_eq rfl
      · exact h
    · split
      · exact openAt_trackRoom e k t h
      · exact h

theorem extendChain_trackRoom (e : Env) {w : Work} (h : w.TrackRoom) : (extendChain e w).TrackRoom :=
  (extendChain_extended e h).room

theorem arrive_trackRoom (e : Env) (m : Mark) (w : Work) (h : w.TrackRoom) : (arrive e m w).TrackRoom := by
  unfold arrive
  split
  · exact h
  · exact foldl_trackRoom (fun _ k hw => standArrival_trackRoom e _ _ k hw) _ (extendChain_trackRoom e (h.of_eq rfl))

theorem evaluateAll_trackRoom (e : Env) {w : Work} (h : w.TrackRoom) : (evaluateAll e w).TrackRoom :=
  evaluate_trackRoom (arrive_trackRoom e) e false _ none h

/-! ## The chain re-planned (R104, R106) -/

theorem relead_trackRoom (g k : Nat) {w : Work} (h : w.TrackRoom) : (relead g k w).TrackRoom := by
  unfold relead
  split
  · exact h
  · next m hm =>
    split
    · next hb =>
      obtain rfl := Track.find_tag hm
      refine h.update (fun x hx hg => ?_) rfl
      obtain rfl := h.eq_of_tag (Track.find_mem hm) hx hg
      exact ⟨rfl, rfl, by simp [Mark.kind, hb, MarkBody.kind]⟩
    · exact h

theorem placeAfresh_plan (e : Env) (g : Nat) (w : Work) : PlanFrame w (placeAfresh e g w) := by
  unfold placeAfresh
  split
  · exact .refl w
  · refine PlanFrame.trans ?_ (placeAll_plan (announce_plan e) e _ _)
    exact updOrder_plan w _ fun _ => rfl

theorem leadTo_trackRoom (e : Env) (g k : Nat) {w : Work} (h : w.TrackRoom) : (leadTo e g k w).TrackRoom :=
  extendChain_trackRoom e ((relead_trackRoom g k h).plan (placeAfresh_plan e g _))

theorem removeLater_plan (e : Env) (g : Nat) (w : Work) : PlanFrame w (removeLater e g w) :=
  removeChanges_plan (announce_plan e) _ w

theorem replan_trackRoom (e : Env) (g k : Nat) {w : Work} (h : w.TrackRoom) : (replan e g k w).TrackRoom :=
  leadTo_trackRoom e g k (h.plan (removeLater_plan e g w))

theorem removeEnd_plan (e : Env) (o : Option Order) (w : Work) : PlanFrame w (removeEnd e o w) := by
  unfold removeEnd
  split
  · exact removeChange_plan (announce_plan e) w _
  · exact .refl w

@[simp] theorem holdOrder_track (j : Nat) (w : Work) : (holdOrder j w).track = w.track := by
  unfold holdOrder
  split <;> rfl

theorem refusalHold_trackRoom (e : Env) (g j : Nat) {w : Work} (h : w.TrackRoom) : (refusalHold e g j w).TrackRoom := by
  have held := (h.of_eq (holdOrder_track j w)).plan (removeEnd_plan e (w.seq.find j) _)
  unfold refusalHold
  dsimp only
  split
  · exact replan_trackRoom e g _ held
  · exact extendChain_trackRoom e (held.plan (removeChange_plan (announce_plan e) _ g))

theorem moveAndAnnounce_plan (e : Env) (i c : Nat) (w : Work) : PlanFrame w (moveAndAnnounce e i c w) :=
  moveOrder_plan (announce_plan e) e i c w

/-! ## Proposals (R113 to R126) -/

theorem withdrawYounger_plan (g : Nat) (w : Work) : PlanFrame w (withdrawYounger g w) :=
  foldl_plan _ (fun w g => withdrawFor_plan g w) _ w

theorem commitMark_trackRoom (e : Env) (g : Nat) {w : Work} (h : w.TrackRoom) : (commitMark e g w).TrackRoom := by
  unfold commitMark
  split
  · exact h
  · split
    · exact evaluate_trackRoom (arrive_trackRoom e) e true _ _
        (h.update (fun m _ _ => Mark.withState_same m .committed) rfl)
    · exact h

theorem effectCommitted_trackRoom (e : Env) (p : Proposal) {w : Work} (h : w.TrackRoom) :
    (effectCommitted e p w).TrackRoom := by
  have committed := commitMark_trackRoom e p.changeTag h
  unfold effectCommitted
  dsimp only
  split <;> exact committed.of_eq (by simp)

theorem effectRefused_trackRoom (e : Env) (p : Proposal) {w : Work} (h : w.TrackRoom) :
    (effectRefused e p w).TrackRoom := by
  have planned : Work.TrackRoom { withdrawYounger p.changeTag w with
      track := (withdrawYounger p.changeTag w).track.update p.changeTag fun m =>
        if m.changeState? = some .proposed then m.withState .planned else m } :=
    (h.plan (withdrawYounger_plan p.changeTag w)).update (fun m _ _ => (Mark.Stays.withdrawn m).same) rfl
  have ended : (Work.endProposal _ p.tag).TrackRoom := planned.of_eq (Work.endProposal_track _ _)
  unfold effectRefused
  dsimp only
  split
  · exact refusalHold_trackRoom e _ _ ended
  · exact ended

theorem stall_trackRoom (e : Env) (p : Proposal) (n : Nat) {w : Work} (h : w.TrackRoom) : (stall e p n w).TrackRoom := by
  unfold stall
  split
  · exact h
  · exact effectRefused_trackRoom e p (h.of_eq (by simp))

@[simp] theorem countDeferral_track (i g : Nat) (w : Work) : (countDeferral i g w).track = w.track := rfl

theorem effectDeferred_trackRoom (e : Env) (p : Proposal) {w : Work} (h : w.TrackRoom) :
    (effectDeferred e p w).TrackRoom := by
  unfold effectDeferred
  split
  · exact h.of_eq (Work.endProposal_track _ _)
  · next i _ _ =>
    have counted : (countDeferral i p.changeTag (withdrawYounger p.changeTag w)).TrackRoom :=
      (h.plan (withdrawYounger_plan p.changeTag w)).of_eq (countDeferral_track _ _ _)
    dsimp only
    split
    · exact stall_trackRoom e p _ counted
    · exact (counted.of_eq (Work.updProposal_track _ _ _)).plan (moveAndAnnounce_plan e _ 1 _)

theorem takeEffect_trackRoom {e : Env} {w w' : Work} (h : w.TrackRoom) (ht : takeEffect e w = some w') :
    w'.TrackRoom := by
  unfold takeEffect at ht
  repeat' split at ht
  all_goals cases ht
  · exact effectCommitted_trackRoom e _ h
  · exact effectDeferred_trackRoom e _ h
  · exact effectRefused_trackRoom e _ h

theorem guardMark_trackRoom (e : Env) {w : Work} (g : Nat) (h : w.TrackRoom) : (guardMark e w g).TrackRoom := by
  unfold guardMark
  split
  · exact h
  · split
    · exact h
    · next i _ _ =>
      split
      · have counted : (countDeferral i g (moveAndAnnounce e i 1 w)).TrackRoom :=
          (h.plan (moveAndAnnounce_plan e i 1 w)).of_eq (countDeferral_track _ _ _)
        dsimp only
        split
        · split
          · exact stall_trackRoom e _ _ counted
          · exact counted
        · exact counted
      · exact h

theorem guardAll_trackRoom (e : Env) {w : Work} (h : w.TrackRoom) : (guardAll e w).TrackRoom :=
  foldl_trackRoom (fun _ g hw => guardMark_trackRoom e g hw) _ h

@[simp] theorem retryWaiting_track (e : Env) (w : Work) : (retryWaiting e w).track = w.track := by
  unfold retryWaiting
  split <;> simp

/-- A first issue makes a mark PROPOSED at most (R38, R114). -/
theorem firstIssue_trackRoom (e : Env) (m : Mark) {w : Work} (h : w.TrackRoom) : (firstIssue e m w).TrackRoom := by
  unfold firstIssue
  split
  · exact h
  · dsimp only
    unfold proposeMark
    split
    · refine h.update (f := fun x => if x.changeState? = some .planned then x.withState .proposed else x)
        (fun x _ _ => ?_) (issue_track _ _ _ _)
      split
      · exact Mark.withState_same x .proposed
      · exact .refl x
    · exact h.of_eq (issue_track _ _ _ _)

theorem dueTest_trackRoom (e : Env) {w : Work} (h : w.TrackRoom) : (dueTest e w).TrackRoom := by
  have guarded : (guardAll e { w with owed := { w.owed with due := false } }).TrackRoom :=
    guardAll_trackRoom e (h.of_eq rfl)
  have retried := guarded.of_eq (retryWaiting_track e _)
  rcases dueTest_cases e w _ rfl with ⟨_, hd⟩ | ⟨_, _, hd⟩ | ⟨m, _, _, hd⟩ <;> rw [hd]
  · exact retried.of_eq rfl
  · exact retried
  · exact (firstIssue_trackRoom e m retried).of_eq rfl

/-! ## Settling -/

theorem settleRound_trackRoom {e : Env} {w w' : Work} (h : w.TrackRoom) (hs : settleRound e w = some w') :
    w'.TrackRoom := by
  unfold settleRound at hs
  split at hs
  · next ht =>
    cases hs
    exact takeEffect_trackRoom h ht
  · split at hs
    · cases hs
      exact h.of_eq (formResult_track _ _ _)
    · split at hs
      · cases hs
        split
        · exact extendChain_trackRoom e h
        · exact h.of_eq rfl
      · split at hs
        · cases hs
          exact dueTest_trackRoom e h
        · cases hs

theorem settleLoop_trackRoom (e : Env) : ∀ (n : Nat) {w : Work}, w.TrackRoom → (settleLoop e n w).TrackRoom
  | 0, w, h => h
  | n + 1, w, h => by
    unfold settleLoop
    split
    · next hs => exact settleLoop_trackRoom e n (settleRound_trackRoom h hs)
    · exact h

/-- Settling keeps the bounds of the track. -/
theorem settle_trackRoom (e : Env) {w : Work} (h : w.TrackRoom) : (settle e w).TrackRoom := settleLoop_trackRoom e _ h

theorem proposalTest_trackRoom (e : Env) {w : Work} (h : w.TrackRoom) : (proposalTest e w).TrackRoom :=
  settle_trackRoom e (h.of_eq rfl)

end Sys2Proof.Machine
end

section
/-! SUPPORT. The bounds of the track through every request as it is applied, and through every command. -/

namespace Sys2Proof.Machine

/-! ## Requests -/

/-- The flags of a mark against a new table are all that changes in it (R48). -/
theorem Mark.freshFlags_same (e : Env) (m : Mark) : m.Same (m.freshFlags e) := by
  have cleaned : m.Same { m with beginPassed := 0, endPassed := 0 } := ⟨rfl, rfl, rfl⟩
  unfold Mark.freshFlags
  dsimp only
  split
  · exact cleaned
  · refine List.foldlRecOn (motive := fun x => m.Same x) allStations _ cleaned fun x hx i _ => ?_
    split
    · exact hx
    · split
      · exact hx.trans ⟨rfl, rfl, rfl⟩
      · exact hx

section
variable (p : Port) (e : Env) {w : Work} (body : List Byte) (h : w.TrackRoom)
include h

theorem applyStatus_trackRoom : (applyStatus p e w body).work.TrackRoom := by
  unfold applyStatus
  split <;> exact h

theorem applyTake_trackRoom : (applyTake p e w body).work.TrackRoom := by
  unfold applyTake
  repeat' split
  all_goals exact h.of_eq rfl

theorem applyPeek_trackRoom : (applyPeek p e w body).work.TrackRoom := by
  unfold applyPeek
  split <;> exact h

theorem applyDone_trackRoom : (applyDone p e w body).work.TrackRoom := by
  unfold applyDone
  split
  · exact h
  · split
    · exact h
    · exact h.of_eq ((noticeGivenUp_frame e _ w).trans (finishTaken_frame e p _ _)).track

theorem applyFloor_trackRoom : (applyFloor p e w body).work.TrackRoom := by
  unfold applyFloor
  split
  · exact h
  · split
    · exact h
    · exact h.of_eq (afterFloor_frame _ p _ w).track

theorem applyLineTable_trackRoom : (applyLineTable e w body).work.TrackRoom := by
  unfold applyLineTable
  split
  · exact h
  · split
    · exact h
    · split
      · exact h
      · exact h.of_eq (acceptTable_env e w _).frame.track

theorem applyStationSet_trackRoom : (applyStationSet e w body).work.TrackRoom := by
  unfold applyStationSet stageAndApply
  split
  · exact h
  · split
    · exact h
    · split
      · exact h
      · split
        · exact h
        · split
          · exact h
          · exact h.map (fun m _ => Mark.freshFlags_same _ m) rfl

theorem applyRecipeSet_trackRoom : (applyRecipeSet e w body).work.TrackRoom := by
  unfold applyRecipeSet
  repeat' split
  all_goals exact h

theorem applyProfileSet_trackRoom : (applyProfileSet e w body).work.TrackRoom := by
  unfold applyProfileSet
  repeat' split
  all_goals exact h

theorem applyClassSet_trackRoom : (applyClassSet e w body).work.TrackRoom := by
  unfold applyClassSet
  repeat' split
  all_goals exact h

theorem applyRelaySet_trackRoom : (applyRelaySet e w body).work.TrackRoom := by
  unfold applyRelaySet
  repeat' split
  all_goals exact h

theorem applyAlarmEnable_trackRoom : (applyAlarmEnable e w body).work.TrackRoom := by
  unfold applyAlarmEnable
  repeat' split
  all_goals exact h

theorem applyAlarmClear_trackRoom : (applyAlarmClear e w body).work.TrackRoom := by
  unfold applyAlarmClear
  repeat' split
  all_goals exact h.of_eq rfl

theorem applyOpen_trackRoom : (applyOpen e w body).work.TrackRoom := by
  unfold applyOpen
  split
  · split
    · exact h
    · split
      · exact h
      · dsimp only
        split
        · exact h
        · exact h.of_eq (foldl_frame _ (fun w _ => reoffer_frame _ w) allPorts w).track
  · exact h

theorem startRun_trackRoom (f : Nat) (m : Mark) : (startRun e f m w).2.TrackRoom := by
  have begun : (w.beginRun f m).TrackRoom := h.of_eq rfl
  have passed := evaluate_trackRoom (arrive_trackRoom { e with run := .running }) { e with run := .running } true
    [m.entry] (some m.entry) begun
  unfold startRun
  dsimp only
  exact extendChain_trackRoom _ (passed.of_eq (requirementRules_track _ _))

/-- A START that passes its checks (R108). -/
theorem startWith_trackRoom (f g gap : Nat) : (startWith e w f g gap).work.TrackRoom := by
  have handed := handIn_trackRoom e (body := .change 0 f .committed false) (firstChange e g gap) 0 h
    (by simp [MarkBody.kind])
  unfold startWith
  dsimp only
  split
  · next hx =>
    rw [hx] at handed
    exact handed
  · next m hx =>
    rw [hx] at handed
    dsimp only
    exact startRun_trackRoom e (handed.plan (announceExtent_plan e m _)) f m

theorem applyStart_trackRoom : (applyStart e w body).work.TrackRoom := by
  unfold applyStart
  split
  · exact h
  · split
    · exact h
    · split
      · exact h
      · split
        · split
          · exact startWith_trackRoom e h _ _ _
          · exact h
        · exact h

theorem applyOrderAdd_trackRoom : (applyOrderAdd e w body).work.TrackRoom := by
  unfold applyOrderAdd addOrder
  split
  · exact h
  · split
    · exact h
    · split
      · dsimp only
        split
        · exact extendChain_trackRoom e (h.of_eq rfl)
        · exact replan_trackRoom e _ _ (h.of_eq rfl)
      · exact h

theorem withdrawOrder_trackRoom (o : Order) : (withdrawOrder e o w).TrackRoom := by
  unfold withdrawOrder
  split
  · exact extendChain_trackRoom e (h.of_eq rfl)
  · split
    · exact leadTo_trackRoom e _ _
        (Work.TrackRoom.of_eq ((h.plan (removeEnd_plan e (some o) w)).plan (removeLater_plan e _ _)) rfl)
    · exact extendChain_trackRoom e ((h.plan (removeChange_plan (announce_plan e) w _)).of_eq rfl)

theorem applyOrderWithdraw_trackRoom : (applyOrderWithdraw e w body).work.TrackRoom := by
  unfold applyOrderWithdraw
  split
  · exact h
  · split
    · exact h
    · split
      · exact withdrawOrder_trackRoom e h _
      · exact h

theorem applyOrderRelease_trackRoom : (applyOrderRelease e w body).work.TrackRoom := by
  unfold applyOrderRelease
  split
  · exact h
  · split
    · exact h
    · exact h
    · exact extendChain_trackRoom e (h.of_eq rfl)

/-- LINE_RESET leaves no mark (R50). -/
theorem applyLineReset_trackRoom : (applyLineReset e w body).work.TrackRoom := by
  unfold applyLineReset
  split
  · exact h
  · exact Track.Thinned.room (w := w) (w' := w.lineReset) ⟨rfl, rfl, id, Mark.Stays.refl, List.nil_subperm⟩ h

theorem applyLogTake_trackRoom : (applyLogTake e w body).work.TrackRoom := by
  unfold applyLogTake
  repeat' split
  all_goals exact h.of_eq rfl

theorem applyStandSet_trackRoom : (applyStandSet e w body).work.TrackRoom := by
  unfold applyStandSet
  split
  · exact h
  · split
    · split
      · refine h.of_eq ?_
        simp only [answerOk, acceptSettings, evalFire_track, Work.updStand_track]
        split <;> simp
      · exact h
    · exact h

theorem applyReelLoad_trackRoom : (applyReelLoad p e w body).work.TrackRoom := by
  unfold applyReelLoad
  split
  · dsimp only
    split
    · exact h
    · split
      · unfold loadReel
        dsimp only
        split
        · exact h
        · split
          · exact h.of_eq (by simp [threadReel])
          · exact h.of_eq (by simp [readyReel])
      · exact h
  · exact h

theorem applyReelRemove_trackRoom : (applyReelRemove e w body).work.TrackRoom := by
  unfold applyReelRemove
  split
  · split
    · unfold removeReel
      dsimp only
      split
      · exact h
      · split
        · split
          · exact h
          · refine h.of_eq ?_
            simp only [answerOk, removeReady]
            split <;> simp
        · split
          · exact h
          · split
            · exact h
            · exact h.of_eq (by simp [answerOk, removeRunning])
    · exact h
  · exact h

theorem applyDiameter_trackRoom : (applyDiameter p e w body).work.TrackRoom := by
  unfold applyDiameter
  split
  · split
    · unfold setDiameter
      split
      · exact h.of_eq (by simp [reanchor])
      · exact h
      · exact h
    · exact h
  · exact h

theorem applyJoint_trackRoom : (applyJoint e w body).work.TrackRoom := by
  unfold applyJoint
  split
  · unfold reportJoint
    dsimp only
    split
    · exact enterJoint_trackRoom e _ _ _ (h.of_eq rfl)
    · exact makeJoint_trackRoom e _ _ _ h
  · exact h

theorem applySpliceFail_trackRoom : (applySpliceFail e w body).work.TrackRoom := by
  unfold applySpliceFail
  split
  · split
    · exact h.of_eq (failSplice_track e _ w)
    · exact h
  · exact h

theorem applyStandEnable_trackRoom : (applyStandEnable e w body).work.TrackRoom := by
  unfold applyStandEnable
  split
  · split
    · exact h.of_eq (by simp [answerOk, enableStand])
    · exact h
  · exact h

/-- What a changed fill brings about (R14). -/
theorem afterFill_trackRoom : (afterFill e w).TrackRoom :=
  proposalTest_trackRoom e ((evaluateAll_trackRoom e h).of_eq (evalFires_track e _))

theorem applyBridgeSet_trackRoom : (applyBridgeSet e w body).work.TrackRoom := by
  unfold applyBridgeSet
  split
  · split
    · exact h
    · dsimp only
      exact afterFill_trackRoom _ (h.of_eq (setFill_frame e _ _ true w).track)
  · exact h

theorem finishProposal_trackRoom (tag : Nat) : (finishProposal e p tag w).TrackRoom :=
  (h.of_eq (finishTaken_frame e p (Notice.isProposal tag) w).track).of_eq rfl

theorem applyRespond_trackRoom : (applyRespond p e w body).work.TrackRoom := by
  unfold applyRespond
  split
  · split
    · unfold recordResponse
      dsimp only
      split
      · exact h.of_eq (finishTaken_frame e p _ w).track
      · split
        · refine finishProposal_trackRoom p e ?_ _
          exact h.of_eq rfl
        · exact finishProposal_trackRoom p e h _
    · exact h
  · exact h

theorem applySetupDone_trackRoom : (applySetupDone e w body).work.TrackRoom := by
  unfold applySetupDone
  repeat' split
  all_goals exact h.of_eq rfl

theorem recordDefect_trackRoom (i : StationIx) (st : Station) (a c cause : Nat) :
    (recordDefect e w i st a c cause).work.TrackRoom := by
  have told := h.of_eq (reportEscape_frame e i (defectSplit e st a c) w).track
  unfold recordDefect
  dsimp only
  split
  · exact told
  · exact enterDefect_trackRoom e _ _ _ _ told

theorem applyDefect_trackRoom : (applyDefect e w body).work.TrackRoom := by
  unfold applyDefect
  split
  · exact h
  · split
    · split
      · exact h
      · split
        · exact h
        · split
          · exact h
          · exact recordDefect_trackRoom e h _ _ _ _ _
    · exact h

end

/-- Every request keeps the bounds of the track. -/
theorem request_trackRoom (p : Port) (r : Request) (e : Env) {w : Work} (body : List Byte) (h : w.TrackRoom) :
    (r.meaning p e w body).work.TrackRoom := by
  cases r with
  | status => exact applyStatus_trackRoom p e body h
  | read => exact h
  | peek => exact applyPeek_trackRoom p e body h
  | take => exact applyTake_trackRoom p e body h
  | done => exact applyDone_trackRoom p e body h
  | floor => exact applyFloor_trackRoom p e body h
  | lineTable => exact applyLineTable_trackRoom e body h
  | stationSet => exact applyStationSet_trackRoom e body h
  | recipeSet => exact applyRecipeSet_trackRoom e body h
  | profileSet => exact applyProfileSet_trackRoom e body h
  | classSet => exact applyClassSet_trackRoom e body h
  | relaySet => exact applyRelaySet_trackRoom e body h
  | alarmEnable => exact applyAlarmEnable_trackRoom e body h
  | alarmClear => exact applyAlarmClear_trackRoom e body h
  | openPart => exact applyOpen_trackRoom e body h
  | start => exact applyStart_trackRoom e body h
  | orderAdd => exact applyOrderAdd_trackRoom e body h
  | orderWithdraw => exact applyOrderWithdraw_trackRoom e body h
  | orderRelease => exact applyOrderRelease_trackRoom e body h
  | lineReset => exact applyLineReset_trackRoom e body h
  | logTake => exact applyLogTake_trackRoom e body h
  | standSet => exact applyStandSet_trackRoom e body h
  | reelLoad => exact applyReelLoad_trackRoom p e body h
  | reelRemove => exact applyReelRemove_trackRoom e body h
  | diameter => exact applyDiameter_trackRoom p e body h
  | joint => exact applyJoint_trackRoom e body h
  | spliceFail => exact applySpliceFail_trackRoom e body h
  | standEnable => exact applyStandEnable_trackRoom e body h
  | bridgeSet => exact applyBridgeSet_trackRoom e body h
  | respond => exact applyRespond_trackRoom p e body h
  | setupDone => exact applySetupDone_trackRoom e body h
  | defect => exact applyDefect_trackRoom e body h

/-! ## Commands -/

/-- A request applied at the head of its port's queue keeps the bounds of the track. -/
theorem applyHead_trackRoom (p : Port) (r : Request) {s : State} (h : s.work.TrackRoom) :
    (applyHead p r (r.meaning p) s).work.TrackRoom := by
  unfold applyHead
  split
  · exact h
  · split
    · exact settle_trackRoom _ (request_trackRoom p r _ _ h)
    · exact h

/-- The check of every held position rewrites the starts of the marks and puts them in order again (R18). -/
theorem checkFar_trackRoom (b : Word) {w : Work} (h : w.TrackRoom) : (w.checkFar b).TrackRoom := by
  have checked : Work.TrackRoom { w with
      track := { w.track with marks := w.track.marks.map fun m => { m with start := m.start.check b } } } :=
    h.map (f := fun m => { m with start := m.start.check b }) (fun m _ => ⟨rfl, rfl, rfl⟩) rfl
  exact checked.perm (sortMarks_perm b _) rfl

/-- A recompute of the forecast (R142). -/
theorem gatePassage_plan (e : Env) (x : Sheet) (w : Work) : PlanFrame w (gatePassage e x w) := by
  unfold gatePassage
  refine PlanFrame.trans ?_ (announce_plan e _)
  refine PlanFrame.trans ?_ (updTallies_plan _ _ _)
  split
  · refine PlanFrame.trans ?_ (pulse_plan e 6 _)
    exact .of_eq rfl rfl
  · exact .of_eq rfl rfl

theorem gateAndStacker_trackRoom (e : Env) {w : Work} (x : Sheet) (h : w.TrackRoom) :
    (gateAndStacker e w x).TrackRoom := by
  unfold gateAndStacker
  extract_lets w1
  have passed : w1.TrackRoom := by
    unfold w1
    split
    · split
      · exact h.plan (gatePassage_plan e _ w)
      · exact h
    · exact h
  split
  · split
    · exact passed.of_eq (departure_track e _ w1)
    · exact passed
  · exact passed

theorem sheetAdvance_trackRoom (e : Env) {w : Work} (h : w.TrackRoom) : (sheetAdvance e w).TrackRoom :=
  (foldl_trackRoom (fun _ x hw => gateAndStacker_trackRoom e x hw) w.sheet.sheets h).of_eq (cutTest_track e none _)

/-- The blocks at an advance (R9). -/
theorem advanceBlocks_trackRoom (e : Env) (c : Encoder) {w : Work} (h : w.TrackRoom) :
    (advanceBlocks e c w).TrackRoom := by
  unfold advanceBlocks
  extract_lets w1 w2 w3 w4
  have checked : w1.TrackRoom := by
    unfold w1
    split
    · exact checkFar_trackRoom e.b h
    · exact h
  have passed : w2.TrackRoom := evaluateAll_trackRoom e checked
  have extended : w3.TrackRoom := by
    unfold w3
    split
    · exact extendChain_trackRoom e passed
    · exact passed
  have tested : w4.TrackRoom := proposalTest_trackRoom e (extended.of_eq (standAdvance_track e c w3))
  split
  · exact settle_trackRoom e (sheetAdvance_trackRoom e tested)
  · exact tested

theorem count_trackRoom (e : Env) (c : Encoder) (edge : Edge) {w : Work} (h : w.TrackRoom) :
    (count e c edge w).2.TrackRoom := by
  unfold count
  dsimp only
  split
  · exact h
  · split
    · split
      · exact h
      · exact advanceBlocks_trackRoom _ c (h.of_eq (advanceFills_both _ c _ w).frame.track)
    · dsimp only
      split
      · exact h.of_eq (raiseAlarm_track _ _ _ _)
      · exact h
    · exact h
    · exact h

theorem confirmExpiry_trackRoom (e : Env) (k : Stand) (x : Snapshot) {w : Work} (h : w.TrackRoom) :
    (confirmExpiry e k x w).TrackRoom := by
  have joined := makeJoint_trackRoom e k x.estimate true h
  unfold confirmExpiry
  split
  · exact h.of_eq (failSplice_track e k w)
  · exact joined
  · exact joined.of_eq (Work.updStand_track _ _ _)

theorem frameArrival_trackRoom (e : Env) (p : Port) (bytes : List Byte) {w : Work} (h : w.TrackRoom) :
    (frameArrival e p bytes w).2.TrackRoom := by
  unfold frameArrival
  split
  · exact h
  · unfold validArrival
    dsimp only
    split
    · exact h
    · exact h
    · exact h.of_eq (reoffer_frame _ w).track

/-- Every command keeps the bounds of the track. -/
theorem exec_trackRoom {c : Instr} {s t : State} (h : s.work.TrackRoom) (hx : exec c s = .next t) : t.work.TrackRoom := by
  have request : ∀ p r, exec (Request.command p r) s = .next t → t.work.TrackRoom := by
    intro p r hr
    rw [exec_command] at hr
    cases hr
    exact applyHead_trackRoom p r h
  cases c with
  | powerOnReset x e1 e2 e3 =>
    cases hx
    obtain ⟨_, _, room, _⟩ := resetIsWellKept
    exact settle_trackRoom _ (room.of_eq (foldl_track (fun w p => raiseAlarm_track _ _ _ w) _ _))
  | quadratureEdge c levels => cases hx; exact settle_trackRoom _ (count_trackRoom _ c _ h)
  | speedPeriodClose =>
    simp only [exec, execSpeedPeriodClose] at hx
    cases hx
    exact proposalTest_trackRoom _ (h.of_eq (evalFires_track _ _))
  | cuePulseEnd k =>
    simp only [exec, execCuePulseEnd] at hx
    split at hx <;> cases hx <;> exact h.of_eq rfl
  | confirmDeadlineExpiry k =>
    simp only [exec, execConfirmDeadlineExpiry] at hx
    split at hx <;> cases hx
    · exact settle_trackRoom _ (confirmExpiry_trackRoom _ k _ h)
    · exact h
    · exact h
  | lateReportWindowEnd k =>
    simp only [exec, execLateReportWindowEnd] at hx
    split at hx <;> cases hx <;> exact h.of_eq rfl
  | proposalDeadlineExpiry g =>
    simp only [exec, execProposalDeadlineExpiry] at hx
    split at hx
    · cases hx; exact h
    · split at hx <;> cases hx
      · exact settle_trackRoom _ (h.of_eq (formResult_track _ _ _))
      · exact h
      · exact h
  | reofferTimerExpiry => cases hx; exact settle_trackRoom _ (h.of_eq (reoffer_frame _ _).track)
  | receivedFrame p g bytes =>
    simp only [exec, execReceivedFrame] at hx
    split at hx
    · cases hx; exact h
    · split at hx <;> cases hx
      · exact h
      · exact settle_trackRoom _ (frameArrival_trackRoom _ p bytes h)
  | responseFrame p => cases hx; exact h
  | portTimeout p =>
    simp only [exec, execPortTimeout] at hx
    split at hx <;> cases hx
    · exact settle_trackRoom _ (h.of_eq (emptyDesk_frame _ p _).track)
    · exact h
  | status p => exact request p .status hx
  | read p => exact request p .read hx
  | peek p => exact request p .peek hx
  | take p => exact request p .take hx
  | done p => exact request p .done hx
  | floor p => exact request p .floor hx
  | lineTable p => exact request p .lineTable hx
  | stationSet p => exact request p .stationSet hx
  | recipeSet p => exact request p .recipeSet hx
  | profileSet p => exact request p .profileSet hx
  | classSet p => exact request p .classSet hx
  | relaySet p => exact request p .relaySet hx
  | alarmEnable p => exact request p .alarmEnable hx
  | alarmClear p => exact request p .alarmClear hx
  | openPart p => exact request p .openPart hx
  | start p => exact request p .start hx
  | orderAdd p => exact request p .orderAdd hx
  | orderWithdraw p => exact request p .orderWithdraw hx
  | orderRelease p => exact request p .orderRelease hx
  | lineReset p => exact request p .lineReset hx
  | logTake p => exact request p .logTake hx
  | standSet p => exact request p .standSet hx
  | reelLoad p => exact request p .reelLoad hx
  | reelRemove p => exact request p .reelRemove hx
  | diameter p => exact request p .diameter hx
  | joint p => exact request p .joint hx
  | spliceFail p => exact request p .spliceFail hx
  | standEnable p => exact request p .standEnable hx
  | bridgeSet p => exact request p .bridgeSet hx
  | respond p => exact request p .respond hx
  | setupDone p => exact request p .setupDone hx
  | defect p => exact request p .defect hx

/-- Settles O55: a millisecond leaves the track alone, and every command keeps its bounds (`exec_trackRoom`). -/
theorem trackRoomKept : Obligations.TrackRoomKept := by
  intro s t h hs
  unfold step at hs
  split at hs
  · cases hs; exact h
  · next c rest _ => exact exec_trackRoom (s := { s with pending := rest }) h hs

end Sys2Proof.Machine
end

section
/-! SUPPORT. STATION_SET (R48, R52 to R54): its answers, and the set that it takes into force. -/

namespace Sys2Proof.Machine

/-- The current values under a new table, one entry of the list at a time (R54). -/
theorem foldl_keepsCurrent (old new : Vector (Option Station) 24) (i : StationIx) : ∀ (l : List StationIx)
    (v : Vector Nat 24),
    (l.foldl (fun (x : Vector Nat 24) (k : StationIx) => if keepsCurrent old[k] new[k] then x else x.set k 0) v)[i] =
      if i ∈ l ∧ keepsCurrent old[i] new[i] = false then 0 else v[i]
  | [], v => by simp
  | k :: l, v => by
    rw [List.foldl_cons, foldl_keepsCurrent old new i l]
    by_cases hik : i = k
    · subst hik
      cases keepsCurrent old[i] new[i] <;> simp
    · have apart : k.val ≠ i.val := fun h => hik (Fin.ext h.symm)
      cases keepsCurrent old[k] new[k] <;> simp [hik, apart]

/-- A current value is kept where its station stays what it was, and is 0 elsewhere (R54). -/
theorem freshCurrent_get (old new : Vector (Option Station) 24) (v : Vector Nat 24) (i : StationIx) :
    (freshCurrent old new v)[i] = if keepsCurrent old[i] new[i] then v[i] else 0 := by
  rw [freshCurrent, foldl_keepsCurrent]
  cases keepsCurrent old[i] new[i] <;> simp [mem_allStations]

/-- A station set taken into force leaves the part between two events (R54). -/
theorem applyStations_atRest (e : Env) {w : Work} (h : w.atRest) : (applyStations e w).2.atRest := h

section
variable {e : Env} {body : List Byte} (w : Work)

theorem applyStationSet_running (h : e.run = .running) : applyStationSet e w body = refuse .state e w := by
  simp [applyStationSet, h]

variable {l : List RawStation} {flag : Bool} (hr : e.run = .idle) (hb : getStationSet body = some (l, flag))
include hr hb

theorem applyStationSet_range (h : settingsOf l = none) : applyStationSet e w body = refuse .range e w := by
  simp [applyStationSet, hr, hb, h]

/-- A STATION_SET in range is staged, and its set checked where the flag asks for it (R52). -/
theorem applyStationSet_staged {m : List (StationIx × Option Station)} (h : settingsOf l = some m) :
    applyStationSet e w body = stageAndApply { e with staged := writeStations e.staged m } w flag := by
  simp [applyStationSet, hr, hb, h]

end

theorem stageAndApply_staged (e : Env) (w : Work) : stageAndApply e w false = answerOk e w := rfl

theorem stageAndApply_failed {e : Env} (w : Work) {c : Nat × Option StationIx} (h : stationSetCheck e e.staged = some c) :
    stageAndApply e w true = ⟨.range, putCheck c, e, w⟩ := by simp [stageAndApply, h]

theorem stageAndApply_applied {e : Env} (w : Work) (h : stationSetCheck e e.staged = none) :
    stageAndApply e w true = answerOk (applyStations e w).1 (applyStations e w).2 := by simp [stageAndApply, h]

/-- Settles O20: each answer by `applyStationSet_running`, `applyStationSet_range` and the cases of `stageAndApply`, and the
current values by `freshCurrent_get`. -/
theorem stationSetRequest : Obligations.StationSetRequest := by
  intro s p q rest body l flag hq hb hw
  refine ⟨fun hr => ?_, fun hr hl => ?_, ?_⟩
  · exact congrArg Host.Outcome.next (applyHead_refused _ .state hq hw (applyStationSet_running s.work hr))
  · exact congrArg Host.Outcome.next (applyHead_refused _ .range hq hw (applyStationSet_range s.work hr hb hl))
  intro m hr hl e
  refine ⟨?_, ?_, ?_⟩
  · rintro rfl
    have staged := (applyStationSet_staged (e := popped s.env p rest) s.work hr hb hl).trans
      (stageAndApply_staged _ s.work)
    exact congrArg Host.Outcome.next (applyHead_applied hq staged hw)
  · rintro n i rfl hc
    have failed := (applyStationSet_staged (e := popped s.env p rest) s.work hr hb hl).trans
      (stageAndApply_failed s.work hc)
    exact congrArg Host.Outcome.next (applyHead_applied hq failed hw)
  · rintro rfl hc e1
    have applied := (applyStationSet_staged (e := popped s.env p rest) s.work hr hb hl).trans
      (stageAndApply_applied s.work hc)
    refine ⟨_, congrArg Host.Outcome.next (applyHead_applied hq applied (applyStations_atRest _ hw)), rfl, rfl, rfl,
      fun i => ?_, rfl, fun i => freshCurrent_get _ _ _ i⟩
    simp [appliedState, applyStations]

end Sys2Proof.Machine
end

section
/-! SUPPORT. LINE_RESET (R110): what is gone and what is kept. -/

namespace Sys2Proof.Machine

/-- Each stand of a table that a function is applied to. -/
theorem mapStands_get (f : StandRec → StandRec) (v : Vector StandRec 5) (k : Stand) : (mapStands f v)[k] = f v[k] := by
  fin_cases k <;> rfl

/-- A stand after LINE_RESET is in WATCH where its enable is set at ARM or lower, and else IDLE (R94). -/
theorem StandRec.lineReset_eq (r : StandRec) :
    r.lineReset =
      { r with
        feedStart := none, requirement := none, openMismatch := none, lateWindow := none
        phase := if r.enable = true ∧ r.level.armed = true then .watch else .idle } := by
  simp [StandRec.lineReset, StandRec.rephase, Phase.isFired]

theorem Work.lineReset_atRest (w : Work) : w.lineReset.atRest := Work.calm.atRest ⟨rfl, rfl⟩

/-- Settles O37: the blocks are those of `Work.lineReset`, which is between two events, and each stand that of
`StandRec.lineReset_eq`. -/
theorem lineResetRequest : Obligations.LineResetRequest := by
  intro s p q rest hq
  have answer : applyLineReset (popped s.env p rest) s.work [] =
      answerOk { popped s.env p rest with run := .idle } s.work.lineReset := rfl
  refine ⟨_, congrArg Host.Outcome.next (applyHead_applied hq answer s.work.lineReset_atRest), rfl, rfl, rfl,
    fun x => ?_, fun i => ?_, fun k => ?_⟩
  · simp [appliedState, Work.lineReset]
  · simp [appliedState, Work.lineReset]
  · exact (mapStands_get _ _ k).trans (StandRec.lineReset_eq _)

end Sys2Proof.Machine
end

section
/-! SUPPORT. What an announcement does to the track, step by step (R37, R142): proposals are withdrawn, and uncommitted CHANGE
marks leave or move. Every other mark stays as it is, and after an evaluation it stands with its flags alone changed. -/

namespace Sys2Proof.Machine

/-! ## The steps of an announcement -/

/-- What the change chain does to the track, in any number of steps: a proposal withdrawn (R125), an uncommitted CHANGE mark
removed (R39), one moved (R39). -/
inductive Track.Replanned : Track → Track → Prop
  | refl (t : Track) : Replanned t t
  | trans {a b c : Track} (h : Replanned a b) (g : Replanned b c) : Replanned a c
  | withdraw (t : Track) (g : Nat) :
      Replanned t (t.update g fun m => if m.changeState? = some .proposed then m.withState .planned else m)
  | remove {t : Track} {g : Nat} {m : Mark} (h : t.find g = some m) (hu : m.uncommitted = true) :
      Replanned t (t.remove g)
  | move {t t' : Track} {e : Env} {g : Nat} {p : Pos} (h : t.move e g p = some t') : Replanned t t'

theorem Track.Replanned.of_eq {t t' : Track} (h : t' = t) : t.Replanned t' := h ▸ .refl t

theorem Track.Replanned.thinned {t t' : Track} (h : t.Replanned t') : t.Thinned t' := by
  induction h with
  | refl t => exact .refl t
  | trans h g ih ig => exact ih.trans ig
  | withdraw t g => exact .update t g Mark.Stays.withdrawn
  | remove h hu => exact .filter _ _
  | move h => exact .move h

theorem Mark.changeState_of_kind {m : Mark} (h : m.kind ≠ .change) : m.changeState? = none := by
  unfold Mark.kind MarkBody.kind at h
  unfold Mark.changeState?
  cases hb : m.body <;> simp_all

theorem Mark.uncommitted_of_kind {m : Mark} (h : m.kind ≠ .change) : m.uncommitted = false := by
  simp [Mark.uncommitted, Mark.changeState_of_kind h]

/-- A move takes an uncommitted mark of the track to its new place (R39). -/
theorem Track.move_eq_some {e : Env} {t t' : Track} {g : Nat} {p : Pos} (h : t.move e g p = some t') :
    ∃ m, t.find g = some m ∧ m.uncommitted = true ∧ acceptsMove e t p = true ∧
      t' = { t with marks := insertMark e.b { m with start := p } (t.remove g).marks } := by
  unfold Track.move at h
  split at h
  · cases h
  · next m hm =>
    split at h
    · next ok =>
      obtain ⟨hu, ha⟩ := Bool.and_eq_true_iff.mp ok
      exact ⟨m, hm, hu, ha, (Option.some.inj h).symm⟩
    · cases h

/-- A mark that is no CHANGE stays as it is while the chain is re-planned, where tags are distinct. -/
theorem Track.Replanned.kept {t t' : Track} (h : t.Replanned t') (hn : (t.marks.map Mark.tag).Nodup) {m : Mark}
    (hm : m ∈ t.marks) (hk : m.kind ≠ .change) : m ∈ t'.marks := by
  induction h with
  | refl t => exact hm
  | trans h g ih ig => exact ig (h.thinned.tags_nodup hn) (ih hn hm)
  | withdraw t g =>
    refine List.mem_map.mpr ⟨m, hm, ?_⟩
    simp [Mark.changeState_of_kind hk]
  | remove h hu =>
    refine List.mem_filter.mpr ⟨hm, by_contra fun hg => ?_⟩
    obtain rfl := List.inj_on_of_nodup_map hn hm (Track.find_mem h) (by simpa [Track.find_tag h] using hg)
    simp [Mark.uncommitted_of_kind hk] at hu
  | move h =>
    obtain ⟨x, hx, hu, _, rfl⟩ := Track.move_eq_some h
    refine (insertMark_perm _ _ _).mem_iff.mpr (List.mem_cons_of_mem _ (List.mem_filter.mpr ⟨hm, by_contra fun hg => ?_⟩))
    obtain rfl := List.inj_on_of_nodup_map hn hm (Track.find_mem hx) (by simpa [Track.find_tag hx] using hg)
    simp [Mark.uncommitted_of_kind hk] at hu

/-! ## A recompute, order by order (R142, R143) -/

@[simp] theorem raiseShort_track (e : Env) (tag : Nat) (w : Work) : (raiseShort e tag w).track = w.track := by
  unfold raiseShort
  split
  · rfl
  · split <;> simp

/-- What a recompute leaves of an order whose deficit has been asked for: ORDER_SHORT where the move is refused (R143). -/
def deficitTaken (e : Env) (tag : Nat) (x : Work × MoveAnswer) : Work :=
  if x.2 = .refused then raiseShort e tag x.1 else x.1

theorem deficitTaken_track (e : Env) (tag : Nat) (x : Work × MoveAnswer) :
    (deficitTaken e tag x).track = x.1.track := by
  unfold deficitTaken
  split
  · exact raiseShort_track e tag x.1
  · rfl

section
variable {e : Env} (again : Work → Work) {tag : Nat} (rest : List Nat) {w : Work}

/-- An order without a forecast is passed over. -/
theorem recomputePass_none (h : ∀ o, w.seq.find tag = some o → forecast e w o = none) :
    recomputePass e again (tag :: rest) w = recomputePass e again rest w := by
  rw [recomputePass]
  cases ho : w.seq.find tag with
  | none => rfl
  | some o => simp [h o ho]

variable {o : Order} {f : Nat} (ho : w.seq.find tag = some o) (hf : forecast e w o = some f)
include ho hf

/-- A forecast that does not fall short is noted. -/
theorem recomputePass_met (h : o.given.required ≤ f) :
    recomputePass e again (tag :: rest) w =
      recomputePass e again rest (w.updTallies tag fun t => { t with forecast := f }) := by
  rw [recomputePass]
  simp [ho, hf, h]

/-- A forecast that falls short is noted, and its deficit asked for (R142). -/
theorem recomputePass_deficit (h : f < o.given.required) :
    recomputePass e again (tag :: rest) w =
      recomputePass e again rest (deficitTaken e tag
        (moveOrder e again tag (o.given.required - f) (w.updTallies tag fun t => { t with forecast := f }))) := by
  have short : ¬o.given.required ≤ f := by omega
  rw [recomputePass]
  simp only [ho, hf, Option.bind_some, Option.map_some, if_neg short, deficitTaken]
  split <;> next hm => simp [hm]

end

/-- All that a recompute does with the first of its orders. -/
theorem recomputePass_cases (e : Env) (again : Work → Work) (tag : Nat) (rest : List Nat) (w : Work) :
    recomputePass e again (tag :: rest) w = recomputePass e again rest w ∨
    (∃ f, recomputePass e again (tag :: rest) w =
      recomputePass e again rest (w.updTallies tag fun t => { t with forecast := f })) ∨
    ∃ f c, recomputePass e again (tag :: rest) w = recomputePass e again rest (deficitTaken e tag
      (moveOrder e again tag c (w.updTallies tag fun t => { t with forecast := f }))) := by
  by_cases hn : ∀ o, w.seq.find tag = some o → forecast e w o = none
  · exact .inl (recomputePass_none again rest hn)
  · push Not at hn
    obtain ⟨o, ho, hf⟩ := hn
    obtain ⟨f, hf⟩ := Option.ne_none_iff_exists'.mp hf
    rcases Nat.lt_or_ge f o.given.required with h | h
    · exact .inr (.inr ⟨f, _, recomputePass_deficit again rest ho hf h⟩)
    · exact .inr (.inl ⟨f, recomputePass_met again rest ho hf h⟩)

/-! ## The operations of an announcement -/

theorem foldl_replanned {α : Type} {f : Work → α → Work} (h : ∀ (w : Work) (x : α), w.track.Replanned (f w x).track) (l : List α)
    (w : Work) : w.track.Replanned (l.foldl f w).track :=
  List.foldlRecOn (motive := fun x => w.track.Replanned x.track) l f (.refl _) fun x hx a _ => hx.trans (h x a)

theorem iterate_replanned {f : Work → Work} (h : ∀ w : Work, w.track.Replanned (f w).track) : ∀ (n : Nat) (w : Work),
    w.track.Replanned (f^[n] w).track
  | 0, _ => .refl _
  | n + 1, w => (h w).trans (iterate_replanned h n (f w))

/-- A withdrawal rewrites its mark, if anything (R125). -/
theorem withdrawFor_replanned (w : Work) (g : Nat) : w.track.Replanned (withdrawFor g w).track := by
  unfold withdrawFor
  split
  · exact .refl _
  · dsimp only
    rw [removeUntaken_track]
    exact .withdraw _ g

/-- The mark with a tag after a withdrawal is the one before it, PLANNED where it was PROPOSED. -/
theorem withdrawFor_find {w : Work} {g k : Nat} {m : Mark} (h : w.track.find g = some m) (hu : m.uncommitted = true) :
    ∃ m', (withdrawFor k w).track.find g = some m' ∧ m'.uncommitted = true := by
  unfold withdrawFor
  split
  · exact ⟨m, h, hu⟩
  · set f : Mark → Mark := fun x => if x.tag = k then
      (if x.changeState? = some .proposed then x.withState .planned else x) else x with hf
    have stays : ∀ x : Mark, x.Stays (f x) := fun x => by
      simp only [hf]
      split
      · exact Mark.Stays.withdrawn x
      · exact .refl x
    have same : ((fun x : Mark => x.tag == g) ∘ f) = fun x => x.tag == g := by
      funext x
      simp [(stays x).tag]
    refine ⟨f m, ?_, ?_⟩
    · dsimp only
      rw [removeUntaken_track]
      change (w.track.marks.map f).find? (fun x => x.tag == g) = some (f m)
      rw [List.find?_map, same]
      exact congrArg (Option.map f) h
    · rcases (stays m).body with hb | ⟨i, j, late, _, hb⟩
      · simpa [Mark.uncommitted, Mark.changeState?, hb] using hu
      · simp [Mark.uncommitted, Mark.changeState?, hb]

section
variable {a : Work → Work} (ha : ∀ w : Work, w.track.Replanned (a w).track)
include ha

theorem removeChange_replanned (w : Work) (g : Nat) : w.track.Replanned (removeChange a w g).track := by
  unfold removeChange
  split
  · exact .refl _
  · next m hm =>
    split
    · exact .refl _
    · split
      · next hu =>
        obtain ⟨m', hm', hu'⟩ := withdrawFor_find (k := g) hm hu
        refine Track.Replanned.trans ?_ (ha _)
        exact (withdrawFor_replanned w g).trans (.remove hm' hu')
      · exact .refl _

theorem removeChanges_replanned (tags : List Nat) (w : Work) : w.track.Replanned (removeChanges a tags w).track :=
  (foldl_replanned (fun w g => withdrawFor_replanned w g) _ w).trans (foldl_replanned (removeChange_replanned ha) _ _)

omit ha in
theorem placeMarks_replanned (e : Env) : ∀ (tags : List Nat) (n : Nat) (w : Work),
    w.track.Replanned (placeMarks e tags n w).work.track
  | [], n, w => .refl _
  | g :: rest, n, w => by
    unfold placeMarks
    split
    · exact placeMarks_replanned e rest n w
    · split
      · exact placeMarks_replanned e rest n w
      · split
        · exact .refl _
        · split
          · exact placeMarks_replanned e rest n w
          · next h =>
            obtain ⟨t, ht, rfl⟩ := Option.map_eq_some_iff.mp h
            refine Track.Replanned.trans ?_ (placeMarks_replanned e rest (n + 1) _)
            exact .move ht

theorem placeAll_replanned (e : Env) (tags : List Nat) (w : Work) : w.track.Replanned (placeAll e a tags w).track :=
  ((placeMarks_replanned e tags 0 w).trans (removeChanges_replanned ha _ _)).trans (iterate_replanned ha _ _)

theorem moveOrder_replanned (e : Env) (i c : Nat) (w : Work) : w.track.Replanned (moveOrder e a i c w).1.track := by
  unfold moveOrder
  split
  · exact .refl _
  · split
    · exact .refl _
    · split
      · exact placeAll_replanned ha e _ (w.updOrder i _)
      · exact placeAll_replanned ha e _ (w.updOrder i _)
      · exact .refl _

theorem recomputePass_replanned (e : Env) : ∀ (tags : List Nat) (w : Work),
    w.track.Replanned (recomputePass e a tags w).track
  | [], w => .refl _
  | tag :: rest, w => by
    rcases recomputePass_cases e a tag rest w with h | ⟨f, h⟩ | ⟨f, c, h⟩ <;> rw [h]
    · exact recomputePass_replanned e rest w
    · exact recomputePass_replanned e rest (w.updTallies tag _)
    · refine Track.Replanned.trans ?_ (recomputePass_replanned e rest _)
      rw [deficitTaken_track]
      exact moveOrder_replanned ha e tag c (w.updTallies tag _)

end

theorem recomputeWithin_replanned (e : Env) : ∀ (n : Nat) (w : Work), w.track.Replanned (recomputeWithin e n w).track
  | 0, _ => .refl _
  | n + 1, w => recomputePass_replanned (recomputeWithin_replanned e n) e _ w

theorem announce_replanned (e : Env) (w : Work) : w.track.Replanned (announce e w).track :=
  recomputeWithin_replanned e _ w

theorem announceExtent_replanned (e : Env) (m : Mark) (w : Work) : w.track.Replanned (announceExtent e m w).track :=
  announce_replanned e { w with sheet := { w.sheet with sheets := w.sheet.sheets.map (flipSheet e m) } }

end Sys2Proof.Machine
end

section
/-! SUPPORT. Marks entered and closed (R31, R33 to R36, R40): what an announcement and an evaluation leave of a mark that is no
CHANGE, so that it stands in the track as it was handed in. -/

namespace Sys2Proof.Machine

/-! ## A mark through its evaluation -/

/-- A mark with its flags alone changed. -/
structure Mark.Flagged (m m' : Mark) : Prop where
  tag : m'.tag = m.tag
  entry : m'.entry = m.entry
  body : m'.body = m.body
  start : m'.start = m.start
  span : m'.span = m.span

theorem Mark.Flagged.refl (m : Mark) : m.Flagged m := ⟨rfl, rfl, rfl, rfl, rfl⟩

theorem Mark.Flagged.trans {a b c : Mark} (h : a.Flagged b) (g : b.Flagged c) : a.Flagged c :=
  ⟨g.tag.trans h.tag, g.entry.trans h.entry, g.body.trans h.body, g.start.trans h.start, g.span.trans h.span⟩

theorem Mark.Flagged.kind {m m' : Mark} (h : m.Flagged m') : m'.kind = m.kind := by rw [Mark.kind, h.body, Mark.kind]

/-- The track, whose tags are distinct, holds a mark, its flags aside. -/
structure Work.Holds (w : Work) (m : Mark) : Prop where
  tags : (w.track.marks.map Mark.tag).Nodup
  stands : ∃ m' ∈ w.track.marks, m.Flagged m'

theorem Work.Holds.of_mem {w : Work} (h : (w.track.marks.map Mark.tag).Nodup) {m : Mark} (hm : m ∈ w.track.marks) :
    w.Holds m := ⟨h, m, hm, .refl m⟩

theorem Track.update_tags (t : Track) {g : Nat} {x' : Mark} (ht : x'.tag = g) :
    (t.update g fun _ => x').marks.map Mark.tag = t.marks.map Mark.tag := by
  unfold Track.update
  dsimp only
  rw [List.map_map]
  refine List.map_congr_left fun y _ => ?_
  simp only [Function.comp]
  split
  · next hy => exact ht.trans hy.symm
  · rfl

/-- A mark of the track replaced: any other stands, and so does this one where its flags alone change. -/
theorem Work.Holds.replace {w w' : Work} {m x x' : Mark} (h : w.Holds m) (hx : x ∈ w.track.marks)
    (ht : w'.track = w.track.update x.tag fun _ => x') (hg : x'.tag = x.tag)
    (hf : x.kind ≠ .change → x.Flagged x') (hk : m.kind ≠ .change) : w'.Holds m := by
  obtain ⟨tags, m', hm', flagged⟩ := h
  refine ⟨ht ▸ Track.update_tags w.track hg ▸ tags, ?_⟩
  rw [ht]
  by_cases htag : m'.tag = x.tag
  · obtain rfl := List.inj_on_of_nodup_map tags hm' hx htag
    exact ⟨x', List.mem_map.mpr ⟨m', hx, if_pos rfl⟩, flagged.trans (hf (flagged.kind ▸ hk))⟩
  · exact ⟨m', List.mem_map.mpr ⟨m', hm', if_neg htag⟩, flagged⟩

theorem Work.Holds.of_eq {w w' : Work} {m : Mark} (h : w.Holds m) (ht : w'.track = w.track) : w'.Holds m :=
  ⟨ht ▸ h.tags, ht ▸ h.stands⟩

section
variable {w : Work} {m : Mark} (h : w.Holds m) (hk : m.kind ≠ .change) (e : Env)
include h hk

theorem beginAt_holds (i : StationIx) (st : Station) {x : Mark} (hx : x ∈ w.track.marks) :
    (beginAt e false i st x w).Holds m := by
  unfold beginAt
  split
  · exact h.replace (x' := { x with beginPassed := setFlag x.beginPassed i }) hx (beginPassage_track _ _ _ _ _ _)
      rfl (fun _ => ⟨rfl, rfl, rfl, rfl, rfl⟩) hk
  · exact h

theorem endAt_holds (i : StationIx) (st : Station) {x : Mark} (hx : x ∈ w.track.marks) :
    (endAt e i st x w).Holds m := by
  unfold endAt
  split
  · exact h.replace (x' := { x with endPassed := setFlag x.endPassed i }) hx (markNotice_track _ _ _ _ _ _)
      rfl (fun _ => ⟨rfl, rfl, rfl, rfl, rfl⟩) hk
  · exact h

theorem passStation_holds (n : Nat) (i : StationIx) : (passStation e false n i w).Holds m := by
  unfold passStation
  split
  · next st x _ hx =>
    have begun := beginAt_holds h hk e i st (Track.byEntry_mem hx)
    split
    · dsimp only
      split
      · next hy => exact endAt_holds begun hk e i st (Track.byEntry_mem hy)
      · exact begun
    · exact h
  · exact h

theorem passDatum_holds (n : Nat) : (passDatum e noArrival n w).Holds m := by
  unfold passDatum
  split
  · exact h
  · next x hx =>
    split
    · next due =>
      have change : ¬x.kind ≠ .change := fun hk => by simp [Mark.changeState_of_kind hk] at due
      exact h.replace (Track.byEntry_mem hx) rfl (Mark.withState_same x .active).tag (fun hk => absurd hk change) hk
    · exact h

theorem passMark_holds (n : Nat) : (passMark e noArrival false w n).Holds m :=
  List.foldlRecOn (motive := fun x => Work.Holds x m) (linePoints e) _ h fun x hx p _ => by
    cases p with
    | none => exact passDatum_holds hx hk e n
    | some i => exact passStation_holds hx hk e n i

/-- A mark stands in the track after its own evaluation, at which it does not retire (R34, R40, R49). -/
theorem evaluateOne_holds : (evaluateOne e m.entry w).Holds m := by
  have passed : (allStations.foldl (rampSteps e) ([m.entry].foldl (passMark e noArrival false) w)).Holds m :=
    (passMark_holds h hk e m.entry).of_eq (foldl_track (fun w i => rampTest_track e _ false w i) allStations _)
  refine ⟨(retireMarks_plan e _ _).track.tags_nodup passed.tags, ?_⟩
  obtain ⟨m', hm', flagged⟩ := passed.stands
  refine ⟨m', ?_, flagged⟩
  unfold evaluateOne evaluate retireMarks
  dsimp only
  split
  · exact List.mem_filter.mpr ⟨hm', by simp [retires, flagged.entry]⟩
  · exact hm'

/-- A mark stands in the track once it has been announced and evaluated (R34, R37). -/
theorem announced_holds (x : Mark) : (evaluateOne e m.entry (announceExtent e x w)).Holds m := by
  obtain ⟨tags, m', hm', flagged⟩ := h
  have told := (announceExtent_replanned e x w).kept tags hm' (flagged.kind ▸ hk)
  exact evaluateOne_holds ⟨(announceExtent_plan e x w).track.tags_nodup tags, m', told, flagged⟩ hk e

end

/-! ## Marks handed in -/

/-- The mark that a track with room takes (R31, R33, R34). -/
def Work.newMark (w : Work) (body : MarkBody) (start : Pos) (span : Nat) : Mark :=
  ⟨assignTag (w.track.marks.map Mark.tag) w.track.nextTag, body, start, span, 0, 0, w.track.entryCount⟩

theorem put_mem (e : Env) (w : Work) (body : MarkBody) (s : Pos) (n : Nat) :
    w.newMark body s n ∈ (w.track.put e body s n 0 0).marks := (insertMark_perm _ _ _).mem_iff.mpr (by simp [Work.newMark])

theorem put_tags (e : Env) {w : Work} (h : w.TrackRoom) (body : MarkBody) (s : Pos) (n : Nat) :
    ((w.track.put e body s n 0 0).marks.map Mark.tag).Nodup := by
  have perm : (w.track.put e body s n 0 0).marks.Perm (w.newMark body s n :: w.track.marks) := insertMark_perm _ _ _
  exact (perm.map Mark.tag).nodup_iff.mpr (List.nodup_cons.mpr ⟨h.fresh, h.tags⟩)

/-- A mark put into the track stands in it once it has been announced and evaluated. -/
theorem put_holds (e : Env) {w : Work} (h : w.TrackRoom) {body : MarkBody} (s : Pos) (n : Nat) (hb : body.kind ≠ .change) :
    (evaluateOne e w.track.entryCount
      (announceExtent e (w.newMark body s n) { w with track := w.track.put e body s n 0 0 })).Holds
        (w.newMark body s n) :=
  announced_holds (m := w.newMark body s n) (.of_mem (put_tags e h body s n) (put_mem e w body s n)) hb e _

section
variable (e : Env) {w : Work} (h : w.TrackRoom) {body : MarkBody} (s : Pos) (n : Nat)
include h

/-- Handing a mark to a track with room, and its announcement and evaluation (R34, R37). -/
theorem enterMark_room (hm : w.track.marks.length < 192) :
    enterMark e body s n w =
      (evaluateOne e w.track.entryCount
        (announceExtent e (w.newMark body s n) { w with track := w.track.put e body s n 0 0 }),
        some (w.newMark body s n).tag) := by
  rw [enterMark, handIn_room e body s n w hm h.entries]
  rfl

/-- A DEFECT span that the track has room for (R35). -/
theorem enterDefect_room (i c : Nat) (hd : w.track.defects.length < 160) (hm : w.track.marks.length < 192) :
    enterDefect e i c s n w =
      (evaluateOne e w.track.entryCount
        (announceExtent e (w.newMark (.defect i c) s n) { w with track := w.track.put e (.defect i c) s n 0 0 }),
        (w.newMark (.defect i c) s n).tag, .recorded) := by
  have room : w.track.defects.length < Config.defectLimit ∧ w.track.marks.length < Config.trackLimit := ⟨hd, hm⟩
  rw [enterDefect, if_pos room]
  simp only [Track.put_newest e h.entries]
  rfl

/-- A MISMATCH closed stands from its start to the position (R40). -/
theorem closeMismatch_holds {g : Nat} {m : Mark} {k : Stand} (p : Pos) (hm : w.track.find g = some m)
    (hb : m.body = .mismatch k true) :
    (closeMismatch e g p w).Holds { m with body := .mismatch k false, span := (e.ahead p - e.ahead m.start).toNat } := by
  set closed : Mark := { m with body := .mismatch k false, span := (e.ahead p - e.ahead m.start).toNat } with hc
  have eq : closeMismatch e g p w =
      evaluateOne e closed.entry (announceExtent e closed { w with track := w.track.update g fun _ => closed }) := by
    simp only [closeMismatch, hm, hb]
    rfl
  obtain rfl := Track.find_tag hm
  have mem : closed ∈ (w.track.update m.tag fun _ => closed).marks :=
    List.mem_map.mpr ⟨m, Track.find_mem hm, if_pos rfl⟩
  have tags : ((w.track.update m.tag fun _ => closed).marks.map Mark.tag).Nodup :=
    Track.update_tags w.track (x' := closed) rfl ▸ h.tags
  rw [eq]
  exact announced_holds (.of_mem tags mem) (by simp [hc, Mark.kind, MarkBody.kind]) e closed

end

/-- With fewer than two candidates there is no pair to merge (R36). -/
theorem mergePairs_short (e : Env) {l : List Mark} (h : l.length < 2) : mergePairs e l = [] := by
  match l, h with
  | [], _ => rfl
  | [_], _ => rfl
  | _ :: _ :: _, h => simp at h

/-- A full track without two candidates takes no mark (R36). -/
theorem handIn_full {e : Env} {w : Work} (body : MarkBody) (s : Pos) (n : Nat) (hm : 192 ≤ w.track.marks.length)
    (hc : (mergeCandidates e w.track).length < 2) :
    handIn e body s n w = (raiseAlarm e .trackFull (fullSubject body) w, none) := by
  have full : ¬w.track.marks.length < Config.trackLimit := Nat.not_lt.mpr hm
  have none : makeRoom e w = none := by simp [makeRoom, full, freeEntry, mergePairs_short e hc, closestPair]
  rw [handIn, none]

/-- Settles O32: a track with room takes the mark (`handIn_room`), and `put_holds` and
`closeMismatch_holds` say that it stands after that; a full one by `handIn_full`. -/
theorem marksEnterTheTrack : Obligations.MarksEnterTheTrack := by
  intro e w h tag stands
  have standing : ∀ {x : Work} {m : Mark}, x.Holds m → stands x m.tag m.body m.start m.span := fun hx =>
    let ⟨m', hm', flagged⟩ := hx.stands
    ⟨m', hm', flagged.tag, flagged.body, flagged.start, flagged.span⟩
  refine ⟨fun body start span hm => ?_, fun i c start span hd hm => ?_, fun g m k p hm hb => ?_,
    fun body start span hm hc => handIn_full body start span hm hc⟩
  · refine ⟨fun x hx hg => h.fresh ?_, handIn_room e body start span w hm h.entries, ?_, fun hb => ?_⟩
    · have same : x.tag = assignTag (w.track.marks.map Mark.tag) w.track.nextTag := hg
      rw [← same]
      exact List.mem_map_of_mem hx
    · rw [enterMark_room e h start span hm]
      rfl
    · rw [enterMark_room e h start span hm]
      exact standing (put_holds e h start span hb)
  · rw [enterDefect_room e h start span i c hd hm]
    exact ⟨rfl, standing (put_holds e h start span (by simp [MarkBody.kind]))⟩
  · have closed := standing (closeMismatch_holds e h p hm hb)
    rwa [Track.find_tag hm] at closed

end Sys2Proof.Machine
end

section
/-! SUPPORT. The merges of a full track (R35, R36): which candidate a span merges into, and which pair of candidates gives an
entry free. -/

namespace Sys2Proof.Machine

/-! ## The first of the least -/

section
variable {α : Type} {f : α → Int} {m : α} {later : List α}

/-- The scan of a list for its least element, the first among equals, stays at an element not greater than any after it. -/
theorem foldl_least_stays (hl : ∀ x ∈ later, f m ≤ f x) :
    later.foldl (fun best q => if f q < f best then q else best) m = m :=
  List.foldlRecOn (motive := (· = m)) later _ rfl fun b hb y hy => by rw [hb, if_neg (not_lt.mpr (hl y hy))]

/-- The scan ends at an element less than all before it and not
greater than any after it. -/
theorem foldl_least (hl : ∀ x ∈ later, f m ≤ f x) :
    ∀ (earlier : List α), (∀ x ∈ earlier, f m < f x) → ∀ x : α, f m < f x →
      (earlier ++ m :: later).foldl (fun best q => if f q < f best then q else best) x = m := by
  intro earlier
  induction earlier with
  | nil =>
    intro _ x hx
    rw [List.nil_append, List.foldl_cons, if_pos hx]
    exact foldl_least_stays hl
  | cons y earlier ih =>
    intro he x hx
    obtain ⟨hy, he⟩ := List.forall_mem_cons.mp he
    rw [List.cons_append, List.foldl_cons]
    refine ih he _ ?_
    split
    · exact hy
    · exact hx

end

/-! ## The candidate for a span (R35) -/

theorem defectGap_eq (e : Env) (lo hi : Int) (x : Mark) :
    defectGap e lo hi x = max 0 (if lo < e.ahead x.start then e.ahead x.start - hi else lo - e.ahead x.finish) := by
  unfold defectGap gapAfter
  split <;> rfl

/-- A span merges into the candidate with the smallest gap, the earlier among equals (R35). -/
theorem mergeTarget_first {e : Env} {lo hi : Int} {m : Mark} {earlier later : List Mark}
    (he : ∀ x ∈ earlier, defectGap e lo hi m < defectGap e lo hi x)
    (hl : ∀ x ∈ later, defectGap e lo hi m ≤ defectGap e lo hi x) :
    mergeTarget e lo hi (earlier ++ m :: later) = some m := by
  cases earlier with
  | nil => exact congrArg some (foldl_least_stays hl)
  | cons x earlier =>
    obtain ⟨hx, he⟩ := List.forall_mem_cons.mp he
    exact congrArg some (foldl_least hl earlier he x hx)

/-! ## The pair that gives an entry free (R36) -/

/-- Two consecutive candidates as a pair. -/
def pairOf (e : Env) (m n : Mark) : MergePair := ⟨gapAfter (e.ahead m.finish) (e.ahead n.start), m, n⟩

theorem mergePairs_append (e : Env) (m n : Mark) (later : List Mark) : ∀ earlier : List Mark,
    mergePairs e (earlier ++ m :: n :: later) =
      mergePairs e (earlier ++ [m]) ++ pairOf e m n :: mergePairs e (n :: later)
  | [] => rfl
  | [_] => rfl
  | x :: y :: earlier => congrArg (pairOf e x y :: ·) (mergePairs_append e m n later (y :: earlier))

/-- A pair of a list is of two marks that follow one another in it. -/
theorem mergePairs_consecutive {e : Env} {p : MergePair} : ∀ {l : List Mark}, p ∈ mergePairs e l →
    ∃ front x y back, l = front ++ x :: y :: back ∧ p = pairOf e x y
  | [], h => by simp [mergePairs] at h
  | [_], h => by simp [mergePairs] at h
  | m :: n :: rest, h => by
    rw [mergePairs, List.mem_cons] at h
    rcases h with rfl | h
    · exact ⟨[], m, n, rest, rfl, rfl⟩
    · obtain ⟨front, x, y, back, hl, hp⟩ := mergePairs_consecutive h
      exact ⟨m :: front, x, y, back, congrArg (m :: ·) hl, hp⟩

/-- The closest pair of a list is less than all before it and not greater than any after it. -/
theorem closestPair_first {p : MergePair} {earlier later : List MergePair} (he : ∀ q ∈ earlier, p.gap < q.gap)
    (hl : ∀ q ∈ later, p.gap ≤ q.gap) : closestPair (earlier ++ p :: later) = some p := by
  cases earlier with
  | nil => exact congrArg some (foldl_least_stays (f := MergePair.gap) hl)
  | cons x earlier =>
    obtain ⟨hx, he⟩ := List.forall_mem_cons.mp he
    exact congrArg some (foldl_least (f := MergePair.gap) hl earlier he x hx)

/-- The closest of the consecutive pairs of a list, the first among equals. -/
theorem closestPair_of_consecutive (e : Env) {l earlier later : List Mark} {m n : Mark} (hl : l = earlier ++ m :: n :: later)
    (h : ∀ front x y back, l = front ++ x :: y :: back → (pairOf e m n).gap ≤ (pairOf e x y).gap ∧
      (front.length < earlier.length → (pairOf e m n).gap < (pairOf e x y).gap)) :
    closestPair (mergePairs e l) = some (pairOf e m n) := by
  rw [hl, mergePairs_append]
  refine closestPair_first (fun q hq => ?_) fun q hq => ?_
  · obtain ⟨front, x, y, back, hs, rfl⟩ := mergePairs_consecutive hq
    have before : front.length < earlier.length := by
      have length := congrArg List.length hs
      simp only [List.length_append, List.length_cons, List.length_nil] at length
      omega
    refine (h front x y (back ++ n :: later) ?_).2 before
    calc l = (earlier ++ [m]) ++ n :: later := by rw [hl]; simp
      _ = front ++ x :: y :: (back ++ n :: later) := by rw [hs]; simp
  · obtain ⟨front, x, y, back, hs, rfl⟩ := mergePairs_consecutive hq
    refine (h (earlier ++ m :: front) x y back ?_).1
    rw [hl, hs]
    simp

/-! ## The merges -/

theorem Track.remove_eq (t : Track) (g : Nat) : t.remove g = { t with marks := t.marks.filter fun x => x.tag ≠ g } := by
  rw [Track.remove]
  exact congrArg (Track.mk · _ _) (List.filter_congr fun x _ => by rw [bne, decide_not, Bool.beq_eq_decide_eq])

theorem mergeCandidates_eq (e : Env) (t : Track) :
    mergeCandidates e t = t.marks.filter fun m => m.kind = .defect ∧ e.passedKind .gate m.start = false := by
  rw [mergeCandidates, Track.defects, List.filter_filter]
  refine List.filter_congr fun m _ => ?_
  cases e.passedKind .gate m.start <;> simp

section
variable {e : Env} {w : Work} {i cause : Nat} {start : Pos} {span : Nat}
  (full : 160 ≤ w.track.defects.length ∨ 192 ≤ w.track.marks.length)
include full

theorem defect_no_room : ¬(w.track.defects.length < Config.defectLimit ∧ w.track.marks.length < Config.trackLimit) := by
  simp only [Config.defectLimit, Config.trackLimit]
  omega

/-- A span without a candidate at a full track is dropped (R36). -/
theorem enterDefect_dropped (hl : mergeCandidates e w.track = []) :
    enterDefect e i cause start span w = (raiseAlarm e .trackFull (.station i) w, 0, .dropped) := by
  rw [enterDefect, if_neg (defect_no_room full), hl]
  rfl

variable {m : Mark} (target : mergeTarget e (e.ahead start) (e.ahead (start.plus span)) (mergeCandidates e w.track) = some m)
include target

/-- A span is merged into a mark that starts at or before it by extending that mark (R35). -/
theorem enterDefect_extended (hs : e.ahead m.start ≤ e.ahead start) :
    enterDefect e i cause start span w =
      (announceExtent e (m.reachTo e (e.ahead (start.plus span)))
        { w with track := w.track.update m.tag fun _ => m.reachTo e (e.ahead (start.plus span)) }, m.tag, .merged) := by
  simp only [enterDefect, if_neg (defect_no_room full), target, if_pos hs]

/-- A span is merged into a mark that starts after it by a new mark in its place (R35). -/
theorem enterDefect_replaced (h : w.TrackRoom) (hs : e.ahead start < e.ahead m.start) :
    let w1 := announce e { w with track := w.track.remove m.tag, owed := { w.owed with extend := true } }
    let t := w1.track.put e m.body start (max (e.ahead (start.plus span)) (e.ahead m.finish) - e.ahead start).toNat
      m.beginPassed m.endPassed
    let n : Mark := ⟨assignTag (w1.track.marks.map Mark.tag) w1.track.nextTag, m.body, start,
      (max (e.ahead (start.plus span)) (e.ahead m.finish) - e.ahead start).toNat, m.beginPassed, m.endPassed,
      w1.track.entryCount⟩
    enterDefect e i cause start span w =
      (evaluateOne e n.entry (announceExtent e n { w1 with track := t }), n.tag, .merged) := by
  intro w1 t n
  have frame : PlanFrame w w1 := by
    refine PlanFrame.trans ?_ (announce_plan e _)
    exact ⟨Track.Thinned.filter _ _, rfl⟩
  have newest : t.newest = some n := Track.put_newest e (h.plan frame).entries _ _ _ _ _
  simp only [enterDefect, if_neg (defect_no_room full), target, if_neg (not_le.mpr hs)]
  split
  · next n' hn' =>
    obtain rfl := Option.some.inj (newest.symm.trans hn')
    rfl
  · next hn' => cases newest.symm.trans hn'

end

/-- A mark handed to a full track whose closest candidates are two marks that follow one another (R36). -/
theorem handIn_freed {e : Env} {w w2 : Work} (h : w.TrackRoom) (full : 192 ≤ w.track.marks.length)
    (hf : freeEntry e w = some w2) (body : MarkBody) (start : Pos) (span : Nat) :
    handIn e body start span w =
      ({ w2 with track := w2.track.put e body start span 0 0 }, some (w2.newMark body start span)) := by
  have no : ¬w.track.marks.length < Config.trackLimit := Nat.not_lt.mpr full
  simp only [handIn, makeRoom, if_neg no, hf, recordMark]
  rw [Track.put_newest e (h.plan (freeEntry_plan h.tags hf)).entries]
  rfl

/-- Settles O46: which candidate or pair is merged by `mergeTarget_first` and `closestPair_of_consecutive`, and what the
merge does by the equations of `enterDefect` and `handIn` above. -/
theorem defectMerges : Obligations.DefectMerges := by
  refine ⟨mergeCandidates_eq, ?_, ?_⟩
  · intro e i cause start span w h full l lo hi gap t
    refine ⟨enterDefect_dropped full, fun earlier m later hl he hlater => ?_⟩
    have target : mergeTarget e lo hi (mergeCandidates e w.track) = some m := by
      rw [show mergeCandidates e w.track = _ from hl]
      refine mergeTarget_first (fun x hx => ?_) fun x hx => ?_ <;> rw [defectGap_eq, defectGap_eq]
      · exact he x hx
      · exact hlater x hx
    refine ⟨enterDefect_extended full target, fun hs => ?_⟩
    rw [← Track.remove_eq]
    exact enterDefect_replaced full target h hs
  · intro e body start span w h full gap earlier m n later hl closest wider w1 w2 tag new entered
    have pair : closestPair (mergePairs e (mergeCandidates e w.track)) = some (pairOf e m n) :=
      closestPair_of_consecutive e hl closest
    have freed : freeEntry e w = some w2 := by
      simp only [freeEntry, pair, Track.remove_eq]
      rfl
    exact ⟨freed, handIn_freed h full freed body start span⟩

end Sys2Proof.Machine
end

section
/-! SUPPORT. The passages of one mark (R44 to R49): the mark found again after its own passage, the passage of a station by its
cases, the order of the points, and the marks that retire. -/

namespace Sys2Proof.Machine

/-! ## A mark through a passage of its own -/

/-- A mark rewritten under its tag and its entry number is found again under that number. -/
theorem Work.TrackRoom.byEntry_update {w : Work} (h : w.TrackRoom) {n : Nat} {m m' : Mark}
    (hm : w.track.byEntry n = some m) (he : m'.entry = m.entry) :
    (w.track.update m.tag fun _ => m').byEntry n = some m' := by
  have entries : ∀ x ∈ w.track.marks, ((if x.tag = m.tag then m' else x).entry == n) = (x.entry == n) := fun x hx => by
    split
    · next ht => rw [h.eq_of_tag (Track.byEntry_mem hm) hx ht, he]
    · rfl
  unfold Track.byEntry at hm ⊢
  unfold Track.update
  dsimp only
  rw [List.find?_map, List.find?_congr (p₂ := fun x => x.entry == n) entries, hm, Option.map_some, if_pos rfl]

/-- A mark with its begin at a station taken, at a commit its late flag too (R44, R47). -/
def Mark.begun (m : Mark) (commit : Bool) (i : StationIx) : Mark :=
  let m1 : Mark := { m with beginPassed := setFlag m.beginPassed i }
  if commit then m1.setLate else m1

theorem Mark.begun_eq (m : Mark) (commit : Bool) (i : StationIx) :
    m.begun commit i =
      { m with
        beginPassed := m.beginPassed ||| BitVec.twoPow 24 i.val
        body := match m.body with
          | .change a j x late => .change a j x (late || commit)
          | y => y } := by
  obtain ⟨tag, body, start, span, begins, ends, entry⟩ := m
  cases commit <;> cases body <;> simp [Mark.begun, Mark.setLate, setFlag]

/-- A begin changes the flags of a mark alone. -/
theorem Mark.begun_same (m : Mark) (commit : Bool) (i : StationIx) : m.Same (m.begun commit i) := by
  have flagged : m.Same { m with beginPassed := setFlag m.beginPassed i } := ⟨rfl, rfl, rfl⟩
  cases commit
  · exact flagged
  · exact flagged.trans (Mark.setLate_same _)

/-- The end of a mark is not touched by its begin. -/
theorem endDue_begun (e : Env) (i k : StationIx) (st : Station) (m : Mark) (commit : Bool) :
    endDue e i st (m.begun commit k) = endDue e i st m := by
  obtain ⟨tag, body, start, span, begins, ends, entry⟩ := m
  cases commit <;> cases body <;> rfl

theorem beginDue_iff (e : Env) (i : StationIx) (st : Station) (m : Mark) :
    beginDue e i st m = true ↔ m.beginPassed[i.val] = false ∧ e.ahead m.start ≤ e.stationReach st := by
  simp [beginDue, Env.passed]

theorem endDue_iff (e : Env) (i : StationIx) (st : Station) (m : Mark) :
    endDue e i st m = true ↔ st.wantsEnd = true ∧ m.isOpen = false ∧ m.kind ≠ .change ∧ m.endPassed[i.val] = false ∧
      e.ahead m.finish ≤ e.stationReach st := by
  simp [endDue, Env.passed, and_assoc]

/-! ## A mark at a station (R44, R47) -/

section
variable {e : Env} {commit : Bool} {n : Nat} {i : StationIx} {st : Station} {m : Mark} {w : Work}

theorem beginAt_due (h : beginDue e i st m = true) :
    beginAt e commit i st m w = beginPassage e i st (m.begun commit i) commit
      { w with track := w.track.update m.tag fun _ => m.begun commit i } := if_pos h

theorem beginAt_not_due (h : ¬beginDue e i st m = true) : beginAt e commit i st m w = w := if_neg h

theorem endAt_due (h : endDue e i st m = true) :
    endAt e i st m w =
      markNotice e i st { m with endPassed := setFlag m.endPassed i } .ends
        { w with track := w.track.update m.tag fun _ => { m with endPassed := setFlag m.endPassed i } } := if_pos h

theorem endAt_not_due (h : ¬endDue e i st m = true) : endAt e i st m w = w := if_neg h

variable (hw : w.TrackRoom) (hm : w.track.byEntry n = some m) (hst : e.stations[i] = some st)
include hm hst

/-- A station that does not act on a mark, and an UNCOMMITTED mark. -/
theorem passStation_idle (h : ¬(st.actsOn.has m.kind = true ∧ m.uncommitted = false)) :
    passStation e commit n i w = w := by
  have off : (st.actsOn.has m.kind && !m.uncommitted) = false := by simpa using h
  simp only [passStation, hst, hm, off]
  rfl

/-- An end at a station where no begin is due. -/
theorem passStation_no_begin (h : st.actsOn.has m.kind = true ∧ m.uncommitted = false) (hb : ¬beginDue e i st m = true) :
    passStation e commit n i w = endAt e i st m w := by
  obtain ⟨acts, committed⟩ := h
  simp only [passStation, hst, hm, acts, committed, beginAt_not_due hb]
  rfl

include hw

/-- A begin at a station, then the end of the mark as the begin leaves it. -/
theorem passStation_begin (h : st.actsOn.has m.kind = true ∧ m.uncommitted = false) (hb : beginDue e i st m = true) :
    passStation e commit n i w =
      endAt e i st (m.begun commit i) (beginPassage e i st (m.begun commit i) commit
        { w with track := w.track.update m.tag fun _ => m.begun commit i }) := by
  obtain ⟨acts, committed⟩ := h
  have found := hw.byEntry_update hm (m.begun_same commit i).entry
  simp only [passStation, hst, hm, acts, committed, beginAt_due hb, beginPassage_track, found]
  rfl

end

/-! ## The order of the points (R45) -/

theorem RankedPoint.before_iff {x y : RankedPoint} :
    x.before y = true ↔ y.reach < x.reach ∨ (x.reach = y.reach ∧ x.rank < y.rank) := by
  simp [RankedPoint.before]

theorem insertPoint_perm (x : RankedPoint) : ∀ l : List RankedPoint, (insertPoint x l).Perm (x :: l)
  | [] => .refl _
  | y :: l => by
    unfold insertPoint
    split
    · exact .refl _
    · exact ((insertPoint_perm x l).cons y).trans (.swap x y l)

/-- A point inserted among points of other ranks in their order stands in its place. -/
theorem insertPoint_sorted {x : RankedPoint} : ∀ {l : List RankedPoint}, (∀ y ∈ l, x.rank ≠ y.rank) →
    l.Pairwise (fun a b => a.before b = true) → (insertPoint x l).Pairwise fun a b => a.before b = true
  | [], _, _ => List.pairwise_singleton _ _
  | y :: l, hr, hs => by
    obtain ⟨hy, hl⟩ := List.pairwise_cons.mp hs
    obtain ⟨rank, ranks⟩ := List.forall_mem_cons.mp hr
    unfold insertPoint
    split
    · next first =>
      refine List.pairwise_cons.mpr ⟨List.forall_mem_cons.mpr ⟨first, fun z hz => ?_⟩, hs⟩
      have second := hy z hz
      rw [RankedPoint.before_iff] at first second ⊢
      omega
    · next first =>
      refine List.pairwise_cons.mpr ⟨fun z hz => ?_, insertPoint_sorted ranks hl⟩
      rcases List.mem_cons.mp ((insertPoint_perm x l).subset hz) with rfl | hz
      · rw [RankedPoint.before_iff] at first ⊢
        omega
      · exact hy z hz

theorem foldr_insertPoint_perm : ∀ l : List RankedPoint, (l.foldr insertPoint []).Perm l
  | [] => .refl _
  | x :: l => (insertPoint_perm x _).trans ((foldr_insertPoint_perm l).cons x)

/-- Points of distinct ranks sort by their reach and rank. -/
theorem foldr_insertPoint_sorted : ∀ {l : List RankedPoint}, l.Pairwise (fun a b => a.rank ≠ b.rank) →
    (l.foldr insertPoint []).Pairwise fun a b => a.before b = true
  | [], _ => .nil
  | x :: l, h => by
    obtain ⟨ranks, rest⟩ := List.pairwise_cons.mp h
    exact insertPoint_sorted (fun y hy => ranks y ((foldr_insertPoint_perm l).subset hy)) (foldr_insertPoint_sorted rest)

/-- A station of the table as a point. -/
def stationPoint (e : Env) (i : StationIx) : Option RankedPoint :=
  (e.stations[i]).map fun st => ⟨e.stationReach st, i.val, some i⟩

/-- The points before they are put in order. -/
def rankedPoints (e : Env) : List RankedPoint := ⟨0, 24, none⟩ :: allStations.filterMap (stationPoint e)

theorem linePoints_eq (e : Env) : linePoints e = ((rankedPoints e).foldr insertPoint []).map RankedPoint.point := rfl

theorem stationPoint_eq_some {e : Env} {i : StationIx} {x : RankedPoint} :
    stationPoint e i = some x ↔ ∃ st, e.stations[i] = some st ∧ x = ⟨e.stationReach st, i.val, some i⟩ := by
  simp [stationPoint, eq_comm]

theorem mem_rankedPoints {e : Env} {x : RankedPoint} :
    x ∈ rankedPoints e ↔ x = ⟨0, 24, none⟩ ∨
      ∃ i st, e.stations[i] = some st ∧ x = ⟨e.stationReach st, i.val, some i⟩ := by
  simp [rankedPoints, mem_allStations, stationPoint_eq_some]

theorem rankedPoints_ranks (e : Env) : (rankedPoints e).Pairwise fun a b => a.rank ≠ b.rank := by
  refine List.pairwise_cons.mpr ⟨fun x hx => ?_, List.Pairwise.filterMap _ ?_ (show allStations.Nodup by decide)⟩
  · obtain ⟨i, _, hi⟩ := List.mem_filterMap.mp hx
    obtain ⟨st, _, rfl⟩ := stationPoint_eq_some.mp hi
    exact (Nat.ne_of_lt i.isLt).symm
  · intro i j hij x hx y hy
    obtain ⟨_, _, rfl⟩ := stationPoint_eq_some.mp hx
    obtain ⟨_, _, rfl⟩ := stationPoint_eq_some.mp hy
    exact Fin.val_ne_of_ne hij

theorem mem_linePoints {e : Env} {p : LinePoint} :
    p ∈ linePoints e ↔ p = none ∨ ∃ i, p = some i ∧ e.stations[i] ≠ none := by
  rw [linePoints_eq, ((foldr_insertPoint_perm _).map _).mem_iff, List.mem_map]
  simp only [mem_rankedPoints, Option.ne_none_iff_exists']
  constructor
  · rintro ⟨x, rfl | ⟨i, st, hst, rfl⟩, rfl⟩
    · exact .inl rfl
    · exact .inr ⟨i, rfl, st, hst⟩
  · rintro (rfl | ⟨i, rfl, st, hst⟩)
    · exact ⟨_, .inl rfl, rfl⟩
    · exact ⟨_, .inr ⟨i, st, hst, rfl⟩, rfl⟩

/-- The reach of a point. -/
def pointReach (e : Env) : LinePoint → Int
  | some i => match e.stations[i] with
    | some st => e.stationReach st
    | none => 0
  | none => 0

/-- The rank of a point among those of its reach. -/
def pointRank : LinePoint → Nat
  | some i => i.val
  | none => 24

theorem rankedPoint_of_mem {e : Env} {x : RankedPoint} (h : x ∈ rankedPoints e) :
    pointReach e x.point = x.reach ∧ pointRank x.point = x.rank := by
  rcases mem_rankedPoints.mp h with rfl | ⟨i, st, hst, rfl⟩
  · exact ⟨rfl, rfl⟩
  · simp [pointReach, pointRank, hst]

/-- The points stand in the order of R45. -/
theorem linePoints_sorted (e : Env) : (linePoints e).Pairwise fun x y =>
    pointReach e y < pointReach e x ∨ (pointReach e y = pointReach e x ∧ pointRank x < pointRank y) := by
  rw [linePoints_eq, List.pairwise_map]
  refine (foldr_insertPoint_sorted (rankedPoints_ranks e)).imp_of_mem fun {x y} hx hy before => ?_
  obtain ⟨reachX, rankX⟩ := rankedPoint_of_mem ((foldr_insertPoint_perm _).subset hx)
  obtain ⟨reachY, rankY⟩ := rankedPoint_of_mem ((foldr_insertPoint_perm _).subset hy)
  rw [reachX, rankX, reachY, rankY, eq_comm (a := y.reach)]
  exact RankedPoint.before_iff.mp before

/-! ## Retirement (R49) -/

theorem mem_retireMarks {e : Env} {except : Option Nat} {w : Work} {m : Mark} :
    m ∈ (retireMarks e except w).track.marks ↔ m ∈ w.track.marks ∧ retires e w except m = false := by
  unfold retireMarks
  split
  · simp
  · next none =>
    have stays : m ∈ w.track.marks → retires e w except m = false := fun hm => by
      simpa using fun hr => none (List.any_eq_true.mpr ⟨m, hm, hr⟩)
    exact ⟨fun hm => ⟨hm, stays hm⟩, And.left⟩

theorem retires_iff {e : Env} {w : Work} {except : Option Nat} {m : Mark} :
    retires e w except m = true ↔
      m.isOpen = false ∧ e.passedKind .stacker m.finish = true ∧ except ≠ some m.entry ∧
        ∀ i j, m.pair? = some (i, j) → w.seq.running ≠ some j ∧
          ∀ k : Stand, ∀ q, w.stands[k].requirement = some q → q.changeTag ≠ m.tag := by
  have named : ((allStands.any fun k => (w.stands[k].requirement.map Requirement.changeTag) == some m.tag) = false) ↔
      ∀ k : Stand, ∀ q, w.stands[k].requirement = some q → q.changeTag ≠ m.tag := by
    simp [mem_allStands]
  unfold retires
  cases m.pair? with
  | none => simp [and_assoc]
  | some p =>
    obtain ⟨i, j⟩ := p
    simp only [Bool.and_eq_true, Bool.not_eq_true', bne_iff_ne, named, Option.some.injEq, Prod.mk.injEq, and_imp,
      forall_eq', forall_apply_eq_imp_iff, and_assoc]
    tauto

/-- Settles O47, by the cases of `passStation`, and by `linePoints_sorted` and `retires_iff`. -/
theorem markPassages : Obligations.MarkPassages := by
  refine ⟨?_, ?_, ?_, ?_⟩
  · intro e commit n i st m w hw hm hst acts begins ends bit m1 ended hold t
    have hb : beginDue e i st m = true ↔ begins := beginDue_iff e i st m
    have he : endDue e i st m = true ↔ ends := endDue_iff e i st m
    have he1 : endDue e i st (m.begun commit i) = true ↔ ends := endDue_begun e i i st m commit ▸ he
    have hm1 : m.begun commit i = m1 := m.begun_eq commit i
    have tag : m1.tag = m.tag := rfl
    refine ⟨fun h => ?_, fun ha h1 h2 => ?_, fun ha h1 h2 => ?_, fun ha h1 h2 => ?_, fun y =>
      ⟨beginPassage_track _ _ _ _ _ _, markNotice_track _ _ _ _ _ _⟩⟩
    · by_cases ha : acts
      · obtain ⟨h1, h2⟩ := h.resolve_left (not_not.mpr ha)
        exact (passStation_no_begin hm hst ha (hb.not.mpr h1)).trans (endAt_not_due (he.not.mpr h2))
      · exact passStation_idle hm hst ha
    · refine (passStation_begin hw hm hst ha (hb.mpr h1)).trans ?_
      rw [endAt_not_due (he1.not.mpr h2), hm1]
    · exact (passStation_no_begin hm hst ha (hb.not.mpr h1)).trans (endAt_due (he.mpr h2))
    · refine (passStation_begin hw hm hst ha (hb.mpr h1)).trans ?_
      rw [endAt_due (he1.mpr h2), hm1]
      rfl
  · intro e report n m w hm active due
    have taken : ((m.changeState? == some .committed) && e.passed m.start 0) = true ↔ due := by
      simp [Env.passed, due]
    simp only [passDatum, hm]
    exact ⟨fun h => if_pos (taken.mpr h), fun h => if_neg (taken.not.mpr h)⟩
  · intro e
    refine ⟨mem_linePoints.mpr (.inl rfl), fun i => ?_, linePoints_sorted e⟩
    rw [mem_linePoints]
    simp
  · intro e except w m
    rw [mem_retireMarks, ← retires_iff, Bool.not_eq_true]

end Sys2Proof.Machine
end

section
/-! SUPPORT. What marks cover (R32), the forecast of an order and its recompute (R141 to R143). -/

namespace Sys2Proof.Machine

/-! ## Cover (R32) -/

/-- Two stretches overlap where they share a position. -/
theorem Extent.overlaps_iff (x y : Extent) :
    x.overlaps y = true ↔ ∃ p : Int, x.lo ≤ p ∧ y.lo ≤ p ∧ (∀ h, x.hi = some h → p < h) ∧ ∀ h, y.hi = some h → p < h := by
  constructor
  · intro meet
    refine ⟨max x.lo y.lo, le_max_left _ _, le_max_right _ _, fun h hh => ?_, fun h hh => ?_⟩ <;>
      simp only [Extent.overlaps, hh, Bool.and_eq_true, decide_eq_true_eq] at meet
    · exact meet.1
    · exact meet.2
  · rintro ⟨p, lx, ly, hx, hy⟩
    have bound : max x.lo y.lo ≤ p := max_le lx ly
    refine Bool.and_eq_true_iff.mpr ⟨?_, ?_⟩
    · cases hh : x.hi with
      | none => rfl
      | some h => exact decide_eq_true (bound.trans_lt (hx h hh))
    · cases hh : y.hi with
      | none => rfl
      | some h => exact decide_eq_true (bound.trans_lt (hy h hh))

section
variable (e : Env) {m : Mark}

theorem markExtent_change (h : m.kind = .change) : markExtent e m = none := by
  unfold Mark.kind MarkBody.kind at h
  unfold markExtent
  cases hb : m.body <;> simp_all

theorem markExtent_open (h : m.kind ≠ .change) (ho : m.isOpen = true) : markExtent e m = some ⟨e.ahead m.start, none⟩ := by
  obtain ⟨_, body, _, _, _, _, _⟩ := m
  cases body with
  | mismatch k c => cases c with
    | false => cases ho
    | true => rfl
  | joint _ _ => cases ho
  | defect _ _ => cases ho
  | change _ _ _ _ => exact absurd rfl h

theorem markExtent_closed (h : m.kind ≠ .change) (ho : m.isOpen = false) :
    markExtent e m = some ⟨e.ahead m.start, some (e.ahead m.finish)⟩ := by
  obtain ⟨_, body, _, _, _, _, _⟩ := m
  cases body with
  | mismatch k c => cases c with
    | false => rfl
    | true => cases ho
  | joint _ _ => rfl
  | defect _ _ => rfl
  | change _ _ _ _ => exact absurd rfl h

end

/-! ## The forecast (R141) -/

/-- The cut of an order after its first `n` is clear of some stretches. -/
def cleanCut (e : Env) (covered : List Extent) (s : Pos) (len n : Nat) : Bool :=
  !covered.any (between e (s.plus (n * len : Nat)) (s.plus ((n + 1) * len : Nat))).overlaps

theorem cleanCuts_eq (e : Env) (covered : List Extent) (s : Pos) (len : Nat) : ∀ k n : Nat,
    cleanCuts e covered s len k (n + 1) = (List.range' n k).countP (cleanCut e covered s len)
  | 0, _ => rfl
  | k + 1, n => by
    rw [cleanCuts, cleanCuts_eq e covered s len k (n + 1), List.range'_succ, List.countP_cons, Nat.add_comm]
    have cut : covered.any (cutExtent e s len (n + 1)).overlaps = !cleanCut e covered s len n := by
      simp only [cleanCut, cutExtent, Nat.add_sub_cancel, Bool.not_not]
    rw [cut]
    cases cleanCut e covered s len n <;> rfl

/-- Numbers of a range from a bound on, counted. -/
theorem countP_range_from (p : Nat → Bool) (a n : Nat) :
    (List.range n).countP (fun x => decide (a ≤ x) && p x) = (List.range' a (n - a)).countP p := by
  have before : ∀ k ≤ a, (List.range k).countP (fun x => decide (a ≤ x) && p x) = 0 := fun k hk => by
    refine List.countP_eq_zero.mpr fun x hx => ?_
    have small := List.mem_range.mp hx
    simp; omega
  rcases Nat.le_total n a with h | h
  · rw [before n h, Nat.sub_eq_zero_of_le h]
    rfl
  · have split : List.range n = List.range a ++ List.range' a (n - a) := by
      rw [List.range_eq_range', List.range_eq_range', ← Nat.add_sub_cancel' h, Nat.add_sub_cancel_left]
      simpa using (List.range'_append (s := 0) (m := a) (n := n - a) (step := 1)).symm
    rw [split, List.countP_append, before a le_rfl, Nat.zero_add]
    refine List.countP_congr fun x hx => ?_
    have large := (List.mem_range'_1.mp hx).1
    simp [large]

theorem goodInList_eq (u : SheetUnit) (tag : Nat) :
    goodInList u tag = (u.sheets.filter fun x => x.order = tag ∧ x.cause = none ∧ x.gatePassed = false).length := by
  unfold goodInList
  congr 1
  refine List.filter_congr fun x _ => ?_
  rw [Bool.eq_iff_iff]
  simp [and_assoc]

/-- An order without a start, or without an end mark in the track, has no forecast. -/
theorem forecast_none {e : Env} {w : Work} {o : Order}
    (h : o.startPos = none ∨ ∀ g, o.endTag = some g → w.track.find g = none) : forecast e w o = none := by
  unfold forecast Work.endMark
  rcases h with h | h
  · rw [h]
  · have gone : o.endTag.bind w.track.find = none := Option.bind_eq_none_iff.mpr h
    rw [gone]
    cases o.startPos <;> rfl

/-- The forecast of an order with a start and an end mark. -/
theorem forecast_some {e : Env} {w : Work} {o : Order} {s : Pos} {g : Nat} {m : Mark} (hs : o.startPos = some s)
    (hg : o.endTag = some g) (hm : w.track.find g = some m) :
    forecast e w o = some (o.tallies.good + goodInList w.sheet o.tag +
      if o.tallies.endPos = none then
        ((List.range (cutsTo e s m.start o.given.length)).filter fun n =>
          decide (o.tallies.cuts ≤ n) &&
            cleanCut e (w.track.marks.filterMap (forecastExtent e)) s o.given.length n).length
      else 0) := by
  have found : w.endMark o = some m := by simp [Work.endMark, hg, hm]
  simp only [forecast, hs, found, forecastWith, cleanCuts_eq]
  rw [← List.countP_eq_length_filter, countP_range_from]
  cases o.tallies.endPos <;> rfl

/-! ## ORDER_SHORT (R143) -/

section
variable {e : Env} {tag : Nat} {w : Work} {o : Order} (h : w.seq.find tag = some o)
include h

theorem raiseShort_again (hs : o.tallies.short = true) : raiseShort e tag w = w := by
  simp [raiseShort, h, hs]

theorem raiseShort_first (hs : o.tallies.short = false) :
    raiseShort e tag w = raiseAlarm e .orderShort (.order tag) (w.updTallies tag fun t => { t with short := true }) := by
  simp [raiseShort, h, hs]

end

/-! ## A recompute with no order short (R142) -/

/-- An order with its forecast noted. -/
def Order.noted (e : Env) (w : Work) (o : Order) : Order :=
  match forecast e w o with
  | some f => { o with tallies := { o.tallies with forecast := f } }
  | none => o

theorem recompute_eq (e : Env) (w : Work) :
    recompute e w = recomputePass e (recomputeWithin e 4294967295) (w.seq.sequence.map Order.tag) w := by
  change recomputeWithin e (4294967295 + 1) w = _
  rw [recomputeWithin]

section
variable {q : Sequencer} (hn : (q.live.map Order.tag).Nodup) {passed rest : List Order} {o : Order}
  (hs : q.sequence = passed ++ o :: rest)
include hn hs

/-- An order of the sequence is the live one with its tag. -/
theorem Sequencer.find_of_sequence : q.find o.tag = some o := by
  refine List.find?_eq_some_iff_append.mpr ⟨by simp, passed, rest ++ q.held, by simp [Sequencer.live, hs], ?_⟩
  intro x hx
  have apart : x.tag ≠ o.tag := by
    rw [Sequencer.live, hs, List.append_assoc, List.map_append, List.nodup_append] at hn
    exact hn.2.2 x.tag (List.mem_map_of_mem hx) o.tag (by simp)
  simpa using apart

/-- An order of the sequence rewritten, where the tags of the live orders are distinct. -/
theorem Sequencer.update_of_sequence (f : Order → Order) :
    q.update o.tag f = { q with sequence := passed ++ f o :: rest } := by
  rw [Sequencer.live, hs, List.append_assoc, List.map_append, List.cons_append, List.map_cons, List.nodup_append,
    List.nodup_cons, List.map_append, List.mem_append] at hn
  obtain ⟨_, ⟨after, _⟩, before⟩ := hn
  have same : ∀ l : List Order, (∀ x ∈ l, x.tag ≠ o.tag) → l.map (fun x => if x.tag = o.tag then f x else x) = l :=
    fun l hl => (List.map_congr_left fun x hx => if_neg (hl x hx)).trans (List.map_id l)
  have first := same passed fun x hx => before x.tag (List.mem_map_of_mem hx) o.tag (by simp)
  have later := same rest fun x hx heq => after (.inl (heq ▸ List.mem_map_of_mem hx))
  have held := same q.held fun x hx heq => after (.inr (heq ▸ List.mem_map_of_mem hx))
  simp only [Sequencer.update, hs, List.map_append, List.map_cons, first, later, held, if_pos]

end

/-- With no order of the rest short, a recompute notes their forecasts. -/
theorem recomputePass_noted (e : Env) (again : Work → Work) : ∀ (rest passed : List Order) (w : Work),
    (w.seq.live.map Order.tag).Nodup → w.seq.sequence = passed ++ rest →
    (∀ o ∈ rest, ∀ f, forecast e w o = some f → o.given.required ≤ f) →
    recomputePass e again (rest.map Order.tag) w =
      { w with seq := { w.seq with sequence := passed ++ rest.map (Order.noted e w) } }
  | [], passed, w, _, hs, _ => by
    rw [List.map_nil, List.map_nil, ← hs]
    rfl
  | o :: rest, passed, w, hn, hs, hf => by
    obtain ⟨met, hf⟩ := List.forall_mem_cons.mp hf
    have found := Sequencer.find_of_sequence hn hs
    have split : ∀ (x : Order) (l : List Order), passed ++ x :: l = passed ++ [x] ++ l := by simp
    rw [List.map_cons]
    cases ho : forecast e w o with
    | none =>
      have unchanged : o.noted e w = o := by simp [Order.noted, ho]
      have none : ∀ x, w.seq.find o.tag = some x → forecast e w x = none := fun x hx =>
        Option.some.inj (found.symm.trans hx) ▸ ho
      rw [recomputePass_none again _ none, recomputePass_noted e again rest (passed ++ [o]) w hn (hs.trans (split o rest)) hf]
      simp [unchanged]
    | some f =>
      have new : o.noted e w = { o with tallies := { o.tallies with forecast := f } } := by simp [Order.noted, ho]
      have update := Sequencer.update_of_sequence hn hs fun o => { o with tallies := { o.tallies with forecast := f } }
      set w1 := w.updTallies o.tag fun t => { t with forecast := f }
      have seq : w1.seq = { w.seq with sequence := passed ++ o.noted e w :: rest } := update.trans (by rw [new])
      have tags : w1.seq.live.map Order.tag = w.seq.live.map Order.tag := by
        rw [seq, Sequencer.live, Sequencer.live, hs, new]
        simp [Order.tag]
      have same : Order.noted e w1 = Order.noted e w := rfl
      rw [recomputePass_met again _ found ho (met f ho),
        recomputePass_noted e again rest (passed ++ [o.noted e w]) w1 (tags ▸ hn) (by rw [seq]; exact split _ _) hf, seq, same, ← split]
      rfl

/-- Settles O51, by the lemmas above; a recompute, order by order, is `recomputePass_none`, `recomputePass_met` and
`recomputePass_deficit`. -/
theorem forecastAndDeficit : Obligations.ForecastAndDeficit := by
  refine ⟨Extent.overlaps_iff, fun e m => ⟨markExtent_change e, markExtent_open e, markExtent_closed e⟩, ?_,
    fun e w => ⟨_, recompute_eq e w⟩, ?_, ?_, ?_⟩
  · intro e w o covers
    have cover : covers = forecastExtent e := by
      funext m
      obtain ⟨_, body, _, _, _, _, _⟩ := m
      cases body with
      | mismatch k c => cases c <;> rfl
      | joint _ _ => rfl
      | defect _ _ => rfl
      | change _ _ _ _ => rfl
    refine ⟨forecast_none, fun s g m hs hg hm => ?_⟩
    intro len all clean coming unmade
    rw [show coming.length = _ from (goodInList_eq w.sheet o.tag).symm]
    have known := forecast_some (e := e) hs hg hm
    rw [← cover] at known
    exact known
  · intro e again tag rest w
    refine ⟨rfl, recomputePass_none again rest, fun o f ho hf => ⟨recomputePass_met again rest ho hf, fun short => ?_⟩⟩
    intro x
    have taken := recomputePass_deficit again rest ho hf short
    exact ⟨fun h => taken.trans (by rw [deficitTaken, if_pos h]), fun h => taken.trans (by rw [deficitTaken, if_neg h])⟩
  · intro e tag w o h
    refine ⟨raiseShort_again h, fun hs => ⟨raiseShort_first h hs, ?_⟩⟩
    rw [raiseShort_first h hs]
    exact raiseAlarm_hasAlarm _ _ _ _
  · intro e w hn met
    rw [recompute_eq]
    exact recomputePass_noted e _ w.seq.sequence [] w hn rfl met

end Sys2Proof.Machine
end

section
/-! SUPPORT. Moves and holds (R39, R105 to R107): an order moved by cuts, marks placed again one by one, a mark that leaves, and the
hold of a refused order. -/

namespace Sys2Proof.Machine

/-! ## The move of an order (R107) -/

/-- The track holds an uncommitted mark under a tag where that tag names a PLANNED or PROPOSED change. -/
theorem Track.changeState_uncommitted {t : Track} {g : Nat} :
    (∃ m, t.find g = some m ∧ m.uncommitted = true) ↔
      t.changeState (some g) = some .planned ∨ t.changeState (some g) = some .proposed := by
  simp only [Track.changeState]
  cases t.find g <;> simp [Mark.uncommitted]

section
variable {e : Env} {a : Work → Work} {i : Nat} (c : Nat) {w : Work} {o : Order} (ho : w.seq.find i = some o)
include ho

/-- A move of an order without an end mark is kept in its added cuts. -/
theorem moveOrder_kept (hg : o.endTag = none) :
    moveOrder e a i c w = (w.updOrder i fun x => { x with added := x.added + c }, .kept) := by
  simp only [moveOrder, ho, hg]

variable {g : Nat} (hg : o.endTag = some g)
include hg

/-- A move of an order whose end mark is bound is refused. -/
theorem moveOrder_refused (h : ¬∃ m, w.track.find g = some m ∧ m.uncommitted = true) :
    moveOrder e a i c w = (w, .refused) := by
  rw [Track.changeState_uncommitted] at h
  simp only [moveOrder, ho, hg]
  split
  · next hs => exact absurd (.inl hs) h
  · next hs => exact absurd (.inr hs) h
  · rfl

/-- A move of an order places its end mark and every later uncommitted mark again. -/
theorem moveOrder_moved (h : ∃ m, w.track.find g = some m ∧ m.uncommitted = true) :
    moveOrder e a i c w =
      (placeAll e a (marksFrom w.track g)
        (w.updOrder i fun x => { x with added := x.added + c, planned := x.planned + c }), .moved) := by
  rcases Track.changeState_uncommitted.mp h with hs | hs <;> simp only [moveOrder, ho, hg, hs]

end

/-! ## Marks placed again (R105, R107) -/

/-- What placing marks again keeps: the tags of the track, the orders held, and the orders of the sequence with their added
cuts. -/
structure Placing (w w' : Work) : Prop where
  tags : (w'.track.marks.map Mark.tag).Perm (w.track.marks.map Mark.tag)
  held : w'.seq.held.map Order.tag = w.seq.held.map Order.tag
  sequence : w'.seq.sequence.map (fun o => (o.tag, o.added)) = w.seq.sequence.map fun o => (o.tag, o.added)

theorem Placing.refl (w : Work) : Placing w w := ⟨.refl _, rfl, rfl⟩

theorem Placing.trans {a b c : Work} (h : Placing a b) (g : Placing b c) : Placing a c :=
  ⟨g.tags.trans h.tags, g.held.trans h.held, g.sequence.trans h.sequence⟩

/-- A mark in its new place is a mark of the tags there were. -/
theorem Track.move_tags {e : Env} {t t' : Track} {g : Nat} {p : Pos} (hn : (t.marks.map Mark.tag).Nodup)
    (h : t.move e g p = some t') : (t'.marks.map Mark.tag).Perm (t.marks.map Mark.tag) := by
  obtain ⟨m, hm, _, _, rfl⟩ := Track.move_eq_some h
  obtain rfl := Track.find_tag hm
  have mem := Track.find_mem hm
  have others : ((t.remove m.tag).marks.map Mark.tag).Nodup := hn.sublist (List.filter_sublist.map Mark.tag)
  have out : m.tag ∉ (t.remove m.tag).marks.map Mark.tag := fun hx => by
    obtain ⟨x, hx, ht⟩ := List.mem_map.mp hx
    exact Track.remove_gone x hx ht
  refine ((insertMark_perm _ _ _).map Mark.tag).trans ?_
  rw [List.map_cons, List.perm_ext_iff_of_nodup (List.nodup_cons.mpr ⟨out, others⟩) hn]
  intro x
  simp only [Track.remove, List.mem_cons, List.mem_map, List.mem_filter, bne_iff_ne]
  constructor
  · rintro (rfl | ⟨y, ⟨hy, _⟩, rfl⟩)
    · exact ⟨m, mem, rfl⟩
    · exact ⟨y, hy, rfl⟩
  · rintro ⟨y, hy, rfl⟩
    exact (eq_or_ne y.tag m.tag).imp id fun hne => ⟨y, ⟨hy, hne⟩, rfl⟩

/-- An order rewritten under its tag and its added cuts. -/
theorem updOrder_placing (w : Work) (i : Nat) {f : Order → Order} (hf : ∀ o, (f o).tag = o.tag ∧ (f o).added = o.added) :
    Placing w (w.updOrder i f) := by
  refine ⟨.refl _, ?_, ?_⟩ <;>
  · simp only [Work.updOrder, Sequencer.update, List.map_map]
    refine List.map_congr_left fun o _ => ?_
    simp only [Function.comp]
    split <;> simp [hf o]

theorem moveTo_placing {e : Env} {g i j : Nat} {p : Placed} {w w' : Work} (hn : (w.track.marks.map Mark.tag).Nodup)
    (h : moveTo e g i j p w = some w') : Placing w w' := by
  obtain ⟨t, ht, rfl⟩ := Option.map_eq_some_iff.mp h
  have moved : Placing w { w with track := t, owed := { w.owed with due := true } } :=
    ⟨Track.move_tags hn ht, rfl, rfl⟩
  exact moved.trans ((updOrder_placing (f := fun x => { x with planned := p.planned }) _ i fun _ => ⟨rfl, rfl⟩).trans
    (updOrder_placing (f := fun x => { x with startPos := some p.pos }) _ j fun _ => ⟨rfl, rfl⟩))

/-- All that placing does with the first of its marks: it stays, it ends the placing, or it moves. -/
theorem placeMarks_cases (e : Env) (g : Nat) (rest : List Nat) (n : Nat) (w : Work) :
    placeMarks e (g :: rest) n w = placeMarks e rest n w ∨
    placeMarks e (g :: rest) n w = ⟨{ w with seq := { w.seq with noPlace := true } }, n, g :: rest⟩ ∨
    ∃ i j p w', moveTo e g i j p w = some w' ∧ placeMarks e (g :: rest) n w = placeMarks e rest (n + 1) w' := by
  rw [placeMarks]
  split
  · exact .inl rfl
  · next i j _ =>
    split
    · exact .inl rfl
    · split
      · exact .inr (.inl rfl)
      · next p _ =>
        cases hm : moveTo e g i j p w with
        | none => exact .inl rfl
        | some w' => exact .inr (.inr ⟨i, j, p, w', hm, rfl⟩)

theorem placeMarks_placing (e : Env) : ∀ (tags : List Nat) (n : Nat) (w : Work), (w.track.marks.map Mark.tag).Nodup →
    Placing w (placeMarks e tags n w).work
  | [], _, w, _ => .refl w
  | g :: rest, n, w, hn => by
    rcases placeMarks_cases e g rest n w with h | h | ⟨i, j, p, w', hm, h⟩ <;> rw [h]
    · exact placeMarks_placing e rest n w hn
    · exact ⟨.refl _, rfl, rfl⟩
    · have moved := moveTo_placing hn hm
      exact moved.trans (placeMarks_placing e rest (n + 1) w' (moved.tags.nodup_iff.mpr hn))

/-- The marks that found no position are the last ones. -/
theorem placeMarks_unplaced (e : Env) : ∀ (tags : List Nat) (n : Nat) (w : Work),
    ∃ placed, tags = placed ++ (placeMarks e tags n w).unplaced
  | [], _, _ => ⟨[], rfl⟩
  | g :: rest, n, w => by
    rcases placeMarks_cases e g rest n w with h | h | ⟨i, j, p, w', _, h⟩ <;> rw [h]
    · obtain ⟨placed, hp⟩ := placeMarks_unplaced e rest n w
      exact ⟨g :: placed, congrArg (g :: ·) hp⟩
    · exact ⟨[], rfl⟩
    · obtain ⟨placed, hp⟩ := placeMarks_unplaced e rest (n + 1) w'
      exact ⟨g :: placed, congrArg (g :: ·) hp⟩

theorem acceptsMove_iff {e : Env} {t : Track} {p : Pos} :
    acceptsMove e t p = true ↔ (∀ x ∈ t.boundChanges, e.ahead x.start < e.ahead p) ∧ 0 < e.ahead p := by
  simp [acceptsMove]

section
variable {e : Env} {g : Nat} (rest : List Nat) (n : Nat) {w : Work} {m : Mark} {i j : Nat} {o : Order}
  (hm : w.track.find g = some m) (hp : m.pair? = some (i, j)) (ho : w.seq.find i = some o)
include hm hp ho

/-- A mark without a position ends the placing. -/
theorem placeMarks_no_position (h : placement e w.seq o j = none) :
    placeMarks e (g :: rest) n w = ⟨{ w with seq := { w.seq with noPlace := true } }, n, g :: rest⟩ := by
  rw [placeMarks]
  simp only [hm, Option.bind_some, hp, ho, h]

variable {p : Placed} (h : placement e w.seq o j = some p)
include h

/-- A mark whose move the track does not accept stays. -/
theorem placeMarks_stays (ha : ¬acceptsMove e w.track p.pos = true) :
    placeMarks e (g :: rest) n w = placeMarks e rest n w := by
  have stays : moveTo e g i j p w = none := by simp [moveTo, Track.move, hm, ha]
  rw [placeMarks]
  simp only [hm, Option.bind_some, hp, ho, h, stays]

/-- A mark whose move the track accepts takes its place, and its orders their cuts and start. -/
theorem placeMarks_moves (hu : m.uncommitted = true) (ha : acceptsMove e w.track p.pos = true) :
    placeMarks e (g :: rest) n w = placeMarks e rest (n + 1)
      { w with
        track := { w.track with marks := insertMark e.b { m with start := p.pos } (w.track.remove g).marks }
        seq := (w.seq.update i fun x => { x with planned := p.planned }).update j fun x => { x with startPos := some p.pos }
        owed := { w.owed with due := true } } := by
  have move : w.track.move e g p.pos =
      some { w.track with marks := insertMark e.b { m with start := p.pos } (w.track.remove g).marks } := by
    simp [Track.move, hm, hu, ha]
  rw [placeMarks]
  simp only [hm, Option.bind_some, hp, ho, h, moveTo, move]
  rfl

end

/-! ## A mark that leaves (R39) -/

theorem removeChange_eq (a : Work → Work) {w : Work} {g : Nat} {m : Mark} {i j : Nat} (hm : w.track.find g = some m)
    (hu : m.uncommitted = true) (hp : m.pair? = some (i, j)) :
    removeChange a w g = a
      { withdrawFor g w with
        track := (withdrawFor g w).track.remove g
        seq := ((withdrawFor g w).seq.update i fun x => { x with endTag := none }).update j
          fun x => { x with startTag := none, startPos := none }
        owed := ⟨true, true⟩ } := by
  simp only [removeChange, hm, hp, hu]
  rfl

/-! ## The hold of a refused order (R106) -/

/-- The last order of a sequence has no successor. -/
theorem successorIn_last {o : Order} : ∀ {l : List Order}, (∀ x ∈ l, x.tag ≠ o.tag) → successorIn o.tag (l ++ [o]) = none
  | [], _ => rfl
  | [a], h => by simp [successorIn, h a (by simp)]
  | a :: b :: l, h => by
    have ih := successorIn_last (l := b :: l) fun x hx => h x (List.mem_cons_of_mem a hx)
    simpa [successorIn, h a (by simp)] using ih

/-- An order as it is held: off the chain. -/
def Order.freed (o : Order) : Order :=
  { o with startPos := none, startTag := none, endTag := none, endCommitted := false }

section
variable {e : Env} {g : Nat} {w : Work} {o : Order} {earlier later : List Order}
  (hs : w.seq.sequence = earlier ++ o :: later) (hn : ∀ x ∈ earlier ++ later, x.tag ≠ o.tag)
include hs hn

theorem find_held : w.seq.find o.tag = some o := by
  refine List.find?_eq_some_iff_append.mpr ⟨by simp, earlier, later ++ w.seq.held, by simp [Sequencer.live, hs], ?_⟩
  intro x hx
  simpa using hn x (List.mem_append_left later hx)

theorem holdOrder_eq :
    holdOrder o.tag w = { w with seq := { w.seq with sequence := earlier ++ later, held := w.seq.held ++ [o.freed] } } := by
  have found : w.seq.sequence.find? (fun x => x.tag == o.tag) = some o :=
    List.find?_eq_some_iff_append.mpr ⟨by simp, earlier, later, hs, fun x hx => by
      simpa using hn x (List.mem_append_left later hx)⟩
  have others : w.seq.sequence.filter (fun x => x.tag != o.tag) = earlier ++ later := by
    have kept : (earlier ++ later).filter (fun x => x.tag != o.tag) = earlier ++ later :=
      List.filter_eq_self.mpr fun x hx => by simpa using hn x hx
    rw [hs, List.filter_append, List.filter_cons_of_neg (by simp), ← List.filter_append, kept]
  simp only [holdOrder, found, others]
  rfl

/-- A refused order without a successor is held, and the mark refused leaves. -/
theorem refusalHold_last (hl : later = []) :
    refusalHold e g o.tag w =
      extendChain e (removeChange (announce e) (removeEnd e (some o) (holdOrder o.tag w)) g) := by
  have last : w.seq.successor o.tag = none := by
    rw [Sequencer.successor, hs, hl]
    exact successorIn_last fun x hx => hn x (List.mem_append_left later hx)
  simp only [refusalHold, find_held hs hn, last]

/-- A refused order with a successor is held, and the chain re-planned from the mark refused, which leads to the successor. -/
theorem refusalHold_replan {k : Order} {rest : List Order} (hl : later = k :: rest) :
    refusalHold e g o.tag w = replan e g k.tag (removeEnd e (some o) (holdOrder o.tag w)) := by
  have next : w.seq.successor o.tag = some k := by
    rw [Sequencer.successor, hs, hl]
    exact successorIn_append rest fun x hx => hn x (List.mem_append_left later hx)
  simp only [refusalHold, find_held hs hn, next]

end

theorem removeEnd_cases (e : Env) (o : Order) (w : Work) :
    (o.endTag = none → removeEnd e (some o) w = w) ∧
    ∀ x, o.endTag = some x → removeEnd e (some o) w = removeChange (announce e) w x := by
  unfold removeEnd
  exact ⟨fun h => by simp [h], fun x h => by simp [h]⟩

/-- A mark led to another order (R104). -/
theorem relead_eq (k : Nat) {w : Work} {g : Nat} {m : Mark} {i j : Nat} {st : ChangeState} {late : Bool}
    (hm : w.track.find g = some m) (hb : m.body = .change i j st late) :
    relead g k w =
      { w with
        track := w.track.update g fun y => { y with body := .change i k st late }
        seq := (w.seq.update j fun y => { y with startTag := none, startPos := none }).update k
          fun y => { y with startTag := some g, startPos := some m.start }
        owed := { w.owed with due := true } } := by
  simp only [relead, hm, hb]
  rfl

/-- Settles O40, by the cases of a move, of the marks placed again, and of a refusal; that placing keeps the marks of the
track is `placeMarks_placing`. -/
theorem movesAndHolds : Obligations.MovesAndHolds := by
  refine ⟨fun e a i c w o ho => ⟨moveOrder_kept c ho, fun g hg => ⟨moveOrder_refused c ho hg, moveOrder_moved c ho hg⟩⟩,
    ?_, ?_, ?_, ?_⟩
  · intro e tags n w h x
    obtain ⟨marks, held, sequence⟩ := placeMarks_placing e tags n w h.tags
    exact ⟨placeMarks_unplaced e tags n w, marks, held, sequence⟩
  · intro e g rest n w m i j o hm hu hp ho
    refine ⟨placeMarks_no_position rest n hm hp ho, fun p h => ?_⟩
    have others : (w.track.remove g).marks = w.track.marks.filter fun x => x.tag ≠ g :=
      congrArg Track.marks (Track.remove_eq w.track g)
    rw [← acceptsMove_iff, ← others]
    exact ⟨placeMarks_stays rest n hm hp ho h, placeMarks_moves rest n hm hp ho h hu⟩
  · intro a w g m i j hm hu hp w1
    rw [removeChange_eq a hm hu hp, Track.remove_eq]
  · intro e g w o earlier later hs hn freed w0 ending
    have held : holdOrder o.tag w = w0 := holdOrder_eq hs hn
    have ends : ∀ t : Work → Work, refusalHold e g o.tag w = t (removeEnd e (some o) w0) → ending t := fun t ht => by
      obtain ⟨without, found⟩ := removeEnd_cases e o w0
      exact ⟨fun h => ht.trans (congrArg t (without h)), fun x h => ht.trans (congrArg t (found x h))⟩
    clear_value ending
    refine ⟨fun hl => ends _ ?_, fun k rest hl => ⟨ends _ ?_, fun x m a b st late hm hb => relead_eq k.tag hm hb⟩⟩
    · rw [refusalHold_last hs hn hl, held]
    · rw [refusalHold_replan hs hn hl, held]
      rfl

end Sys2Proof.Machine
end

section
/-! SUPPORT. The records that few commands change: the ready reels and enables of the stands, the loads of the slitters and the
completion log. What evaluations, announcements, joints, proposals and settling make of them. -/

namespace Sys2Proof.Machine

/-- The ready reel and the enable of each stand, the loads of the two slitters, and the completion log. -/
@[ext] structure Records where
  ready : Stand → Option Reel
  enable : Stand → Bool
  loadedA : Option Nat
  loadedB : Option Nat
  log : List Completion

def Work.records (w : Work) : Records where
  ready k := w.stands[k].ready
  enable k := w.stands[k].enable
  loadedA := w.station.slitters.loadedA
  loadedB := w.station.slitters.loadedB
  log := w.sheet.log

theorem Work.records_of_eq {w w' : Work} (stands : w'.stands = w.stands) (station : w'.station = w.station)
    (sheet : w'.sheet = w.sheet) : w'.records = w.records := by
  unfold Work.records
  rw [stands, station, sheet]

theorem NoticeFrame.records {w w' : Work} (h : NoticeFrame w w') : w'.records = w.records :=
  Work.records_of_eq h.stands h.station h.sheet

/-! ## One stand rewritten -/

/-- A stand rewritten changes its own ready reel and enable at most. -/
theorem setStand_records (w : Work) (k : Stand) (r : StandRec) :
    (w.setStand k r).records =
      { w.records with
        ready := Function.update w.records.ready k r.ready
        enable := Function.update w.records.enable k r.enable } := by
  have item : ∀ {α : Type} (f : StandRec → α),
      (fun x : Stand => f (w.setStand k r).stands[x]) = Function.update (fun x : Stand => f w.stands[x]) k (f r) := by
    intro α f
    funext x
    by_cases h : x = k
    · subst h
      rw [Function.update_self, Work.setStand_self]
    · rw [Function.update_of_ne h, Work.setStand_other w k x r h]
  exact Records.ext (item StandRec.ready) (item StandRec.enable) rfl rfl rfl

theorem update_enable_self (w : Work) (k : Stand) :
    Function.update w.records.enable k w.stands[k].enable = w.records.enable := Function.update_eq_self k _

theorem update_ready_self (w : Work) (k : Stand) :
    Function.update w.records.ready k w.stands[k].ready = w.records.ready := Function.update_eq_self k _

/-- A stand rewritten with its ready reel and its enable as they were. -/
theorem setStand_records_kept {w : Work} {k : Stand} {r : StandRec} (ready : r.ready = w.stands[k].ready)
    (enable : r.enable = w.stands[k].enable) : (w.setStand k r).records = w.records := by
  rw [setStand_records, ready, enable, update_ready_self, update_enable_self]

theorem updStand_records_kept {w : Work} {k : Stand} {f : StandRec → StandRec} (ready : ∀ r, (f r).ready = r.ready)
    (enable : ∀ r, (f r).enable = r.enable) : (w.updStand k f).records = w.records :=
  setStand_records_kept (ready _) (enable _)

/-- The ready reel of a stand rewritten, and its enable kept. -/
theorem updStand_records_ready {w : Work} {k : Stand} {f : StandRec → StandRec} (enable : ∀ r, (f r).enable = r.enable) :
    (w.updStand k f).records =
      { w.records with ready := Function.update w.records.ready k (f w.stands[k]).ready } := by
  rw [Work.updStand, setStand_records, enable, update_enable_self]

/-- The enable of a stand rewritten, and its ready reel kept. -/
theorem updStand_records_enable {w : Work} {k : Stand} {f : StandRec → StandRec} (ready : ∀ r, (f r).ready = r.ready) :
    (w.updStand k f).records =
      { w.records with enable := Function.update w.records.enable k (f w.stands[k]).enable } := by
  rw [Work.updStand, setStand_records, ready, update_ready_self]

@[simp] theorem StandRec.rephase_ready (r : StandRec) : r.rephase.ready = r.ready := by
  obtain ⟨p, hp⟩ := rephase_eq r
  rw [hp]

@[simp] theorem StandRec.rephase_enable (r : StandRec) : r.rephase.enable = r.enable := by
  obtain ⟨p, hp⟩ := rephase_eq r
  rw [hp]

/-- A fold whose every step keeps the records keeps them. -/
theorem foldl_records {α : Type} {f : Work → α → Work} (h : ∀ w x, (f w x).records = w.records) (l : List α)
    (w : Work) : (l.foldl f w).records = w.records :=
  List.foldlRecOn (motive := fun x => x.records = w.records) l f rfl fun x hx a _ => (h x a).trans hx

theorem iterate_records {f : Work → Work} (h : ∀ w, (f w).records = w.records) :
    ∀ (n : Nat) (w : Work), (f^[n] w).records = w.records
  | 0, _ => rfl
  | n + 1, w => (iterate_records h n (f w)).trans (h w)

/-! ## Notices, alarms and cues -/

theorem post_records (e : Env) (b : NoticeBody) (src : Option Port) (w : Work) :
    (post e b src w).records = w.records := (post_frame e b src w).records

theorem raiseAlarm_records (e : Env) (k : AlarmKind) (x : Subject) (w : Work) :
    (raiseAlarm e k x w).records = w.records := (raiseAlarm_frame e k x w).records

theorem removeUntaken_records (tag : Nat) (w : Work) : (removeUntaken tag w).records = w.records :=
  (removeUntaken_frame tag w).records

theorem pulse_records (e : Env) (c : CueLine) (w : Work) : (pulse e c w).records = w.records := by
  unfold pulse
  dsimp only
  split
  · rfl
  · exact raiseAlarm_records _ _ _ _

/-! ## Announcements (R37, R39, R107, R125, R142) -/

theorem withdrawFor_records (g : Nat) (w : Work) : (withdrawFor g w).records = w.records := by
  unfold withdrawFor
  split
  · rfl
  · next p _ =>
    have untaken := removeUntaken_frame p.tag
      { w with prop := { w.prop with list := w.prop.list.filter fun x => x.changeTag != g } }
    exact Work.records_of_eq untaken.stands untaken.station untaken.sheet

section
variable {a : Work → Work} (ha : ∀ w, (a w).records = w.records)
include ha

theorem removeChange_records (w : Work) (g : Nat) : (removeChange a w g).records = w.records := by
  unfold removeChange
  split
  · rfl
  · split
    · rfl
    · split
      · exact (ha _).trans (withdrawFor_records g w)
      · rfl

theorem removeChanges_records (tags : List Nat) (w : Work) : (removeChanges a tags w).records = w.records :=
  (foldl_records (removeChange_records ha) _ _).trans (foldl_records (fun w g => withdrawFor_records g w) _ w)

omit ha in
theorem moveTo_records {e : Env} {g i j : Nat} {p : Placed} {w w' : Work} (h : moveTo e g i j p w = some w') :
    w'.records = w.records := by
  obtain ⟨t, _, rfl⟩ := Option.map_eq_some_iff.mp h
  rfl

omit ha in
theorem placeMarks_records (e : Env) : ∀ (tags : List Nat) (n : Nat) (w : Work),
    (placeMarks e tags n w).work.records = w.records
  | [], _, _ => rfl
  | g :: rest, n, w => by
    unfold placeMarks
    split
    · exact placeMarks_records e rest n w
    · split
      · exact placeMarks_records e rest n w
      · split
        · rfl
        · split
          · exact placeMarks_records e rest n w
          · next h => exact (placeMarks_records e rest (n + 1) _).trans (moveTo_records h)

theorem placeAll_records (e : Env) (tags : List Nat) (w : Work) : (placeAll e a tags w).records = w.records :=
  ((iterate_records ha _ _).trans (removeChanges_records ha _ _)).trans (placeMarks_records e tags 0 w)

theorem moveOrder_records (e : Env) (i c : Nat) (w : Work) : (moveOrder e a i c w).1.records = w.records := by
  unfold moveOrder
  split
  · rfl
  · split
    · rfl
    · split
      · exact placeAll_records ha e _ _
      · exact placeAll_records ha e _ _
      · rfl

omit ha in
theorem raiseShort_records (e : Env) (g : Nat) (w : Work) : (raiseShort e g w).records = w.records := by
  unfold raiseShort
  split
  · rfl
  · split
    · rfl
    · exact raiseAlarm_records _ _ _ _

theorem recomputePass_records (e : Env) : ∀ (tags : List Nat) (w : Work),
    (recomputePass e a tags w).records = w.records
  | [], _ => rfl
  | g :: rest, w => by
    unfold recomputePass
    split
    · exact recomputePass_records e rest w
    · next o f _ =>
      have moved := moveOrder_records ha e g (o.given.required - f) (w.updTallies g fun t => { t with forecast := f })
      dsimp only
      split
      · exact recomputePass_records e rest _
      · split
        · next hm =>
          rw [hm] at moved
          exact ((recomputePass_records e rest _).trans (raiseShort_records e g _)).trans moved
        · next hm =>
          rw [hm] at moved
          exact (recomputePass_records e rest _).trans moved
        · next hm =>
          rw [hm] at moved
          exact (recomputePass_records e rest _).trans moved

end

theorem recomputeWithin_records (e : Env) : ∀ (n : Nat) (w : Work), (recomputeWithin e n w).records = w.records
  | 0, _ => rfl
  | n + 1, w => recomputePass_records (recomputeWithin_records e n) e _ w

theorem announce_records (e : Env) (w : Work) : (announce e w).records = w.records := recomputeWithin_records e _ w

theorem announceExtent_records (e : Env) (m : Mark) (w : Work) : (announceExtent e m w).records = w.records := by
  unfold announceExtent
  exact announce_records e _

theorem freeEntry_records {e : Env} {w w' : Work} (h : freeEntry e w = some w') : w'.records = w.records := by
  unfold freeEntry at h
  split at h
  · cases h
  · obtain rfl := Option.some.inj h
    exact (announce_records e _).trans (announceExtent_records e _ _)

/-! ## The station unit (R58 to R64), cuts and the switch (R128, R129) -/

theorem postStation_records (e : Env) (st : Station) (b : StationBody) (w : Work) :
    (postStation e st b w).records = w.records := by
  unfold postStation
  split
  · rfl
  · exact post_records _ _ _ _

theorem pulseStation_records (e : Env) (st : Station) (w : Work) : (pulseStation e st w).records = w.records := by
  unfold pulseStation
  split
  · rfl
  · exact pulse_records _ _ _

theorem told_records (e : Env) (st : Station) (b : StationBody) (w : Work) :
    (pulseStation e st (postStation e st b w)).records = w.records :=
  (pulseStation_records e st _).trans (postStation_records e st b w)

theorem rampTest_records (e : Env) (before : Option Pos) (created : Bool) (w : Work) (i : StationIx) :
    (rampTest e before created w i).records = w.records := by
  unfold rampTest
  split
  · split
    · exact told_records e _ _ _
    · rfl
  · rfl

theorem changeover_records (e : Env) (i : StationIx) (st : Station) (m : Mark) (j : Nat) (late : Bool) (w : Work) :
    (changeover e i st m j late w).records = w.records := by
  have ended : (endRamp e i m.start w).records = w.records := rampTest_records e _ _ w i
  unfold changeover
  dsimp only
  split
  · exact (postStation_records e st _ _).trans ended
  · exact ((rampTest_records e _ _ _ i).trans (postStation_records e st _ _)).trans ended

/-- A swap exchanges the active slitter and keeps both loads (R64). -/
theorem swap_records (w : Work) :
    ({ w with station := { w.station with slitters := w.station.slitters.swap } } : Work).records = w.records := by
  unfold Work.records SlitterPair.swap
  cases w.station.slitters.active <;> rfl

theorem slitterChange_records (e : Env) (i : StationIx) (st : Station) (m : Mark) (k j : Nat) (late : Bool) (w : Work) :
    (slitterChange e i st m k j late w).records = w.records := by
  unfold slitterChange
  split
  · rfl
  · split
    · rfl
    · exact (told_records e st _ _).trans (swap_records w)

theorem makeCut_records (e : Env) (c : Schedule) (w : Work) : (makeCut e c w).records = w.records := by
  unfold makeCut
  exact pulse_records e 5 w

theorem makeCuts_records (e : Env) (limit : Option Pos) : ∀ (n : Nat) (w : Work),
    (makeCuts e limit n w).records = w.records
  | 0, _ => rfl
  | n + 1, w => by
    unfold makeCuts
    split
    · rfl
    · split
      · exact (makeCuts_records e limit n _).trans (makeCut_records e _ w)
      · rfl

theorem cutTest_records (e : Env) (limit : Option Pos) (w : Work) : (cutTest e limit w).records = w.records := by
  unfold cutTest
  split
  · rfl
  · exact makeCuts_records e limit _ w

theorem switchSchedule_records (e : Env) (t : Pos) (i j : Nat) (late : Bool) (w : Work) :
    (switchSchedule e t i j late w).records = w.records := by
  unfold switchSchedule
  extract_lets atKnife cut cutSheet w1 noted1 w2 w3
  have ended : w1.records = w.records := by
    unfold w1
    split
    · exact cutTest_records e (some t) w
    · rfl
  have noted : w2.records = w1.records := by
    unfold w2
    split
    · split <;> rfl
    · rfl
  have pulsed : w3.records = w2.records := by
    unfold w3
    split
    · exact pulse_records e 5 w2
    · rfl
  have before := pulsed.trans (noted.trans ended)
  split
  · exact before
  · exact (cutTest_records e none _).trans before

theorem changeBegin_records (e : Env) (i : StationIx) (st : Station) (m : Mark) (k j : Nat) (late : Bool) (w : Work) :
    (changeBegin e i st m k j late w).records = w.records := by
  unfold changeBegin
  split
  · exact changeover_records e i st m j late w
  · exact changeover_records e i st m j late w
  · exact changeover_records e i st m j late w
  · exact changeover_records e i st m j late w
  · exact slitterChange_records e i st m k j late w
  · exact (switchSchedule_records e _ _ _ _ _).trans (told_records e st _ w)
  all_goals rfl

theorem beginPassage_records (e : Env) (i : StationIx) (st : Station) (m : Mark) (late : Bool) (w : Work) :
    (beginPassage e i st m late w).records = w.records := by
  unfold beginPassage
  split
  · exact changeBegin_records e i st m _ _ late w
  · exact told_records e st _ w

/-! ## Passages and evaluations (R43 to R49) -/

theorem beginAt_records (e : Env) (commit : Bool) (i : StationIx) (st : Station) (m : Mark) (w : Work) :
    (beginAt e commit i st m w).records = w.records := by
  unfold beginAt
  split
  · exact beginPassage_records e i st _ commit _
  · rfl

theorem endAt_records (e : Env) (i : StationIx) (st : Station) (m : Mark) (w : Work) :
    (endAt e i st m w).records = w.records := by
  unfold endAt
  split
  · exact told_records e st _ _
  · rfl

theorem passStation_records (e : Env) (commit : Bool) (n : Nat) (i : StationIx) (w : Work) :
    (passStation e commit n i w).records = w.records := by
  unfold passStation
  split
  · next st m _ _ =>
    split
    · dsimp only
      split
      · exact (endAt_records e i st _ _).trans (beginAt_records e commit i st m w)
      · exact beginAt_records e commit i st m w
    · rfl
  · rfl

section
variable {a : Mark → Work → Work} (ha : ∀ m w, (a m w).records = w.records)
include ha

theorem passPoint_records (e : Env) (commit : Bool) (n : Nat) (w : Work) (x : LinePoint) :
    (passPoint e a commit n w x).records = w.records := by
  cases x with
  | some i => exact passStation_records e commit n i w
  | none =>
    unfold passPoint passDatum
    dsimp only
    split
    · rfl
    · split
      · exact ha _ _
      · rfl

omit ha in
theorem retireMarks_records (e : Env) (except : Option Nat) (w : Work) :
    (retireMarks e except w).records = w.records := by
  unfold retireMarks
  split <;> rfl

/-- An evaluation keeps the records where what it reports arrivals to does (R43). -/
theorem evaluate_records (e : Env) (commit : Bool) (l : List Nat) (except : Option Nat) (w : Work) :
    (evaluate e a commit l except w).records = w.records := by
  have passed : (l.foldl (passMark e a commit) w).records = w.records :=
    foldl_records (fun w n => foldl_records (passPoint_records ha e commit n) _ w) l w
  exact ((retireMarks_records e except _).trans
    (foldl_records (fun w i => rampTest_records e _ false w i) allStations _)).trans passed

end

theorem evaluateOne_records (e : Env) (n : Nat) (w : Work) : (evaluateOne e n w).records = w.records :=
  evaluate_records (fun _ _ => rfl) e false [n] (some n) w

/-! ## Marks entered and closed (R34, R35, R40) -/

theorem announced_records (e : Env) (m : Mark) (n : Nat) (w : Work) :
    (evaluateOne e n (announceExtent e m w)).records = w.records :=
  (evaluateOne_records e n _).trans (announceExtent_records e m w)

theorem makeRoom_records {e : Env} {w w' : Work} (h : makeRoom e w = some w') : w'.records = w.records := by
  unfold makeRoom at h
  split at h
  · cases h
    rfl
  · exact freeEntry_records h

theorem recordMark_records (e : Env) (body : MarkBody) (s : Pos) (n : Nat) (w : Work) :
    (recordMark e body s n w).1.records = w.records := rfl

theorem handIn_records (e : Env) (body : MarkBody) (s : Pos) (n : Nat) (w : Work) :
    (handIn e body s n w).1.records = w.records := by
  unfold handIn
  split
  · next h => exact (recordMark_records e body s n _).trans (makeRoom_records h)
  · exact raiseAlarm_records _ _ _ _

theorem enterMark_records (e : Env) (body : MarkBody) (s : Pos) (n : Nat) (w : Work) :
    (enterMark e body s n w).1.records = w.records := by
  have handed := handIn_records e body s n w
  unfold enterMark
  split
  · next hx =>
    rw [hx] at handed
    exact (announced_records e _ _ _).trans handed
  · next hx =>
    rw [hx] at handed
    exact handed

theorem closeMismatch_records (e : Env) (g : Nat) (p : Pos) (w : Work) :
    (closeMismatch e g p w).records = w.records := by
  unfold closeMismatch
  split
  · rfl
  · split
    · exact announced_records e _ _ _
    · rfl

theorem enterDefect_records (e : Env) (i c : Nat) (s : Pos) (n : Nat) (w : Work) :
    (enterDefect e i c s n w).1.records = w.records := by
  unfold enterDefect
  split
  · dsimp only
    split
    · exact announced_records e _ _ _
    · rfl
  · dsimp only
    split
    · exact raiseAlarm_records _ _ _ _
    · split
      · exact announceExtent_records e _ _
      · split
        · exact (announced_records e _ _ _).trans (announce_records e _)
        · exact announce_records e _

/-! ## The change chain (R98, R103 to R106) -/

theorem owed_records (w : Work) (o : Owed) : ({ w with owed := o } : Work).records = w.records := rfl

theorem extendLoop_records (e : Env) : ∀ (n : Nat) (w : Work), (extendLoop e n w).records = w.records
  | 0, _ => rfl
  | n + 1, w => by
    unfold extendLoop
    split
    · rfl
    · next i j _ =>
      split
      · dsimp only
        split
        · rfl
        · split
          · next p _ _ =>
            have recorded := recordMark_records e (.change i.tag j.tag .planned false) p.pos 0
              (w.updOrder i.tag fun o => { o with planned := p.planned })
            split
            · next h =>
              rw [h] at recorded
              exact recorded
            · next m h =>
              rw [h] at recorded
              rw [extendLoop_records e n, evaluateOne_records, owed_records, announceExtent_records]
              exact recorded
          · split
            · next h => exact ((extendLoop_records e n _).trans (freeEntry_records h)).trans rfl
            · exact raiseAlarm_records _ _ _ _
      · rfl

theorem extendChain_records (e : Env) (w : Work) : (extendChain e w).records = w.records := extendLoop_records e _ _

theorem relead_records (g k : Nat) (w : Work) : (relead g k w).records = w.records := by
  unfold relead
  split
  · rfl
  · split <;> rfl

theorem leadTo_records (e : Env) (g k : Nat) (w : Work) : (leadTo e g k w).records = w.records := by
  have placed : ∀ w, (placeAfresh e g w).records = w.records := fun w => by
    unfold placeAfresh
    split
    · rfl
    · exact placeAll_records (announce_records e) e _ _
  exact ((extendChain_records e _).trans (placed _)).trans (relead_records g k w)

theorem removeLater_records (e : Env) (g : Nat) (w : Work) : (removeLater e g w).records = w.records :=
  removeChanges_records (announce_records e) _ w

theorem replan_records (e : Env) (g k : Nat) (w : Work) : (replan e g k w).records = w.records :=
  (leadTo_records e g k _).trans (removeLater_records e g w)

theorem removeEnd_records (e : Env) (o : Option Order) (w : Work) : (removeEnd e o w).records = w.records := by
  unfold removeEnd
  split
  · exact removeChange_records (announce_records e) w _
  · rfl

theorem refusalHold_records (e : Env) (g j : Nat) (w : Work) : (refusalHold e g j w).records = w.records := by
  have held : (removeEnd e (w.seq.find j) (holdOrder j w)).records = w.records := by
    refine (removeEnd_records e _ _).trans ?_
    unfold holdOrder
    split <;> rfl
  unfold refusalHold
  dsimp only
  split
  · exact (replan_records e g _ _).trans held
  · exact ((extendChain_records e _).trans (removeChange_records (announce_records e) _ g)).trans held

/-! ## Levels, fires and requirements (R75 to R80, R88) -/

theorem setLevel_records (e : Env) (k : Stand) (l : ReelLevel) (u : Nat) (w : Work) :
    (setLevel e k l u w).records = w.records := by
  unfold setLevel
  dsimp only
  split
  · rfl
  · have posted : (post e (.reel k l u) none (w.setStand k { w.stands[k] with level := l }.rephase)).records = w.records :=
      (post_records e _ none _).trans (setStand_records_kept (by simp) (by simp))
    repeat' split
    · exact ((raiseAlarm_records _ _ _ _).trans (raiseAlarm_records _ _ _ _)).trans posted
    · exact (raiseAlarm_records _ _ _ _).trans posted
    · exact (raiseAlarm_records _ _ _ _).trans posted
    · exact posted

theorem evalLevel_records (e : Env) (k : Stand) (fresh : Bool) (w : Work) :
    (evalLevel e k fresh w).records = w.records := by
  unfold evalLevel
  dsimp only
  split <;> exact setLevel_records e k _ _ w

theorem fire_records (e : Env) (k : Stand) (w : Work) : (fire e k w).records = w.records :=
  ((post_records e _ none _).trans (pulse_records e _ _)).trans (setStand_records_kept rfl rfl)

theorem evalFire_records (e : Env) (sudden : Bool) (k : Stand) (w : Work) :
    (evalFire e sudden k w).records = w.records := by
  rcases evalFire_cases e sudden k w with h | ⟨_, _, h | ⟨_, _, h⟩⟩ <;> rw [h]
  · exact fire_records e k w
  · exact (raiseAlarm_records _ _ _ _).trans (fire_records e k w)

theorem evalFires_records (e : Env) (w : Work) : (evalFires e w).records = w.records :=
  foldl_records (fun w k => evalFire_records e false k w) allStands w

theorem noteSpent_records (e : Env) (k : Stand) (w : Work) : (w.updStand k (noteSpent e k)).records = w.records := by
  refine updStand_records_kept (fun r => ?_) fun r => ?_ <;>
  · unfold noteSpent
    repeat' split
    all_goals rfl

theorem standAdvance_records (e : Env) (c : Encoder) (w : Work) : (standAdvance e c w).records = w.records :=
  (evalFires_records e _).trans
    (foldl_records (fun w k => (evalLevel_records e k false _).trans (noteSpent_records e k w)) _ w)

theorem requirementRule_records (e : Env) (k : Stand) (w : Work) : (requirementRule e k w).records = w.records := by
  unfold requirementRule
  split
  · rfl
  · split
    · rfl
    · exact (evalFire_records e true k _).trans (updStand_records_kept (by simp) (by simp))

theorem requirementRules_records (e : Env) (w : Work) : (requirementRules e w).records = w.records :=
  foldl_records (fun w k => requirementRule_records e k w) allStands w

/-! ## Joints and arrivals (R83, R85, R89 to R92, R98) -/

theorem openAt_records (e : Env) (k : Stand) (s : Pos) (w : Work) : (openAt e k s w).records = w.records := by
  have entered := enterMark_records e (.mismatch k true) (Pos.at s.val) 0 w
  unfold openAt
  split
  · next hx =>
    rw [hx] at entered
    exact (updStand_records_kept (by simp) (by simp)).trans entered
  · next hx =>
    rw [hx] at entered
    exact entered

theorem settleOpen_records (e : Env) (k : Stand) (c : JointCase) (w : Work) :
    (settleOpen e k c w).1.records = w.records := by
  unfold settleOpen
  split
  · rfl
  · split
    · rfl
    · split
      · rfl
      · exact (updStand_records_kept (by simp) (by simp)).trans (closeMismatch_records e _ _ w)

theorem testRequirement_records (e : Env) (k : Stand) (c : JointCase) (closed : Bool) (w : Work) :
    (testRequirement e k c closed w).1.records = w.records := by
  unfold testRequirement
  split
  · rfl
  · split
    · dsimp only
      refine (updStand_records_kept (by simp) (by simp)).trans ?_
      split
      · exact enterMark_records e _ _ _ w
      · rfl
    · rfl

theorem mismatchAtJoint_records (e : Env) (k : Stand) (c : JointCase) (w : Work) :
    (mismatchAtJoint e k c w).records = w.records := by
  have opened : ∀ handed w, (openUnsuited e k c handed w).records = w.records := fun handed w => by
    unfold openUnsuited
    dsimp only
    split
    · exact openAt_records e k _ w
    · rfl
  exact ((opened _ _).trans (testRequirement_records e k c _ _)).trans (settleOpen_records e k c w)

theorem enterJoint_records (e : Env) (k : Stand) (j : Word) (estimated : Bool) (w : Work) :
    (enterJoint e k j estimated w).1.records = w.records := enterMark_records e _ _ _ w

theorem swapReels_records (e : Env) (k : Stand) (j : Word) (w : Work) :
    (swapReels e k j w).records = { w.records with ready := Function.update w.records.ready k none } :=
  (evalLevel_records e k true _).trans (updStand_records_ready (by simp))

/-- A joint takes its stand's ready reel, and nothing else of the records (R83, step 2). -/
theorem makeJoint_records (e : Env) (k : Stand) (j : Word) (estimated : Bool) (w : Work) :
    (makeJoint e k j estimated w).1.records = { w.records with ready := Function.update w.records.ready k none } := by
  have entered := enterJoint_records e k j estimated w
  unfold makeJoint
  rcases hx : enterJoint e k j estimated w with ⟨w1, tag⟩
  rw [hx] at entered
  dsimp only at entered ⊢
  rw [updStand_records_kept (by simp) (by simp), requirementRule_records, mismatchAtJoint_records, swapReels_records,
    entered]

/-- A failed splice clears its stand's enable, and nothing else of the records (R85). -/
theorem failSplice_records (e : Env) (k : Stand) (w : Work) :
    (failSplice e k w).records = { w.records with enable := Function.update w.records.enable k false } := by
  unfold failSplice
  rw [raiseAlarm_records, updStand_records_enable (by simp)]

theorem standArrival_records (e : Env) (t : Pos) (j : Nat) (w : Work) (k : Stand) :
    (standArrival e t j w k).records = w.records := by
  unfold standArrival
  extract_lets r dealt w1
  split
  · rfl
  · refine (requirementRule_records e k w1).trans ?_
    unfold w1
    split
    · split
      · exact (updStand_records_kept (by simp) (by simp)).trans (closeMismatch_records e _ t w)
      · rfl
    · split
      · exact openAt_records e k t w
      · rfl

theorem arrive_records (e : Env) (m : Mark) (w : Work) : (arrive e m w).records = w.records := by
  unfold arrive
  split
  · rfl
  · exact (foldl_records (fun w k => standArrival_records e _ _ w k) allStands _).trans (extendChain_records e _)

theorem evaluateAll_records (e : Env) (w : Work) : (evaluateAll e w).records = w.records :=
  evaluate_records (arrive_records e) e false _ none w

/-! ## Proposals and settling (R113 to R126) -/

theorem issue_records (e : Env) (old : Nat) (sc : Scope) (w : Work) : (issue e old sc w).records = w.records := by
  have posted : ∀ (tag g : Nat) (w : Work) (r : Role), (postProposal e tag g sc w r).records = w.records := fun tag g w r => by
    unfold postProposal
    repeat' split
    · exact post_records _ _ _ _
    · rfl
    · rfl
  unfold issue
  split
  · rfl
  · exact foldl_records (posted _ _) [.dry, .wet] _

theorem postResult_records (e : Env) (p : Proposal) (r : Result) (n : Nat) (stalled : Bool) (w : Work) :
    (postResult e p r n stalled w).records = w.records := by
  unfold postResult
  split
  · rfl
  · exact post_records _ _ _ _

theorem formResult_records (e : Env) (p : Proposal) (w : Work) : (formResult e p w).records = w.records := by
  unfold formResult
  extract_lets q r count w1 w2
  have formed : w2.records = w.records := (postResult_records e p r count false w1).trans (removeUntaken_records _ _)
  split
  · exact (issue_records e _ _ w2).trans formed
  · exact formed

theorem withdrawYounger_records (g : Nat) (w : Work) : (withdrawYounger g w).records = w.records :=
  foldl_records (fun w g => withdrawFor_records g w) _ w

theorem endProposal_records (w : Work) (g : Nat) : (w.endProposal g).records = w.records := rfl

theorem effectCommitted_records (e : Env) (p : Proposal) (w : Work) : (effectCommitted e p w).records = w.records := by
  have committed : (commitMark e p.changeTag w).records = w.records := by
    unfold commitMark
    split
    · rfl
    · split
      · exact evaluate_records (arrive_records e) e true _ _ _
      · rfl
  unfold effectCommitted
  rw [endProposal_records, requirementRules_records]
  split
  · exact committed
  · exact committed

theorem effectRefused_records (e : Env) (p : Proposal) (w : Work) : (effectRefused e p w).records = w.records := by
  unfold effectRefused
  dsimp only
  split
  · exact (refusalHold_records e _ _ _).trans (withdrawYounger_records p.changeTag w)
  · exact withdrawYounger_records p.changeTag w

theorem stall_records (e : Env) (p : Proposal) (n : Nat) (w : Work) : (stall e p n w).records = w.records := by
  unfold stall
  split
  · rfl
  · exact (effectRefused_records e p _).trans ((postResult_records e p _ _ _ _).trans
      ((raiseAlarm_records _ _ _ _).trans (removeUntaken_records _ _)))

theorem moveAndAnnounce_records (e : Env) (i c : Nat) (w : Work) : (moveAndAnnounce e i c w).records = w.records :=
  moveOrder_records (announce_records e) e i c w

theorem effectDeferred_records (e : Env) (p : Proposal) (w : Work) : (effectDeferred e p w).records = w.records := by
  unfold effectDeferred
  split
  · rfl
  · dsimp only
    split
    · exact (stall_records e p _ _).trans (withdrawYounger_records p.changeTag w)
    · exact (moveAndAnnounce_records e _ 1 _).trans (withdrawYounger_records p.changeTag w)

theorem takeEffect_records {e : Env} {w w' : Work} (h : takeEffect e w = some w') : w'.records = w.records := by
  unfold takeEffect at h
  repeat' split at h
  all_goals cases h
  · exact effectCommitted_records e _ w
  · exact effectDeferred_records e _ w
  · exact effectRefused_records e _ w

theorem guardMark_records (e : Env) (w : Work) (g : Nat) : (guardMark e w g).records = w.records := by
  unfold guardMark
  split
  · rfl
  · split
    · rfl
    · split
      · dsimp only
        split
        · split
          · exact (stall_records e _ _ _).trans (moveAndAnnounce_records e _ 1 w)
          · exact moveAndAnnounce_records e _ 1 w
        · exact moveAndAnnounce_records e _ 1 w
      · rfl

theorem retryWaiting_records (e : Env) (w : Work) : (retryWaiting e w).records = w.records := by
  unfold retryWaiting
  split
  · exact issue_records e _ _ w
  · rfl

theorem firstIssue_records (e : Env) (m : Mark) (w : Work) : (firstIssue e m w).records = w.records := by
  unfold firstIssue
  split
  · rfl
  · exact issue_records e _ _ _

theorem dueTest_records (e : Env) (w : Work) : (dueTest e w).records = w.records := by
  have retried : (retryWaiting e (guardAll e { w with owed := { w.owed with due := false } })).records = w.records :=
    (retryWaiting_records e _).trans (foldl_records (guardMark_records e) _ _)
  rcases dueTest_cases e w _ rfl with ⟨_, hd⟩ | ⟨_, _, hd⟩ | ⟨m, _, _, hd⟩ <;> rw [hd]
  · exact retried
  · exact retried
  · exact (firstIssue_records e m _).trans retried

theorem settleRound_records {e : Env} {w w' : Work} (h : settleRound e w = some w') : w'.records = w.records := by
  unfold settleRound at h
  split at h
  · next ht =>
    cases h
    exact takeEffect_records ht
  · split at h
    · cases h
      exact formResult_records e _ w
    · split at h
      · cases h
        split
        · exact extendChain_records e w
        · rfl
      · split at h
        · cases h
          exact dueTest_records e w
        · cases h

theorem settleLoop_records (e : Env) : ∀ (n : Nat) (w : Work), (settleLoop e n w).records = w.records
  | 0, _ => rfl
  | n + 1, w => by
    unfold settleLoop
    split
    · next h => exact (settleLoop_records e n _).trans (settleRound_records h)
    · rfl

/-- Settling keeps the records. -/
theorem settle_records (e : Env) (w : Work) : (settle e w).records = w.records := settleLoop_records e _ w

theorem proposalTest_records (e : Env) (w : Work) : (proposalTest e w).records = w.records := settle_records e _

end Sys2Proof.Machine
end

section
/-! SUPPORT. The records that few commands change, through every request as it is applied, through an advance, and through every
command. -/

namespace Sys2Proof.Machine

/-! ## Requests that keep the records -/

section
variable (p : Port) (e : Env) (w : Work) (body : List Byte)

theorem applyStatus_records : (applyStatus p e w body).work.records = w.records := by
  unfold applyStatus
  split <;> rfl

theorem applyTake_records : (applyTake p e w body).work.records = w.records := by
  unfold applyTake
  repeat' split
  all_goals rfl

theorem applyPeek_records : (applyPeek p e w body).work.records = w.records := by
  unfold applyPeek
  split <;> rfl

theorem applyDone_records : (applyDone p e w body).work.records = w.records := by
  unfold applyDone
  split
  · rfl
  · split
    · rfl
    · exact ((noticeGivenUp_frame e _ w).trans (finishTaken_frame e p _ _)).records

theorem applyFloor_records : (applyFloor p e w body).work.records = w.records := by
  unfold applyFloor
  split
  · rfl
  · split
    · rfl
    · exact (afterFloor_frame _ p _ w).records

theorem applyLineTable_records : (applyLineTable e w body).work.records = w.records := by
  unfold applyLineTable
  split
  · rfl
  · split
    · rfl
    · split
      · rfl
      · exact (acceptTable_env e w _).frame.records

theorem applyRecipeSet_records : (applyRecipeSet e w body).work.records = w.records := by
  unfold applyRecipeSet
  repeat' split
  all_goals rfl

theorem applyProfileSet_records : (applyProfileSet e w body).work.records = w.records := by
  unfold applyProfileSet
  repeat' split
  all_goals rfl

theorem applyClassSet_records : (applyClassSet e w body).work.records = w.records := by
  unfold applyClassSet
  repeat' split
  all_goals rfl

theorem applyRelaySet_records : (applyRelaySet e w body).work.records = w.records := by
  unfold applyRelaySet
  repeat' split
  all_goals rfl

theorem applyAlarmEnable_records : (applyAlarmEnable e w body).work.records = w.records := by
  unfold applyAlarmEnable
  repeat' split
  all_goals rfl

theorem applyAlarmClear_records : (applyAlarmClear e w body).work.records = w.records := by
  unfold applyAlarmClear
  repeat' split
  all_goals rfl

theorem openAll_records : (openAll e w).2.records = w.records :=
  foldl_records (fun w _ => (reoffer_frame _ w).records) allPorts w

theorem applyOpen_records : (applyOpen e w body).work.records = w.records := by
  unfold applyOpen
  split
  · split
    · rfl
    · split
      · rfl
      · dsimp only
        split
        · rfl
        · exact openAll_records _ w
  · rfl

theorem startWith_records (f g gap : Nat) : (startWith e w f g gap).work.records = w.records := by
  have run : ∀ (m : Mark) (w : Work), (startRun e f m w).2.records = w.records := fun m w => by
    unfold startRun
    dsimp only
    rw [extendChain_records, requirementRules_records, evaluate_records (arrive_records _)]
    rfl
  have handed := handIn_records e (.change 0 f .committed false) (firstChange e g gap) 0 w
  unfold startWith
  dsimp only
  split
  · next hx =>
    rw [hx] at handed
    exact handed
  · next m hx =>
    rw [hx] at handed
    dsimp only
    rw [run, announceExtent_records]
    exact handed

theorem applyStart_records : (applyStart e w body).work.records = w.records := by
  unfold applyStart
  split
  · rfl
  · split
    · rfl
    · split
      · rfl
      · split
        · split
          · exact startWith_records e w _ _ _
          · rfl
        · rfl

theorem applyOrderAdd_records : (applyOrderAdd e w body).work.records = w.records := by
  unfold applyOrderAdd addOrder
  split
  · rfl
  · split
    · rfl
    · split
      · dsimp only
        split
        · exact extendChain_records e _
        · exact replan_records e _ _ _
      · rfl

theorem dropOrder_records (tag : Nat) : (w.dropOrder tag).records = w.records := rfl

theorem withdrawOrder_records (o : Order) : (withdrawOrder e o w).records = w.records := by
  unfold withdrawOrder
  split
  · exact extendChain_records e _
  · split
    · rw [leadTo_records, dropOrder_records, removeLater_records, removeEnd_records]
    · rw [extendChain_records, dropOrder_records, removeChange_records (announce_records e)]

theorem applyOrderWithdraw_records : (applyOrderWithdraw e w body).work.records = w.records := by
  unfold applyOrderWithdraw
  split
  · rfl
  · split
    · rfl
    · split
      · exact withdrawOrder_records e w _
      · rfl

theorem applyOrderRelease_records : (applyOrderRelease e w body).work.records = w.records := by
  unfold applyOrderRelease
  split
  · rfl
  · split
    · rfl
    · rfl
    · exact extendChain_records e _

theorem applyStandSet_records : (applyStandSet e w body).work.records = w.records := by
  unfold applyStandSet
  split
  · rfl
  · split
    · next k l _ _ =>
      split
      · refine (evalFire_records _ false k _).trans ((updStand_records_kept (by simp) (by simp)).trans ?_)
        split
        · exact evalLevel_records _ k false w
        · rfl
      · rfl
    · rfl

theorem applyDiameter_records : (applyDiameter p e w body).work.records = w.records := by
  have anchored : ∀ (e : Env) (k : Stand) (x : Reel), (reanchor e k x w).records = w.records := fun e k x =>
    (evalFire_records e false k _).trans ((updStand_records_kept (by simp) (by simp)).trans
      ((evalLevel_records e k false _).trans (updStand_records_kept (by simp) (by simp))))
  unfold applyDiameter
  split
  · split
    · unfold setDiameter
      split
      · exact anchored _ _ _
      · rfl
      · rfl
    · rfl
  · rfl

theorem afterFill_records : (afterFill e w).records = w.records :=
  (proposalTest_records e _).trans ((evalFires_records e _).trans (evaluateAll_records e w))

theorem applyBridgeSet_records : (applyBridgeSet e w body).work.records = w.records := by
  unfold applyBridgeSet
  split
  · split
    · rfl
    · dsimp only
      rw [afterFill_records, (setFill_frame e _ _ true w).records]
  · rfl

theorem updProposal_records (tag : Nat) (f : Proposal → Proposal) : (w.updProposal tag f).records = w.records := rfl

theorem finishTaken_records (which : Notice → Bool) : (finishTaken e p which w).records = w.records :=
  (finishTaken_frame e p which w).records

theorem dropOffered_records (tag : Nat) : (dropOffered p tag w).records = w.records := rfl

theorem finishProposal_records (tag : Nat) : (finishProposal e p tag w).records = w.records := by
  unfold finishProposal
  rw [dropOffered_records, finishTaken_records]

theorem applyRespond_records : (applyRespond p e w body).work.records = w.records := by
  unfold applyRespond
  split
  · split
    · unfold recordResponse
      dsimp only
      split
      · exact finishTaken_records p e w _
      · split
        · dsimp only [answerOk]
          rw [finishProposal_records, updProposal_records]
        · exact finishProposal_records p e w _
    · rfl
  · rfl

theorem applyDefect_records : (applyDefect e w body).work.records = w.records := by
  have recorded : ∀ i st a c cause, (recordDefect e w i st a c cause).work.records = w.records := by
    intro i st a c cause
    have told := (reportEscape_frame e i (defectSplit e st a c) w).records
    unfold recordDefect
    dsimp only
    split
    · exact told
    · dsimp only
      rw [enterDefect_records, told]
  unfold applyDefect
  split
  · rfl
  · split
    · split
      · rfl
      · split
        · rfl
        · split
          · rfl
          · exact recorded _ _ _ _ _
    · rfl

/-! ## Requests that change one of the records -/

/-- REEL_LOAD, REEL_REMOVE and JOINT change ready reels at most (R70, R71, R83). -/
theorem applyReelLoad_records : ∃ f, (applyReelLoad p e w body).work.records = { w.records with ready := f } := by
  have threaded : ∀ (e : Env) (k : Stand) (y : Reel), (threadReel e k y w).records = w.records := fun e k y =>
    (evalFire_records e false k _).trans ((updStand_records_kept (by simp) (by simp)).trans
      ((evalLevel_records e k true _).trans (updStand_records_kept (by simp) (by simp))))
  have readied : ∀ (e : Env) (k : Stand) (y : Reel), ∃ f, (readyReel e k y w).records = { w.records with ready := f } :=
    fun e k y => ⟨_, (evalFire_records e true k _).trans (updStand_records_ready (by simp))⟩
  unfold applyReelLoad
  split
  · dsimp only
    split
    · exact ⟨_, rfl⟩
    · split
      · unfold loadReel
        dsimp only
        split
        · exact ⟨_, rfl⟩
        · split
          · exact ⟨_, threaded _ _ _⟩
          · exact readied _ _ _
      · exact ⟨_, rfl⟩
  · exact ⟨_, rfl⟩

theorem removeReady_records (k : Stand) : ∃ f, (removeReady e k w).records = { w.records with ready := f } := by
  unfold removeReady
  refine ⟨Function.update w.records.ready k none, ?_⟩
  have cleared : (w.updStand k fun r => { r with ready := none }.rephase).records =
      { w.records with ready := Function.update w.records.ready k none } := by
    rw [updStand_records_ready (by simp), StandRec.rephase_ready]
  split
  · exact (raiseAlarm_records _ _ _ _).trans ((evalFire_records e false k _).trans cleared)
  · exact (evalFire_records e false k _).trans cleared

theorem removeRunning_records (k : Stand) : (removeRunning e k w).records = w.records :=
  (evalFire_records e false k _).trans ((updStand_records_kept (by simp) (by simp)).trans
    ((evalLevel_records e k false _).trans (updStand_records_kept (by simp) (by simp))))

theorem applyReelRemove_records : ∃ f, (applyReelRemove e w body).work.records = { w.records with ready := f } := by
  unfold applyReelRemove
  split
  · split
    · unfold removeReel
      dsimp only
      split
      · exact ⟨_, rfl⟩
      · split
        · split
          · exact ⟨_, rfl⟩
          · exact removeReady_records e w _
        · split
          · exact ⟨_, rfl⟩
          · split
            · exact ⟨_, rfl⟩
            · exact ⟨_, removeRunning_records e w _⟩
    · exact ⟨_, rfl⟩
  · exact ⟨_, rfl⟩

theorem applyJoint_records : ∃ f, (applyJoint e w body).work.records = { w.records with ready := f } := by
  unfold applyJoint
  split
  · unfold reportJoint
    dsimp only
    split
    · exact ⟨_, (enterJoint_records e _ _ _ _).trans (updStand_records_kept (by simp) (by simp))⟩
    · exact ⟨_, makeJoint_records e _ _ _ w⟩
  · exact ⟨_, rfl⟩

/-- SPLICE_FAIL and STAND_ENABLE change enables at most (R85, R86). -/
theorem applySpliceFail_records : ∃ f, (applySpliceFail e w body).work.records = { w.records with enable := f } := by
  unfold applySpliceFail
  split
  · split
    · exact ⟨_, failSplice_records e _ w⟩
    · exact ⟨_, rfl⟩
  · exact ⟨_, rfl⟩

theorem applyStandEnable_records : ∃ f, (applyStandEnable e w body).work.records = { w.records with enable := f } := by
  unfold applyStandEnable
  split
  · split
    · exact ⟨_, (evalFire_records e _ _ _).trans (updStand_records_enable (by simp))⟩
    · exact ⟨_, rfl⟩
  · exact ⟨_, rfl⟩

/-- STATION_SET, SETUP_DONE and LINE_RESET change the loads of the slitters at most (R54, R65, R68). -/
theorem applyStationSet_records :
    ∃ a b, (applyStationSet e w body).work.records = { w.records with loadedA := a, loadedB := b } := by
  unfold applyStationSet stageAndApply
  repeat' split
  all_goals exact ⟨_, _, rfl⟩

theorem applySetupDone_records :
    ∃ a b, (applySetupDone e w body).work.records = { w.records with loadedA := a, loadedB := b } := by
  unfold applySetupDone
  repeat' split
  all_goals exact ⟨_, _, rfl⟩

theorem applyLineReset_records :
    ∃ a b, (applyLineReset e w body).work.records = { w.records with loadedA := a, loadedB := b } := by
  have stand : ∀ k : Stand, w.lineReset.stands[k] = w.stands[k].lineReset := fun k => mapStands_get _ w.stands k
  unfold applyLineReset
  split
  · exact ⟨_, _, rfl⟩
  · refine ⟨none, none, Records.ext ?_ ?_ rfl rfl rfl⟩
    · funext k
      exact (congrArg StandRec.ready (stand k)).trans (by simp [StandRec.lineReset, Work.records])
    · funext k
      exact (congrArg StandRec.enable (stand k)).trans (by simp [StandRec.lineReset, Work.records])

/-- LOG_TAKE changes the completion log at most (R140). -/
theorem applyLogTake_records : ∃ l, (applyLogTake e w body).work.records = { w.records with log := l } := by
  unfold applyLogTake
  repeat' split
  all_goals exact ⟨_, rfl⟩

end

/-! ## Which command changes which record -/

/-- What a command makes of the records: each of them changes only by the commands named. -/
structure RecordsFrame (c : Instr) (w w' : Work) : Prop where
  ready : ∀ k : Stand, w'.stands[k].ready ≠ w.stands[k].ready →
    c = .confirmDeadlineExpiry k ∨ ∃ p, c = .reelLoad p ∨ c = .reelRemove p ∨ c = .joint p
  enable : ∀ k : Stand, w'.stands[k].enable ≠ w.stands[k].enable →
    c = .confirmDeadlineExpiry k ∨ ∃ p, c = .standEnable p ∨ c = .spliceFail p
  loads : w'.station.slitters.loadedA ≠ w.station.slitters.loadedA ∨
      w'.station.slitters.loadedB ≠ w.station.slitters.loadedB →
    ∃ p, c = .setupDone p ∨ c = .stationSet p ∨ c = .lineReset p
  log : w'.sheet.log ≠ w.sheet.log → (∃ levels, c = .quadratureEdge 2 levels) ∨ ∃ p, c = .logTake p

section
variable {c : Instr} {w w' : Work}

/-- The records of a state that differ from another's in some parts, by the commands that may change those. -/
theorem RecordsFrame.of_records {f : Stand → Option Reel} {g : Stand → Bool} {a b : Option Nat} {l : List Completion}
    (h : w'.records = ⟨f, g, a, b, l⟩)
    (ready : ∀ k, f k ≠ w.records.ready k →
      c = .confirmDeadlineExpiry k ∨ ∃ p, c = .reelLoad p ∨ c = .reelRemove p ∨ c = .joint p)
    (enable : ∀ k, g k ≠ w.records.enable k → c = .confirmDeadlineExpiry k ∨ ∃ p, c = .standEnable p ∨ c = .spliceFail p)
    (loads : a ≠ w.records.loadedA ∨ b ≠ w.records.loadedB → ∃ p, c = .setupDone p ∨ c = .stationSet p ∨ c = .lineReset p)
    (log : l ≠ w.records.log → (∃ levels, c = .quadratureEdge 2 levels) ∨ ∃ p, c = .logTake p) : RecordsFrame c w w' := by
  obtain ⟨hf, hg, ha, hb, hl⟩ := Records.mk.inj h
  subst hf hg ha hb hl
  exact ⟨ready, enable, loads, log⟩

theorem RecordsFrame.of_eq (h : w'.records = w.records) : RecordsFrame c w w' :=
  .of_records h (fun _ hk => absurd rfl hk) (fun _ hk => absurd rfl hk) (fun hl => absurd rfl (hl.resolve_left (absurd rfl)))
    fun hl => absurd rfl hl

theorem RecordsFrame.of_ready {f : Stand → Option Reel} (h : w'.records = { w.records with ready := f })
    (hc : ∃ p, c = .reelLoad p ∨ c = .reelRemove p ∨ c = .joint p) : RecordsFrame c w w' :=
  .of_records h (fun _ _ => .inr hc) (fun _ hk => absurd rfl hk) (fun hl => absurd rfl (hl.resolve_left (absurd rfl)))
    fun hl => absurd rfl hl

theorem RecordsFrame.of_enable {g : Stand → Bool} (h : w'.records = { w.records with enable := g })
    (hc : ∃ p, c = .standEnable p ∨ c = .spliceFail p) : RecordsFrame c w w' :=
  .of_records h (fun _ hk => absurd rfl hk) (fun _ _ => .inr hc) (fun hl => absurd rfl (hl.resolve_left (absurd rfl)))
    fun hl => absurd rfl hl

theorem RecordsFrame.of_loads {a b : Option Nat} (h : w'.records = { w.records with loadedA := a, loadedB := b })
    (hc : ∃ p, c = .setupDone p ∨ c = .stationSet p ∨ c = .lineReset p) : RecordsFrame c w w' :=
  .of_records h (fun _ hk => absurd rfl hk) (fun _ hk => absurd rfl hk) (fun _ => hc) fun hl => absurd rfl hl

theorem RecordsFrame.of_log {l : List Completion} (h : w'.records = { w.records with log := l })
    (hc : (∃ levels, c = .quadratureEdge 2 levels) ∨ ∃ p, c = .logTake p) : RecordsFrame c w w' :=
  .of_records h (fun _ hk => absurd rfl hk) (fun _ hk => absurd rfl hk)
    (fun hl => absurd rfl (hl.resolve_left (absurd rfl))) fun _ => hc

/-- What keeps the records goes on with a frame. -/
theorem RecordsFrame.trans_eq {v : Work} (h : RecordsFrame c w w') (g : v.records = w'.records) : RecordsFrame c w v :=
  .of_records (g : v.records = ⟨w'.records.ready, w'.records.enable, w'.records.loadedA, w'.records.loadedB, w'.records.log⟩)
    h.ready h.enable h.loads h.log

end

/-- A request changes the records as its command may. -/
theorem request_records (p : Port) (r : Request) (e : Env) (w : Work) (body : List Byte) :
    RecordsFrame (r.command p) w (r.meaning p e w body).work := by
  cases r with
  | status => exact .of_eq (applyStatus_records p e w body)
  | read => exact .of_eq rfl
  | peek => exact .of_eq (applyPeek_records p e w body)
  | take => exact .of_eq (applyTake_records p e w body)
  | done => exact .of_eq (applyDone_records p e w body)
  | floor => exact .of_eq (applyFloor_records p e w body)
  | lineTable => exact .of_eq (applyLineTable_records e w body)
  | stationSet =>
    obtain ⟨a, b, h⟩ := applyStationSet_records e w body
    exact .of_loads h ⟨p, .inr (.inl rfl)⟩
  | recipeSet => exact .of_eq (applyRecipeSet_records e w body)
  | profileSet => exact .of_eq (applyProfileSet_records e w body)
  | classSet => exact .of_eq (applyClassSet_records e w body)
  | relaySet => exact .of_eq (applyRelaySet_records e w body)
  | alarmEnable => exact .of_eq (applyAlarmEnable_records e w body)
  | alarmClear => exact .of_eq (applyAlarmClear_records e w body)
  | openPart => exact .of_eq (applyOpen_records e w body)
  | start => exact .of_eq (applyStart_records e w body)
  | orderAdd => exact .of_eq (applyOrderAdd_records e w body)
  | orderWithdraw => exact .of_eq (applyOrderWithdraw_records e w body)
  | orderRelease => exact .of_eq (applyOrderRelease_records e w body)
  | lineReset =>
    obtain ⟨a, b, h⟩ := applyLineReset_records e w body
    exact .of_loads h ⟨p, .inr (.inr rfl)⟩
  | logTake =>
    obtain ⟨l, h⟩ := applyLogTake_records e w body
    exact .of_log h (.inr ⟨p, rfl⟩)
  | standSet => exact .of_eq (applyStandSet_records e w body)
  | reelLoad =>
    obtain ⟨f, h⟩ := applyReelLoad_records p e w body
    exact .of_ready h ⟨p, .inl rfl⟩
  | reelRemove =>
    obtain ⟨f, h⟩ := applyReelRemove_records e w body
    exact .of_ready h ⟨p, .inr (.inl rfl)⟩
  | diameter => exact .of_eq (applyDiameter_records p e w body)
  | joint =>
    obtain ⟨f, h⟩ := applyJoint_records e w body
    exact .of_ready h ⟨p, .inr (.inr rfl)⟩
  | spliceFail =>
    obtain ⟨g, h⟩ := applySpliceFail_records e w body
    exact .of_enable h ⟨p, .inr rfl⟩
  | standEnable =>
    obtain ⟨g, h⟩ := applyStandEnable_records e w body
    exact .of_enable h ⟨p, .inl rfl⟩
  | bridgeSet => exact .of_eq (applyBridgeSet_records e w body)
  | respond => exact .of_eq (applyRespond_records p e w body)
  | setupDone =>
    obtain ⟨a, b, h⟩ := applySetupDone_records e w body
    exact .of_loads h ⟨p, .inl rfl⟩
  | defect => exact .of_eq (applyDefect_records e w body)

/-- A request command applied at the head of its port's queue changes the records as it may. -/
theorem applyHead_records (p : Port) (r : Request) (s : State) :
    RecordsFrame (r.command p) s.work (applyHead p r (r.meaning p) s).work := by
  unfold applyHead
  split
  · exact .of_eq rfl
  · split
    · exact (request_records p r _ _ _).trans_eq (settle_records _ _)
    · exact .of_eq rfl

/-! ## An advance (R9) -/

theorem checkFar_records (b : Word) (w : Work) : (w.checkFar b).records = w.records := by
  have stand : ∀ k : Stand, (w.checkFar b).stands[k] = w.stands[k].checkFar b := fun k => mapStands_get _ w.stands k
  refine Records.ext ?_ ?_ rfl rfl rfl
  · funext k
    exact (congrArg StandRec.ready (stand k)).trans rfl
  · funext k
    exact (congrArg StandRec.enable (stand k)).trans rfl

/-- The records with another completion log at most. -/
def SameButLog (w w' : Work) : Prop := ∃ l, w'.records = { w.records with log := l }

theorem SameButLog.of_eq {w w' : Work} (h : w'.records = w.records) : SameButLog w w' := ⟨_, h⟩

theorem SameButLog.trans {a b c : Work} (h : SameButLog a b) (g : SameButLog b c) : SameButLog a c := by
  obtain ⟨l, hl⟩ := h
  obtain ⟨m, hm⟩ := g
  exact ⟨m, by rw [hm, hl]⟩

theorem closeStack_records (e : Env) (j : Nat) (w : Work) : (closeStack e j w).records = w.records := by
  unfold closeStack
  split
  · rfl
  · exact post_records _ _ _ _

/-- A completion writes its record to the log (R137, R139). -/
theorem completionTest_records (e : Env) (j : Nat) (w : Work) : SameButLog w (completionTest e j w) := by
  have completed : SameButLog w (completeOrder e j w) := by
    unfold completeOrder
    split
    · exact .of_eq rfl
    · next o _ =>
      extract_lets w1 o1 w2 w3
      have closed : w1.records = w.records := by
        unfold w1
        split
        · exact closeStack_records e j w
        · rfl
      have posted : w3.records = w2.records := post_records e _ none w2
      refine (SameButLog.of_eq closed).trans ⟨w2.sheet.log, Eq.trans posted ?_⟩
      rfl
  unfold completionTest
  split
  · exact .of_eq rfl
  · split
    · exact completed
    · exact .of_eq rfl

theorem departure_records (e : Env) (x : Sheet) (w : Work) : SameButLog w (departure e x w) := by
  unfold departure
  extract_lets sheet w1 y w2
  have departed : w2.records = w.records := by
    unfold w2
    split
    · rfl
    · split
      · split
        · exact closeStack_records e _ y
        · rfl
      · rfl
  exact (SameButLog.of_eq departed).trans (completionTest_records e _ w2)

theorem recompute_records (e : Env) (w : Work) : (recompute e w).records = w.records := announce_records e w

theorem updTallies_records (w : Work) (g : Nat) (f : Tallies → Tallies) : (w.updTallies g f).records = w.records := rfl

theorem gatePassage_records (e : Env) (x : Sheet) (w : Work) : (gatePassage e x w).records = w.records := by
  unfold gatePassage
  dsimp only
  rw [recompute_records, updTallies_records]
  split
  · exact pulse_records e 6 _
  · rfl

theorem gateAndStacker_records (e : Env) (w : Work) (x : Sheet) : SameButLog w (gateAndStacker e w x) := by
  unfold gateAndStacker
  extract_lets w1
  have passed : w1.records = w.records := by
    unfold w1
    split
    · split
      · exact gatePassage_records e _ w
      · rfl
    · rfl
  refine (SameButLog.of_eq passed).trans ?_
  split
  · split
    · exact departure_records e _ w1
    · exact .of_eq rfl
  · exact .of_eq rfl

theorem sheetAdvance_records (e : Env) (w : Work) : SameButLog w (sheetAdvance e w) := by
  have passed : SameButLog w (w.sheet.sheets.foldl (gateAndStacker e) w) :=
    List.foldlRecOn (motive := SameButLog w) _ _ (.of_eq rfl) fun x hx y _ => hx.trans (gateAndStacker_records e x y)
  exact passed.trans (.of_eq (cutTest_records e none _))

/-- The blocks at an advance: that of E3 changes the completion log at most, that of another encoder no record (R9). -/
theorem advanceBlocks_records (e : Env) (c : Encoder) (w : Work) :
    SameButLog w (advanceBlocks e c w) ∧ (c ≠ 2 → (advanceBlocks e c w).records = w.records) := by
  unfold advanceBlocks
  extract_lets w1 w2 w3 w4
  have checked : w1.records = w.records := by
    unfold w1
    split
    · exact checkFar_records e.b w
    · rfl
  have passed : w2.records = w1.records := evaluateAll_records e w1
  have extended : w3.records = w2.records := by
    unfold w3
    split
    · exact extendChain_records e w2
    · rfl
  have tested : w4.records = w3.records := (proposalTest_records e _).trans (standAdvance_records e c w3)
  have before : w4.records = w.records := tested.trans (extended.trans (passed.trans checked))
  refine ⟨?_, fun hc => ?_⟩
  · split
    · exact ((SameButLog.of_eq before).trans (sheetAdvance_records e w4)).trans (.of_eq (settle_records e _))
    · exact .of_eq before
  · rw [if_neg hc]
    exact before

/-- A count: what an advance makes of the records (R6 to R9). -/
theorem count_records (e : Env) (c : Encoder) (edge : Edge) (w : Work) :
    SameButLog w (count e c edge w).2 ∧ (c ≠ 2 → (count e c edge w).2.records = w.records) := by
  have kept : ∀ {w'}, w'.records = w.records → SameButLog w w' ∧ (c ≠ 2 → w'.records = w.records) := fun h =>
    ⟨.of_eq h, fun _ => h⟩
  unfold count
  dsimp only
  split
  · exact kept rfl
  · split
    · split
      · exact kept rfl
      · have fills := (advanceFills_both (e.setEncoder c (forwardCount e.table.pitch[c] e.encoders[c]).1) c
          (forwardCount e.table.pitch[c] e.encoders[c]).2 w).frame.records
        obtain ⟨log, others⟩ := advanceBlocks_records (advanceFills (e.setEncoder c
          (forwardCount e.table.pitch[c] e.encoders[c]).1) c (forwardCount e.table.pitch[c] e.encoders[c]).2 w).1 c
          (advanceFills (e.setEncoder c (forwardCount e.table.pitch[c] e.encoders[c]).1) c
            (forwardCount e.table.pitch[c] e.encoders[c]).2 w).2
        exact ⟨(SameButLog.of_eq fills).trans log, fun hc => (others hc).trans fills⟩
    · dsimp only
      split
      · exact kept (raiseAlarm_records _ _ _ _)
      · exact kept rfl
    · exact kept rfl
    · exact kept rfl

theorem quadratureEdge_records (c : Encoder) (levels : QuadLevels) (s : State) :
    RecordsFrame (.quadratureEdge c levels) s.work (quadratureStep c levels s).work := by
  obtain ⟨⟨l, log⟩, others⟩ := count_records (s.env.setEncoder c { s.env.encoders[c] with levels := levels }) c
    (decodeEdge s.env.encoders[c].levels levels) s.work
  by_cases hc : c = 2
  · subst hc
    exact (RecordsFrame.of_log log (.inl ⟨levels, rfl⟩)).trans_eq (settle_records _ _)
  · exact (RecordsFrame.of_eq (others hc)).trans_eq (settle_records _ _)

/-! ## Commands -/

/-- The expiry of a stand's confirm deadline changes that stand's ready reel or its enable (R82, R85). -/
theorem confirmExpiry_records (e : Env) (k : Stand) (x : Snapshot) (w : Work) :
    RecordsFrame (.confirmDeadlineExpiry k) w (confirmExpiry e k x w) := by
  have joined : RecordsFrame (.confirmDeadlineExpiry k) w (makeJoint e k x.estimate true w).1 := by
    refine .of_records (makeJoint_records e k x.estimate true w) (fun i hi => ?_) (fun _ hk => absurd rfl hk)
      (fun hl => absurd rfl (hl.resolve_left (absurd rfl))) fun hl => absurd rfl hl
    by_cases h : i = k
    · exact .inl (by rw [h])
    · exact absurd (Function.update_of_ne h _ _) hi
  unfold confirmExpiry
  split
  · refine .of_records (failSplice_records e k w) (fun _ hk => absurd rfl hk) (fun i hi => ?_)
      (fun hl => absurd rfl (hl.resolve_left (absurd rfl))) fun hl => absurd rfl hl
    by_cases h : i = k
    · exact .inl (by rw [h])
    · exact absurd (Function.update_of_ne h _ _) hi
  · exact joined
  · exact joined.trans_eq (updStand_records_kept (by simp) (by simp))

theorem frameArrival_records (e : Env) (p : Port) (bytes : List Byte) (w : Work) :
    (frameArrival e p bytes w).2.records = w.records := by
  unfold frameArrival
  split
  · rfl
  · unfold validArrival
    dsimp only
    split
    · rfl
    · rfl
    · exact (reoffer_frame _ w).records

/-- Every command but POWER_ON_RESET changes the records as it may. -/
theorem exec_records {c : Instr} {s t : State} (hc : ∀ x e1 e2 e3, c ≠ .powerOnReset x e1 e2 e3)
    (hx : exec c s = .next t) : RecordsFrame c s.work t.work := by
  have request : ∀ p r, exec (Request.command p r) s = .next t → RecordsFrame (r.command p) s.work t.work := by
    intro p r hr
    rw [exec_command] at hr
    cases hr
    exact applyHead_records p r s
  cases c with
  | powerOnReset x e1 e2 e3 => exact absurd rfl (hc x e1 e2 e3)
  | quadratureEdge c levels => cases hx; exact quadratureEdge_records c levels s
  | speedPeriodClose =>
    simp only [exec, execSpeedPeriodClose] at hx
    cases hx
    exact .of_eq ((proposalTest_records _ _).trans (evalFires_records _ _))
  | cuePulseEnd k =>
    simp only [exec, execCuePulseEnd] at hx
    split at hx <;> cases hx <;> exact .of_eq rfl
  | confirmDeadlineExpiry k =>
    simp only [exec, execConfirmDeadlineExpiry] at hx
    split at hx <;> cases hx
    · exact (confirmExpiry_records _ k _ _).trans_eq (settle_records _ _)
    · exact .of_eq rfl
    · exact .of_eq rfl
  | lateReportWindowEnd k =>
    simp only [exec, execLateReportWindowEnd] at hx
    split at hx <;> cases hx
    · exact .of_eq rfl
    · exact .of_eq (updStand_records_kept (by simp) (by simp))
  | proposalDeadlineExpiry g =>
    simp only [exec, execProposalDeadlineExpiry] at hx
    split at hx
    · cases hx; exact .of_eq rfl
    · split at hx <;> cases hx
      · exact .of_eq ((settle_records _ _).trans (formResult_records _ _ _))
      · exact .of_eq rfl
      · exact .of_eq rfl
  | reofferTimerExpiry => cases hx; exact .of_eq ((settle_records _ _).trans (reoffer_frame _ _).records)
  | receivedFrame p g bytes =>
    simp only [exec, execReceivedFrame] at hx
    split at hx
    · cases hx; exact .of_eq rfl
    · split at hx <;> cases hx
      · exact .of_eq rfl
      · exact .of_eq ((settle_records _ _).trans (frameArrival_records _ p bytes _))
  | responseFrame p => cases hx; exact .of_eq rfl
  | portTimeout p =>
    simp only [exec, execPortTimeout] at hx
    split at hx <;> cases hx
    · exact .of_eq ((settle_records _ _).trans (emptyDesk_frame _ p _).records)
    · exact .of_eq rfl
  | status p => exact request p .status hx
  | read p => exact request p .read hx
  | peek p => exact request p .peek hx
  | take p => exact request p .take hx
  | done p => exact request p .done hx
  | floor p => exact request p .floor hx
  | lineTable p => exact request p .lineTable hx
  | stationSet p => exact request p .stationSet hx
  | recipeSet p => exact request p .recipeSet hx
  | profileSet p => exact request p .profileSet hx
  | classSet p => exact request p .classSet hx
  | relaySet p => exact request p .relaySet hx
  | alarmEnable p => exact request p .alarmEnable hx
  | alarmClear p => exact request p .alarmClear hx
  | openPart p => exact request p .openPart hx
  | start p => exact request p .start hx
  | orderAdd p => exact request p .orderAdd hx
  | orderWithdraw p => exact request p .orderWithdraw hx
  | orderRelease p => exact request p .orderRelease hx
  | lineReset p => exact request p .lineReset hx
  | logTake p => exact request p .logTake hx
  | standSet p => exact request p .standSet hx
  | reelLoad p => exact request p .reelLoad hx
  | reelRemove p => exact request p .reelRemove hx
  | diameter p => exact request p .diameter hx
  | joint p => exact request p .joint hx
  | spliceFail p => exact request p .spliceFail hx
  | standEnable p => exact request p .standEnable hx
  | bridgeSet p => exact request p .bridgeSet hx
  | respond p => exact request p .respond hx
  | setupDone p => exact request p .setupDone hx
  | defect p => exact request p .defect hx

/-- Settles O59: what each command makes of the records is `exec_records`. -/
theorem recordsChangeByTheirCommands : Obligations.RecordsChangeByTheirCommands := by
  intro c s t hc hx
  obtain ⟨ready, enable, loads, log⟩ := exec_records hc hx
  exact ⟨ready, enable, loads, log⟩

end Sys2Proof.Machine
end

section
/-! SUPPORT. The delivery of a notice (R149, R151, R156, R157): the untaken match at a destination, the relay walk round the ring, the
entry that makes way on a full return list, and a dropped notice. -/

namespace Sys2Proof.Machine

/-! ## Directed delivery (R66, R151) -/

/-- Two STATION notices of the same station, mark kind and action (R66). -/
def Notice.SameStation (n m : Notice) : Prop :=
  ∃ x y, n.body = .station x ∧ m.body = .station y ∧ y.station = x.station ∧ y.markKind = x.markKind ∧
    y.action = x.action

theorem matchesStation_iff {b : StationBody} {m : Notice} :
    m.matchesStation b = true ↔
      ∃ y, m.body = .station y ∧ y.station = b.station ∧ y.markKind = b.markKind ∧ y.action = b.action := by
  unfold Notice.matchesStation
  split
  · next c hc => simp [hc, and_assoc]
  · next h => simp only [Bool.false_eq_true, false_iff]; exact fun ⟨y, hy, _⟩ => h y hy

/-- A body finds a match in a queue exactly where the queue holds a notice of the same station, mark kind and action. -/
theorem stationMatch_iff (n : Notice) (offer : List Notice) :
    stationMatch offer n.body = true ↔ ∃ m ∈ offer, n.SameStation m := by
  unfold stationMatch
  split
  · next b hb => simp [List.any_eq_true, matchesStation_iff, Notice.SameStation, hb]
  · next h =>
    simp only [Bool.false_eq_true, false_iff]
    exact fun ⟨_, _, x, _, hx, _⟩ => h x hx

/-- The first match keeps its place, and takes the body posted later (R66, R151). -/
theorem replaceStation_first {n m : Notice} {after : List Notice} (hm : n.SameStation m) :
    ∀ {before : List Notice}, (∀ x ∈ before, ¬n.SameStation x) →
      replaceStation n.body n.posted (before ++ m :: after) =
        before ++ (if m.posted < n.posted then { m with body := n.body, posted := n.posted } else m) :: after
  | [], _ => by
    have found : stationMatch [m] n.body = true := (stationMatch_iff n [m]).mpr ⟨m, by simp, hm⟩
    simp [replaceStation, found]
  | x :: before, hb => by
    have other : ¬stationMatch [x] n.body = true := fun h => by
      obtain ⟨y, hy, hs⟩ := (stationMatch_iff n [x]).mp h
      exact hb x (by simp) (List.mem_singleton.mp hy ▸ hs)
    simp [replaceStation, other, replaceStation_first hm fun y hy => hb y (List.mem_cons_of_mem x hy)]

section
variable {e : Env} {n : Notice} {p : Port} {w : Work}

theorem tryDirected_closed (hs : e.links[p].state ≠ .opened) : tryDirected e n (some p) w = none := if_pos hs

theorem tryDirected_merges {before after : List Notice} {m : Notice} (hs : e.links[p].state = .opened)
    (ho : w.notices.desks[p].offer = before ++ m :: after) (hb : ∀ x ∈ before, ¬n.SameStation x)
    (hm : n.SameStation m) :
    tryDirected e n (some p) w = some (w.setDesk p { w.notices.desks[p] with
      offer := before ++ (if m.posted < n.posted then { m with body := n.body, posted := n.posted } else m) :: after }) := by
  have found : coalesces e w (some p) n.body = true := by
    simp only [coalesces, hs, decide_true, Bool.true_and]
    exact (stationMatch_iff n _).mpr ⟨m, ho ▸ by simp, hm⟩
  simp only [tryDirected, hs, ne_eq, not_true_eq_false, if_false, found, if_true, coalesce]
  rw [ho, replaceStation_first hm hb]

section
variable (hs : e.links[p].state = .opened) (hn : ∀ m ∈ w.notices.desks[p].offer, ¬n.SameStation m)
include hs hn

theorem coalesces_false : coalesces e w (some p) n.body = false := by
  simp only [coalesces, hs, decide_true, Bool.true_and]
  refine Bool.eq_false_iff.mpr fun h => ?_
  obtain ⟨m, hm, same⟩ := (stationMatch_iff n _).mp h
  exact hn m hm same

theorem tryDirected_room (hl : w.notices.desks[p].offer.length < 16) :
    tryDirected e n (some p) w =
      some (w.setDesk p { w.notices.desks[p] with offer := w.notices.desks[p].offer ++ [n] }) := by
  unfold tryDirected Config.offerLimit
  dsimp only
  rw [if_neg (not_not.mpr hs), coalesces_false hs hn, if_neg Bool.false_ne_true, if_pos hl]
  rfl

theorem tryDirected_full (hl : 16 ≤ w.notices.desks[p].offer.length) : tryDirected e n (some p) w = none := by
  unfold tryDirected Config.offerLimit
  dsimp only
  rw [if_neg (not_not.mpr hs), coalesces_false hs hn, if_neg Bool.false_ne_true, if_neg (not_lt.mpr hl)]

end

theorem place_placed {dest : Option Port} {t : Work} (hd : n.delivery = .directed dest)
    (ht : tryDirected e n dest w = some t) : place e n w = (t, none) := by simp only [place, hd, ht]

theorem place_returned {dest : Option Port} (hd : n.delivery = .directed dest) (ht : tryDirected e n dest w = none) :
    place e n w = enterReturn n w := by simp only [place, hd, ht]

end

/-! ## The ring (R155, R156) -/

theorem firstInRing_mem {r : Ring} {p : Port} (h : p ∈ r.ports) : firstInRing r (some p) = p := by
  simp [firstInRing, h]

section
variable {r : Ring} (ok : r.Ok)
include ok

theorem Ring.Ok.head : some (r.ports.headD 0) = r.ports.head? := by
  have size := ok.size.1
  cases h : r.ports with
  | nil => simp [h] at size
  | cons p rest => rfl

theorem firstInRing_not_mem {p : Port} (h : p ∉ r.ports) : some (firstInRing r (some p)) = r.ports.head? := by
  have out : ¬r.ports.contains p = true := by simpa using h
  simp only [firstInRing, if_neg out, ok.head]

theorem firstInRing_none : some (firstInRing r none) = r.ports.head? := ok.head

/-- The ports after a port of the ring. -/
theorem dropWhile_ports {before after : List Port} {p : Port} (h : r.ports = before ++ p :: after) :
    r.ports.dropWhile (fun q => q ≠ p) = p :: after := by
  have distinct := ok.distinct
  rw [h] at distinct ⊢
  have apart : ∀ x ∈ before, decide (x ≠ p) = true := fun x hx =>
    decide_eq_true fun he => (List.nodup_append.mp distinct).2.2 x hx p (by simp) he
  rw [List.dropWhile_append_of_pos apart, List.dropWhile_cons_of_neg (by simp)]

theorem nextInRing_next {before after : List Port} {p x : Port} (h : r.ports = before ++ p :: x :: after) :
    nextInRing r p = x := by simp only [nextInRing, dropWhile_ports ok h]

/-- After the last port of the ring, and after a port that is not in it, comes the first. -/
theorem nextInRing_wraps {p : Port} (h : r.ports.getLast? = some p ∨ p ∉ r.ports) :
    some (nextInRing r p) = r.ports.head? := by
  rcases h with last | out
  · obtain ⟨before, hp⟩ := List.getLast?_eq_some_iff.mp last
    simp only [nextInRing, dropWhile_ports ok hp, ok.head]
  · have none : r.ports.dropWhile (fun q => q ≠ p) = [] :=
      List.dropWhile_eq_nil_iff.mpr fun x hx => decide_eq_true fun he => out (he ▸ hx)
    simp only [nextInRing, none, ok.head]

/-- Along a stretch of the ring each port is followed by the next. -/
theorem chain_of_suffix : ∀ {l before : List Port}, r.ports = before ++ l →
    l.IsChain fun a b => nextInRing r a = b
  | [], _, _ => .nil
  | [_], _, _ => .singleton _
  | a :: b :: l, before, h =>
    List.isChain_cons_cons.mpr
      ⟨nextInRing_next ok h, chain_of_suffix (l := b :: l) (before := before ++ [a]) (by simp [h])⟩

/-- Once round the ring from any of its ports, back to it. -/
theorem chain_round {before after : List Port} {first : Port} (h : r.ports = before ++ first :: after) :
    ((first :: after ++ before) ++ [first]).IsChain fun a b => nextInRing r a = b := by
  have whole : ((before ++ [first]) ++ after).IsChain fun a b => nextInRing r a = b :=
    chain_of_suffix ok (before := []) (by simp [h])
  rw [List.append_assoc]
  refine List.isChain_append.mpr ⟨chain_of_suffix ok h, (List.isChain_append.mp whole).1, fun x hx y hy => ?_⟩
  have last : r.ports.getLast? = some x := by rw [h, List.getLast?_append, hx]; rfl
  have head : r.ports.head? = some y := by rw [← hy, h]; cases before <;> rfl
  exact Option.some.inj ((nextInRing_wraps ok (.inl last)).trans head)

end

/-! ## The relay walk (R156) -/

section
variable (e : Env) (w : Work) (priority : Nat)

/-- Whether a port takes a relayed notice of a priority (R156). -/
def Takes (p : Port) : Prop :=
  e.links[p].state = .opened ∧ w.notices.desks[p].offer.length < 16 ∧ priority < currentFloor e w p

theorem accepts_iff (p : Port) : accepts e w priority p = true ↔ Takes e w priority p := by
  simp only [accepts, Takes, Bool.and_eq_true, decide_eq_true_eq, and_assoc]
  rfl

variable {e w priority}

theorem walk_takes {p : Port} (h : Takes e w priority p) (n : Nat) (lap : Bool) :
    walk e w priority (n + 1) lap p = (some p, lap) := if_pos ((accepts_iff e w priority p).mpr h)

/-- A walk past ports that do not take the notice: it goes on at the port after them, and past the stop once. -/
theorem walk_past {p : Port} (n : Nat) : ∀ {passed : List Port} (lap : Bool),
    (passed ++ [p]).IsChain (fun a b => nextInRing e.ring a = b) → passed.Nodup →
    (∀ x ∈ passed, ¬Takes e w priority x) →
    walk e w priority (n + passed.length) lap (passed.headD p) =
      if e.ring.stop ∈ passed then if lap then (none, true) else walk e w priority n true p
      else walk e w priority n lap p
  | [], lap, _, _, _ => by simp
  | x :: rest, lap, chain, distinct, refused => by
    have goes : (rest ++ [p]).IsChain (fun a b => nextInRing e.ring a = b) ∧ nextInRing e.ring x = rest.headD p := by
      cases rest with
      | nil => exact ⟨.singleton p, (List.isChain_cons_cons.mp chain).1⟩
      | cons y rest => exact ⟨(List.isChain_cons_cons.mp chain).2, (List.isChain_cons_cons.mp chain).1⟩
    obtain ⟨chainRest, next⟩ := goes
    obtain ⟨apart, distinctRest⟩ := List.nodup_cons.mp distinct
    have refusedHere : ¬accepts e w priority x = true := fun h => refused x (by simp) ((accepts_iff e w priority x).mp h)
    have ih := fun lap => walk_past (p := p) n lap chainRest distinctRest fun y hy => refused y (List.mem_cons_of_mem x hy)
    rw [List.length_cons, ← Nat.add_assoc, List.headD_cons, walk, if_neg refusedHere, next]
    by_cases stop : x = e.ring.stop
    · have gone : e.ring.stop ∉ rest := stop ▸ apart
      have here : e.ring.stop ∈ x :: rest := by simp [stop]
      rw [if_neg (not_not.mpr stop), ih, if_neg gone, if_pos here]
    · rw [if_pos stop, ih]
      simp [Ne.symm stop]

/-- A walk from a port of the ring, over ports that do not take the notice, to one that does. -/
theorem walk_found {before after passed later : List Port} {first p : Port} (ok : e.ring.Ok)
    (hr : e.ring.ports = before ++ first :: after) (ho : first :: after ++ before = passed ++ p :: later)
    (hx : ∀ x ∈ passed, ¬Takes e w priority x) (hp : Takes e w priority p) (lap : Bool) :
    walk e w priority (walkBound e.ring) lap first =
      if e.ring.stop ∈ passed then if lap then (none, true) else (some p, true) else (some p, lap) := by
  have round : (passed ++ p :: later).Nodup := ho ▸ (List.nodup_append_comm.mp (hr ▸ ok.distinct))
  have chain : (passed ++ [p]).IsChain fun a b => nextInRing e.ring a = b := by
    have whole := chain_round ok hr
    rw [ho, show passed ++ p :: later ++ [first] = (passed ++ [p]) ++ (later ++ [first]) by simp] at whole
    exact (List.isChain_append.mp whole).1
  have start : passed.headD p = first := by
    cases passed with
    | nil => exact (List.cons.inj ho).1.symm
    | cons x rest => exact (List.cons.inj ho).1.symm
  obtain ⟨k, hk⟩ : ∃ k, walkBound e.ring = (k + 1) + passed.length := by
    have size : e.ring.ports.length = passed.length + (later.length + 1) := by
      rw [← List.length_cons, ← List.length_append, ← ho, hr]
      simp only [List.length_append, List.length_cons]
      omega
    exact ⟨walkBound e.ring - passed.length - 1, by unfold walkBound; omega⟩
  have past := walk_past (k + 1) lap chain (List.nodup_append.mp round).1 hx
  rw [start, ← hk] at past
  rw [past, walk_takes hp, walk_takes hp]

/-- A walk round a ring of which no port takes the notice ends past the stop for the second time. -/
theorem walk_none {before after : List Port} {first : Port} (ok : e.ring.Ok)
    (hr : e.ring.ports = before ++ first :: after) (hx : ∀ x ∈ first :: after ++ before, ¬Takes e w priority x)
    (lap : Bool) : walk e w priority (walkBound e.ring) lap first = (none, true) := by
  have round : (first :: after ++ before).Nodup := List.nodup_append_comm.mp (hr ▸ ok.distinct)
  have stop : e.ring.stop ∈ first :: after ++ before := by
    have := ok.stop
    rw [hr] at this
    exact List.mem_append.mpr ((List.mem_append.mp this).symm)
  have past : ∀ n lap, walk e w priority (n + (first :: after ++ before).length) lap first =
      if lap then (none, true) else walk e w priority n true first := fun n lap =>
    (walk_past n lap (chain_round ok hr) round hx).trans (if_pos stop)
  have bound : walkBound e.ring = (0 + (first :: after ++ before).length) + (first :: after ++ before).length := by
    unfold walkBound
    rw [hr]
    simp only [List.length_append, List.length_cons]
    omega
  rw [bound, past, past]
  cases lap <;> rfl

end

/-! ## The return list (R157) -/

theorem enterReturn_room {n : Notice} {w : Work} (h : w.notices.returned.length < 8) :
    enterReturn n w =
      ({ w with notices := { w.notices with returned := w.notices.returned ++ [n] } }, none) := if_pos h

/-- The later of the least urgent entries of a list. -/
theorem foldl_lessUrgent {d : Notice} : ∀ {l : List Notice} {x : Notice},
    (x = d ∧ (∀ y ∈ l, y.priority < d.priority) ∨
      ∃ before after, l = before ++ d :: after ∧ x.priority ≤ d.priority ∧ (∀ y ∈ before, y.priority ≤ d.priority) ∧
        ∀ y ∈ after, y.priority < d.priority) →
    l.foldl lessUrgent x = d
  | [], x, h => by
    rcases h with ⟨rfl, _⟩ | ⟨before, _, hl, _⟩
    · rfl
    · simp at hl
  | y :: l, x, h => by
    rw [List.foldl_cons]
    rcases h with ⟨rfl, rest⟩ | ⟨before, after, hl, hx, hb, ha⟩
    · have kept : lessUrgent x y = x := if_pos (rest y (by simp))
      exact foldl_lessUrgent (.inl ⟨kept, fun z hz => rest z (List.mem_cons_of_mem y hz)⟩)
    · cases before with
      | nil =>
        obtain ⟨rfl, rfl⟩ := List.cons.inj hl
        have taken : lessUrgent x y = y := if_neg (not_lt.mpr hx)
        exact foldl_lessUrgent (.inl ⟨taken, ha⟩)
      | cons z before =>
        obtain ⟨rfl, rfl⟩ := List.cons.inj hl
        refine foldl_lessUrgent (.inr ⟨before, after, rfl, ?_, fun u hu => hb u (List.mem_cons_of_mem y hu), ha⟩)
        unfold lessUrgent
        split
        · exact hx
        · exact hb y (by simp)

theorem leastUrgent_eq {before after : List Notice} {d : Notice} (hb : ∀ x ∈ before, x.priority ≤ d.priority)
    (ha : ∀ x ∈ after, x.priority < d.priority) : leastUrgent (before ++ d :: after) = some d := by
  cases before with
  | nil => exact congrArg some (foldl_lessUrgent (.inl ⟨rfl, ha⟩))
  | cons x before =>
    exact congrArg some (foldl_lessUrgent
      (.inr ⟨before, after, rfl, hb x (by simp), fun y hy => hb y (List.mem_cons_of_mem x hy), ha⟩))

/-- A list without one of its entries, whose tag no other has. -/
theorem filter_tag {before after : List Notice} {d : Notice} (h : ∀ x ∈ before ++ after, x.tag ≠ d.tag) :
    (before ++ d :: after).filter (fun x => x.tag != d.tag) = before ++ after := by
  have kept : (before ++ after).filter (fun x => x.tag != d.tag) = before ++ after :=
    List.filter_eq_self.mpr fun x hx => by simpa using h x hx
  rw [List.filter_append, List.filter_cons_of_neg (by simp), ← List.filter_append, kept]

section
variable {n d : Notice} {w : Work} {before after : List Notice} (full : 8 ≤ w.notices.returned.length)
  (held : w.notices.returned = before ++ d :: after) (hb : ∀ x ∈ before, x.priority ≤ d.priority)
  (ha : ∀ x ∈ after, x.priority < d.priority)
include full held hb ha

/-- The later of the least urgent entries makes way for a more urgent notice. -/
theorem enterReturn_replaces (ht : ∀ x ∈ before ++ after, x.tag ≠ d.tag) (h : n.priority < d.priority) :
    enterReturn n w =
      ({ w with notices := { w.notices with returned := before ++ after ++ [n] } }, some d) := by
  unfold enterReturn Config.returnLimit
  dsimp only
  rw [if_neg (not_lt.mpr full), held, leastUrgent_eq hb ha]
  dsimp only
  rw [if_pos h, filter_tag ht]

theorem enterReturn_dropped (h : d.priority ≤ n.priority) : enterReturn n w = (w, some n) := by
  unfold enterReturn Config.returnLimit
  dsimp only
  rw [if_neg (not_lt.mpr full), held, leastUrgent_eq hb ha]
  dsimp only
  rw [if_neg (not_lt.mpr h)]

end

/-! ## A dropped notice (R157) -/

theorem reportsLoss_iff (d : Notice) : d.reportsLoss = true ↔ ∃ x c, d.body = .alarm .noticeLost x c := by
  unfold Notice.reportsLoss
  split
  · next x c h => simp [h]
  · next h =>
    simp only [Bool.false_eq_true, false_iff]
    exact fun ⟨x, c, hx⟩ => h x c hx

theorem noticeGivenUp_notices (e : Env) (d : Notice) (w : Work) : (noticeGivenUp e d w).notices = w.notices := by
  unfold noticeGivenUp
  split <;> rfl

/-- What a dropped notice makes of the blocks: it is counted and logged, and a PROPOSAL's responder given up. -/
theorem recordDrop_work (e : Env) (d : Notice) (w : Work) :
    (recordDrop e d w).1 = noticeGivenUp e d { w with
      notices := { w.notices with dropCount := min (w.notices.dropCount + 1) 65535 }
      alarms := (w.alarms.log .noticeLost (.noticeClass d.body.cls)).1 } := by
  unfold recordDrop
  dsimp only
  split <;> rfl

theorem recordDrop_silent (e : Env) (d : Notice) (w : Work) :
    (recordDrop e d w).2 = none ↔ d.reportsLoss = true ∨ e.alarmEnables[AlarmKind.noticeLost.index] = false := by
  unfold recordDrop
  dsimp only
  split
  · next h => simpa using h
  · next h => simpa using h

/-- A relayed notice is placed where its walk finds a port, and else goes to the return list (R156). -/
theorem place_relayed {e : Env} {n : Notice} {start : Option Port} {lap : Bool} (w : Work)
    (hd : n.delivery = .relayed start lap) :
    let r := walk e w n.priority (walkBound e.ring) lap (firstInRing e.ring start)
    (∀ p, r.1 = some p → place e n w = (w.offerAt p { n with delivery := .relayed start r.2 }, none)) ∧
    (r.1 = none → place e n w = enterReturn { n with delivery := .relayed start r.2 } w) := by
  simp only [place, hd, walkFrom]
  split
  · next hw => simp [hw]
  · next hw => simp [hw]

/-- Settles O18: directed delivery by the `tryDirected_` lemmas, the walk by `walk_found` and `walk_none`, the return list by the
`enterReturn_` lemmas, and a drop by `recordDrop_work`. -/
theorem noticeDelivery : Obligations.NoticeDelivery := by
  refine ⟨fun e n w => ⟨fun hd => place_returned hd rfl, fun p hd => ⟨fun hs => ?_, ?_, fun hs hn => ⟨?_, ?_⟩⟩⟩,
    fun e w n start lap hd => place_relayed w hd,
    fun r ok => ⟨fun p h => firstInRing_mem h, fun p h => firstInRing_not_mem ok h, firstInRing_none ok,
      fun _ p x _ h => nextInRing_next ok h, fun p h => nextInRing_wraps ok h⟩,
    fun e w priority first before after ok hr => ⟨fun passed p later ho hx hp => ?_, fun hx lap => walk_none ok hr hx lap⟩,
    fun n w => ⟨enterReturn_room, fun before d after full held hb ha ht =>
      ⟨enterReturn_replaces full held hb ha ht, enterReturn_dropped full held hb ha⟩⟩, fun e d w => ?_⟩
  · exact place_returned hd (tryDirected_closed hs)
  · intro before m after hs ho hb hm
    exact place_placed hd (tryDirected_merges hs ho hb hm)
  · exact fun hl => place_placed hd (tryDirected_room hs hn hl)
  · exact fun hl => place_returned hd (tryDirected_full hs hn hl)
  · have found := walk_found ok hr ho hx hp
    refine ⟨(found false).trans ?_, (found true).trans (if_congr Iff.rfl rfl rfl)⟩
    by_cases stop : e.ring.stop ∈ passed <;> simp [stop]
  · dsimp only
    rw [recordDrop_work]
    refine ⟨noticeGivenUp_notices _ _ _, ?_, fun b x hb hx => ?_, fun hb => ?_, ?_⟩
    · refine hasAlarm_kept ?_ (log_hasAlarm w .noticeLost (.noticeClass d.body.cls))
      rw [noticeGivenUp_alarms]
      exact AlarmsKept.refl _
    · simp only [noticeGivenUp, hb, hx]
      rfl
    · unfold noticeGivenUp
      split
      · next b _ h _ => exact absurd h (hb b)
      · rfl
    · rw [recordDrop_silent, reportsLoss_iff]

end Sys2Proof.Machine
end

section
/-! SUPPORT. The re-offer of the return list (R158): its order, what it makes of each entry, and what it leaves alone. -/

namespace Sys2Proof.Machine

/-! ## The order of a re-offer -/

theorem insertUrgent_perm (n : Notice) : ∀ l : List Notice, (insertUrgent n l).Perm (n :: l)
  | [] => .refl _
  | m :: l => by
    unfold insertUrgent
    split
    · exact ((insertUrgent_perm n l).cons m).trans (.swap n m l)
    · exact .refl _

theorem byUrgency_perm : ∀ l : List Notice, (byUrgency l).Perm l
  | [] => .refl _
  | n :: l => by
    rw [byUrgency_cons]
    exact (insertUrgent_perm n _).trans ((byUrgency_perm l).cons n)

theorem insertUrgent_sorted (n : Notice) : ∀ {l : List Notice}, l.Pairwise (fun x y => x.priority ≤ y.priority) →
    (insertUrgent n l).Pairwise fun x y => x.priority ≤ y.priority
  | [], _ => List.pairwise_singleton _ n
  | m :: l, h => by
    obtain ⟨first, rest⟩ := List.pairwise_cons.mp h
    unfold insertUrgent
    split
    · next hn =>
      refine List.pairwise_cons.mpr ⟨fun x hx => ?_, insertUrgent_sorted n rest⟩
      rcases mem_insertUrgent.mp hx with rfl | hx
      · exact le_of_lt hn
      · exact first x hx
    · next hn =>
      refine List.pairwise_cons.mpr ⟨fun x hx => ?_, h⟩
      rcases List.mem_cons.mp hx with rfl | hx
      · exact not_lt.mp hn
      · exact (not_lt.mp hn).trans (first x hx)

theorem byUrgency_sorted : ∀ l : List Notice, (byUrgency l).Pairwise fun x y => x.priority ≤ y.priority
  | [] => .nil
  | n :: l => by
    rw [byUrgency_cons]
    exact insertUrgent_sorted n (byUrgency_sorted l)

/-- A notice is put before those of its own priority. -/
theorem insertUrgent_filter (n : Notice) (v : Nat) : ∀ l : List Notice,
    (insertUrgent n l).filter (fun x => x.priority = v) = (n :: l).filter fun x => x.priority = v
  | [] => rfl
  | m :: l => by
    unfold insertUrgent
    split
    · next h =>
      rw [List.filter_cons, insertUrgent_filter n v l]
      by_cases hm : m.priority = v
      · have hn : n.priority ≠ v := by omega
        simp [hm, hn]
      · simp [List.filter_cons, hm]
    · rfl

/-- Equals stand in the order of the list. -/
theorem byUrgency_filter (v : Nat) : ∀ l : List Notice,
    (byUrgency l).filter (fun x => x.priority = v) = l.filter fun x => x.priority = v
  | [] => rfl
  | n :: l => by rw [byUrgency_cons, insertUrgent_filter, List.filter_cons, List.filter_cons, byUrgency_filter v l]

/-! ## What a re-offer leaves alone -/

/-- Offer queues only gain notices, the return list only loses some, and the taken stacks and the alarm record stay. -/
structure Reoffered (w w' : Work) : Prop where
  alarms : w'.alarms = w.alarms
  taken : ∀ p : Port, w'.notices.desks[p].taken = w.notices.desks[p].taken
  offers : ∀ p : Port, (w.notices.desks[p].offer.map Notice.tag).Sublist (w'.notices.desks[p].offer.map Notice.tag)
  returned : (w'.notices.returned.map Notice.tag).Sublist (w.notices.returned.map Notice.tag)

theorem Reoffered.refl (w : Work) : Reoffered w w := ⟨rfl, fun _ => rfl, fun _ => .refl _, .refl _⟩

theorem Reoffered.trans {a b c : Work} (h : Reoffered a b) (g : Reoffered b c) : Reoffered a c where
  alarms := g.alarms.trans h.alarms
  taken p := (g.taken p).trans (h.taken p)
  offers p := (h.offers p).trans (g.offers p)
  returned := g.returned.trans h.returned

/-- A port's offer queue rewritten, with the tags it held. -/
theorem setOffer_reoffered (w : Work) (p : Port) {l : List Notice}
    (h : (w.notices.desks[p].offer.map Notice.tag).Sublist (l.map Notice.tag)) :
    Reoffered w (w.setDesk p { w.notices.desks[p] with offer := l }) := by
  refine ⟨rfl, fun q => ?_, fun q => ?_, .refl _⟩
  · by_cases hq : q = p
    · subst hq
      rw [Work.setDesk_self]
    · rw [Work.setDesk_other w p q _ hq]
  · by_cases hq : q = p
    · subst hq
      rw [Work.setDesk_self]
      exact h
    · rw [Work.setDesk_other w p q _ hq]

theorem replaceStation_tags (b : NoticeBody) (k : Nat) : ∀ l : List Notice,
    (replaceStation b k l).map Notice.tag = l.map Notice.tag
  | [] => rfl
  | n :: l => by
    unfold replaceStation
    split
    · split <;> rfl
    · rw [List.map_cons, List.map_cons, replaceStation_tags b k l]

theorem offerAt_reoffered (w : Work) (p : Port) (n : Notice) : Reoffered w (w.offerAt p n) :=
  setOffer_reoffered w p (by rw [List.map_append]; exact List.sublist_append_left _ _)

theorem tryDirected_reoffered {e : Env} {n : Notice} {dest : Option Port} {w w' : Work}
    (h : tryDirected e n dest w = some w') : Reoffered w w' := by
  unfold tryDirected at h
  split at h
  · cases h
  · next p =>
    split at h
    · cases h
    · split at h
      · cases h
        exact setOffer_reoffered w p (by rw [replaceStation_tags])
      · split at h
        · cases h
          exact offerAt_reoffered w p n
        · cases h

theorem unreturn_reoffered (w : Work) (g : Nat) : Reoffered w (w.unreturn g) :=
  ⟨rfl, fun _ => rfl, fun _ => .refl _, List.filter_sublist.map _⟩

theorem reofferOne_reoffered (e : Env) (w : Work) (g : Nat) : Reoffered w (reofferOne e w g) := by
  unfold reofferOne
  split
  · exact .refl w
  · split
    · split
      · next h => exact (tryDirected_reoffered h).trans (unreturn_reoffered _ g)
      · exact .refl w
    · split
      · exact (offerAt_reoffered w _ _).trans (unreturn_reoffered _ g)
      · refine ⟨rfl, fun _ => rfl, fun _ => .refl _, ?_⟩
        have tags : ∀ (x : Notice) d, (if x.tag = g then { x with delivery := d } else x).tag = x.tag := fun x d => by
          split <;> rfl
        simp [Function.comp_def, tags]

theorem reoffer_reoffered (e : Env) (w : Work) : Reoffered w (reoffer e w) :=
  List.foldlRecOn (motive := Reoffered w) _ _ (.refl w) fun x hx g _ => hx.trans (reofferOne_reoffered e x g)

/-! ## What becomes of one entry -/

section
variable {e : Env} {w : Work} {earlier later : List Notice} {n : Notice}
  (hl : w.notices.returned = earlier ++ n :: later) (ht : ∀ m ∈ earlier ++ later, m.tag ≠ n.tag)
include hl ht

theorem find_returned : w.notices.returned.find? (fun m => m.tag == n.tag) = some n :=
  List.find?_eq_some_iff_append.mpr ⟨by simp, earlier, later, hl, fun x hx => by
    simpa using ht x (List.mem_append_left later hx)⟩

/-- The entry taken off the return list from a state with some desk rewritten. -/
theorem unreturn_setDesk (p : Port) (d : Desk) :
    (w.setDesk p d).unreturn n.tag =
      Work.setDesk { w with notices := { w.notices with returned := earlier ++ later } } p d := by
  simp only [Work.unreturn, Work.setDesk, hl, filter_tag ht]

theorem reofferOne_directed {dest : Option Port} (hd : n.delivery = .directed dest) :
    (∀ t, tryDirected e n dest w = some t → reofferOne e w n.tag = t.unreturn n.tag) ∧
    (tryDirected e n dest w = none → reofferOne e w n.tag = w) := by
  simp only [reofferOne, find_returned hl ht, hd]
  exact ⟨fun t h => by rw [h], fun h => by rw [h]⟩

/-- A relayed entry is walked from its first port with its lap flag clear (R158). -/
theorem reofferOne_relayed {start : Option Port} {lap : Bool} (hd : n.delivery = .relayed start lap) :
    let r := walk e w n.priority (walkBound e.ring) false (firstInRing e.ring start)
    let walked : Notice := { n with delivery := .relayed start r.2 }
    (∀ p, r.1 = some p → reofferOne e w n.tag = (w.offerAt p walked).unreturn n.tag) ∧
    (r.1 = none → reofferOne e w n.tag =
      { w with notices := { w.notices with returned := earlier ++ walked :: later } }) := by
  have others : ∀ (l : List Notice) (m : Notice), (∀ x ∈ l, x.tag ≠ n.tag) →
      l.map (fun x => if x.tag = n.tag then { x with delivery := m.delivery } else x) = l := fun l m h =>
    (List.map_congr_left fun x hx => if_neg (h x hx)).trans (List.map_id _)
  have before := fun m => others earlier m fun x hx => ht x (List.mem_append_left later hx)
  have after := fun m => others later m fun x hx => ht x (List.mem_append_right earlier hx)
  simp only [reofferOne, find_returned hl ht, hd]
  split
  · next hw => simp [hw]
  · next l hw =>
    have walked := before { n with delivery := .relayed start l }
    have rest := after { n with delivery := .relayed start l }
    simp only [hw, reduceCtorEq, false_implies, implies_true, hl, List.map_append, List.map_cons, if_true, true_and,
      forall_const]
    rw [walked, rest]

end

/-- Settles O17: the order of the entries by the `byUrgency_` lemmas, what a re-offer leaves alone by `reoffer_frame` and
`reoffer_reoffered`, and what becomes of an entry by `reofferOne_directed` and `reofferOne_relayed`. -/
theorem reofferTimer : Obligations.ReofferTimer := by
  refine ⟨fun s calm => ⟨_, rfl, rfl, rfl, ?_, fun h => ?_⟩, fun e w => ?_, fun e w => rfl,
    fun l => ⟨byUrgency_perm l, byUrgency_sorted l, fun v => byUrgency_filter v l⟩, ?_⟩
  · exact settle_atRest _ _ ((reoffer_frame _ _).calm calm).atRest
  · have nothing : ∀ e, reoffer e s.work = s.work := fun e => by rw [reoffer, h]; rfl
    exact (congrArg _ (nothing _)).trans (settle_atRest _ _ calm.atRest)
  · obtain ⟨alarms, taken, offers, returned⟩ := reoffer_reoffered e w
    exact ⟨reoffer_frame e w, alarms, taken, offers, returned⟩
  · intro e w earlier later n hl ht t left
    have directed := fun {dest} => reofferOne_directed (e := e) hl ht (dest := dest)
    have placed : ∀ {p d}, n.delivery = .directed (some p) → tryDirected e n (some p) w = some (w.setDesk p d) →
        t = left fun x => x.setDesk p d := fun hd h => ((directed hd).1 _ h).trans (unreturn_setDesk hl ht _ _)
    refine ⟨fun hd => (directed hd).2 rfl, fun p hd => ⟨fun hs => (directed hd).2 (tryDirected_closed hs), ?_, ?_⟩,
      fun start lap hd => ?_⟩
    · intro front m back hs ho hb hm
      exact placed hd (tryDirected_merges hs ho hb hm)
    · intro hs hn
      exact ⟨fun room => placed hd (tryDirected_room hs hn room), fun full => (directed hd).2 (tryDirected_full hs hn full)⟩
    · obtain ⟨found, none⟩ := reofferOne_relayed (e := e) hl ht hd
      exact ⟨fun p h => (found p h).trans (unreturn_setDesk hl ht _ _), none⟩

end Sys2Proof.Machine
end

section
/-! SUPPORT. RECIPE_SET, PROFILE_SET and SETUP_DONE (R56, R57, R65): their answers, and the recipe table that a list of settings
makes. -/

namespace Sys2Proof.Machine

/-! ## RECIPE_SET (R56) -/

/-- A setting of RECIPE_SET in range. -/
def LegalSetting (x : List Nat) : Prop := ∃ r i v, x = [r, i, v] ∧ r < 32 ∧ i < 24 ∧ v ≤ 65535

theorem recipeSettingOk_iff (x : List Nat) : recipeSettingOk x = true ↔ LegalSetting x := by
  unfold recipeSettingOk
  split
  · next r i v => simp [LegalSetting, and_assoc]
  · next h =>
    simp only [Bool.false_eq_true, false_iff]
    exact fun ⟨r, i, v, hx, _⟩ => h r i v hx

/-- One setting written: the item it names has its value, every other item stays. -/
theorem writeRecipe_get (t : Vector (Vector Nat 24) 32) {r i : Nat} (v : Nat) (hr : r < 32) (hi : i < 24) (k : Fin 32)
    (j : StationIx) :
    (writeRecipe t [r, i, v])[k][j] = if r = k.val ∧ i = j.val then v else t[k][j] := by
  have named : r < 32 ∧ i < 24 := ⟨hr, hi⟩
  simp only [writeRecipe, dif_pos named, Fin.getElem_fin, Vector.getElem_set]
  by_cases h : r = k.val
  · subst h
    simp [Vector.getElem_set]
  · simp [h]

/-- Settings of which none names an item leave it. -/
theorem foldl_writeRecipe_unnamed (k : Fin 32) (j : StationIx) : ∀ {l : List (List Nat)} (t : Vector (Vector Nat 24) 32),
    (∀ x ∈ l, LegalSetting x) → (∀ v, [k.val, j.val, v] ∉ l) → (l.foldl writeRecipe t)[k][j] = t[k][j]
  | [], _, _, _ => rfl
  | x :: l, t, legal, unnamed => by
    obtain ⟨r, i, v, rfl, hr, hi, _⟩ := legal x (by simp)
    have other : ¬(r = k.val ∧ i = j.val) := fun ⟨h1, h2⟩ => unnamed v (by simp [h1, h2])
    rw [List.foldl_cons, foldl_writeRecipe_unnamed k j _ (fun y hy => legal y (List.mem_cons_of_mem _ hy))
      fun u hu => unnamed u (List.mem_cons_of_mem _ hu), writeRecipe_get t v hr hi, if_neg other]

/-- Of two settings of one item the later one holds. -/
theorem foldl_writeRecipe_last (k : Fin 32) (j : StationIx) {before after : List (List Nat)} {v : Nat}
    (t : Vector (Vector Nat 24) 32) (legal : ∀ x ∈ before ++ [k.val, j.val, v] :: after, LegalSetting x)
    (last : ∀ u, [k.val, j.val, u] ∉ after) :
    ((before ++ [k.val, j.val, v] :: after).foldl writeRecipe t)[k][j] = v := by
  rw [List.foldl_append, List.foldl_cons, foldl_writeRecipe_unnamed k j _ (fun x hx => legal x (by simp [hx])) last,
    writeRecipe_get _ v k.isLt j.isLt, if_pos ⟨rfl, rfl⟩]

section
variable {e : Env} {w : Work} {body : List Byte} {l : List (List Nat)} (hb : getRecipeSet body = some l)
include hb

theorem applyRecipeSet_range (h : l = [] ∨ ∃ x ∈ l, ¬LegalSetting x) : applyRecipeSet e w body = refuse .range e w := by
  have refused : (l.isEmpty || !l.all recipeSettingOk) = true := by
    rcases h with rfl | ⟨x, hx, hl⟩
    · rfl
    · have : ¬l.all recipeSettingOk = true := fun all => hl ((recipeSettingOk_iff x).mp (List.all_eq_true.mp all x hx))
      simp [this]
  simp only [applyRecipeSet, hb, if_pos refused]

theorem applyRecipeSet_ok (h : l ≠ []) (legal : ∀ x ∈ l, LegalSetting x) :
    applyRecipeSet e w body = ⟨.ok, [], { e with recipes := l.foldl writeRecipe e.recipes }, w⟩ := by
  have accepted : ¬(l.isEmpty || !l.all recipeSettingOk) = true := by
    have all : l.all recipeSettingOk = true := List.all_eq_true.mpr fun x hx => (recipeSettingOk_iff x).mpr (legal x hx)
    simp [all, h]
  simp only [applyRecipeSet, hb, if_neg accepted, answerOk]

end

/-! ## PROFILE_SET (R57) -/

section
variable {e : Env} {w : Work} {body : List Byte} {n : Nat} {l : List ProfileStep} (hb : getProfileSet body = some (n, l))
include hb

theorem applyProfileSet_range (h : 8 ≤ n ∨ profileOk l = false) : applyProfileSet e w body = refuse .range e w := by
  simp only [applyProfileSet, hb]
  split
  · next hn => rw [if_neg (by simpa using h.resolve_left (not_le.mpr hn))]
  · rfl

theorem applyProfileSet_ok (hn : n < 8) (h : profileOk l = true) :
    applyProfileSet e w body = ⟨.ok, [], { e with profiles := e.profiles.set n l }, w⟩ := by
  simp only [applyProfileSet, hb, dif_pos hn, if_pos h, answerOk]

end

/-! ## SETUP_DONE (R65) -/

theorem getNats_byte_word (n hi lo : Byte) :
    exact (getNats [1, 2] [n, hi, lo]) = some [n.toNat, hi.toNat * 256 + lo.toNat] := by
  simp [exact, getNats, getNat]

theorem slitterOf_none {n : Nat} (h : 2 ≤ n) : slitterOf n = none := by
  unfold slitterOf
  split
  · omega
  · omega
  · rfl

section
variable {e : Env} {w : Work} {n hi lo : Byte}

theorem applySetupDone_range (h : 2 ≤ n.toNat) : applySetupDone e w [n, hi, lo] = refuse .range e w := by
  simp only [applySetupDone, getNats_byte_word, slitterOf_none h]

/-- SETUP_DONE of a slitter: its answer is that of the checks, which it passes with the slitter loaded and confirmed. -/
theorem applySetupDone_eq {x : Slitter} (h : slitterOf n.toNat = some x) :
    applySetupDone e w [n, hi, lo] =
      if setupCode e w x (hi.toNat * 256 + lo.toNat) = .ok then
        answerOk e { w with station :=
          { w.station with slitters := w.station.slitters.load x (hi.toNat * 256 + lo.toNat) } }
      else refuse (setupCode e w x (hi.toNat * 256 + lo.toNat)) e w := by
  simp only [applySetupDone, getNats_byte_word, h]

end

/-- The three outcomes of the checks of SETUP_DONE. -/
theorem setupCode_cases (e : Env) (w : Work) (x : Slitter) (order : Nat) :
    let blocked := e.stationsValid = false ∨ w.track.marks.any (unswapped e w) = true
    (blocked ∨ w.station.slitters.active = x → setupCode e w x order = .state) ∧
    (¬(blocked ∨ w.station.slitters.active = x) → w.seq.find order = none → setupCode e w x order = .unknown) ∧
    (¬(blocked ∨ w.station.slitters.active = x) → w.seq.find order ≠ none → setupCode e w x order = .ok) := by
  intro blocked
  have admitted : ¬(blocked ∨ w.station.slitters.active = x) →
      setupCode e w x order = if (w.seq.find order).isNone then .unknown else .ok := fun h => by
    obtain ⟨free, idle⟩ := not_or.mp h
    obtain ⟨valid, swapped⟩ := not_or.mp free
    simp only [setupCode, Bool.not_eq_false _ ▸ valid, Ne.symm idle, if_neg swapped, Bool.not_true, Bool.false_eq_true,
      if_false]
  refine ⟨fun h => ?_, fun h hn => ?_, fun h hn => ?_⟩
  · unfold setupCode
    rcases h with (h | h) | h <;> simp [h]
  · rw [admitted h, hn]
    rfl
  · rw [admitted h, if_neg (by simpa using hn)]

/-- SETUP_DONE of a slitter at the head of a port's queue (R65). -/
theorem setupDone_slitter {s : State} {p : Port} {q : Queued} {rest : List Queued} {n hi lo : Byte} {x : Slitter}
    (head : HeadOf s p q rest .setupDone [n, hi, lo]) (hw : s.work.atRest) (hx : slitterOf n.toNat = some x) :
    let order := hi.toNat * 256 + lo.toNat
    let pair := s.work.station.slitters
    let blocked := s.env.stationsValid = false ∨ s.work.track.marks.any (unswapped s.env s.work) = true
    (blocked ∨ pair.active = x → exec (.setupDone p) s = .next (refusedState s p q rest .state)) ∧
    (¬(blocked ∨ pair.active = x) → s.work.seq.find order = none →
      exec (.setupDone p) s = .next (refusedState s p q rest .unknown)) ∧
    (¬(blocked ∨ pair.active = x) → s.work.seq.find order ≠ none →
      exec (.setupDone p) s = .next (appliedState s p q .ok [] (popped s.env p rest)
        { s.work with station := { s.work.station with slitters := pair.load x order } })) := by
  intro order pair blocked
  have answer := applySetupDone_eq (e := popped s.env p rest) (w := s.work) (hi := hi) (lo := lo) hx
  obtain ⟨state, unknown, ok⟩ := setupCode_cases (popped s.env p rest) s.work x order
  have refused : ∀ c, c ≠ .ok → setupCode (popped s.env p rest) s.work x order = c →
      exec (.setupDone p) s = .next (refusedState s p q rest c) := fun c hc h => by
    refine congrArg _ (applyHead_refused applySetupDone c head hw ?_)
    rw [answer, h, if_neg hc]
  refine ⟨fun h => refused _ (by decide) (state h), fun h hn => refused _ (by decide) (unknown h hn), fun h hn => ?_⟩
  refine congrArg _ (applyHead_applied (f := applySetupDone) head
    (w := { s.work with station := { s.work.station with slitters := pair.load x order } }) ?_ hw)
  rw [answer, if_pos (ok h hn)]
  rfl

/-- Settles O21: RECIPE_SET by `foldl_writeRecipe_last` and `foldl_writeRecipe_unnamed`, PROFILE_SET by its two answers, and
SETUP_DONE by `setupDone_slitter`. -/
theorem recipeProfileAndSetup : Obligations.RecipeProfileAndSetup := by
  refine ⟨fun s p q rest body hw => ⟨fun l head hb => ⟨fun h => ?_, fun hne hl => ?_⟩, fun n l head hb =>
    ⟨fun hn hp => ?_, fun h => ?_⟩⟩, fun s p q rest n hi lo head hw => ⟨fun h => ?_, ?_, ?_⟩⟩
  · exact congrArg _ (applyHead_refused applyRecipeSet .range head hw (applyRecipeSet_range hb h))
  · refine ⟨l.foldl writeRecipe s.env.recipes,
      congrArg _ (applyHead_applied (f := applyRecipeSet) head (applyRecipeSet_ok hb hne hl) hw), fun r i =>
      ⟨fun before v after hl' last => ?_, foldl_writeRecipe_unnamed r i _ hl⟩⟩
    subst hl'
    exact foldl_writeRecipe_last r i _ hl last
  · exact congrArg _ (applyHead_applied (f := applyProfileSet) head (applyProfileSet_ok hb hn hp) hw)
  · exact congrArg _ (applyHead_refused applyProfileSet .range head hw (applyProfileSet_range hb h))
  · exact congrArg _ (applyHead_refused applySetupDone .range head hw (applySetupDone_range h))
  · rintro rfl
    exact setupDone_slitter head hw rfl
  · rintro rfl
    exact setupDone_slitter head hw rfl

end Sys2Proof.Machine
end

section
/-! SUPPORT. The fire of a stand (R67, R76 to R80): what it makes of the blocks, when a stand fires, and a fire that comes late. -/

namespace Sys2Proof.Machine

/-! ## The phase re-evaluated (R76) -/

section
variable {r : StandRec}

theorem StandRec.rephase_fired (h : r.phase.isFired = true) : r.rephase = r := if_pos h

theorem StandRec.rephase_watch (hf : r.phase.isFired = false) (he : r.enable = true)
    (h : r.requirement ≠ none ∨ r.level.armed = true) : r.rephase = { r with phase := .watch } := by
  have armed : (r.requirement.isSome || r.level.armed) = true := by
    rcases h with h | h
    · rw [Option.isSome_iff_ne_none.mpr h]
      rfl
    · rw [h, Bool.or_true]
  simp [StandRec.rephase, hf, he, armed]

theorem StandRec.rephase_idle (hf : r.phase.isFired = false)
    (h : r.enable = false ∨ r.requirement = none ∧ r.level.armed = false) : r.rephase = { r with phase := .idle } := by
  rcases h with h | ⟨h1, h2⟩
  · simp [StandRec.rephase, hf, h]
  · simp [StandRec.rephase, hf, h1, h2]

/-- An enabled stand that is not FIRED is IDLE exactly where it has no requirement and its level does not arm it. -/
theorem StandRec.rephase_enabled_idle_iff (hf : r.phase.isFired = false) :
    (StandRec.rephase { r with enable := true }).phase = .idle ↔ r.requirement = none ∧ r.level.armed = false := by
  by_cases h : r.requirement = none ∧ r.level.armed = false
  · rw [StandRec.rephase_idle (r := { r with enable := true }) hf (.inr h)]
    exact iff_of_true rfl h
  · rw [StandRec.rephase_watch (r := { r with enable := true }) hf rfl
      ((not_and_or.mp h).imp id (Bool.not_eq_false _).mp)]
    exact iff_of_false (fun x => nomatch x) h

end

/-! ## What a fire makes of the blocks (R67, R79, R84) -/

theorem raiseAlarm_cues (e : Env) (k : AlarmKind) (x : Subject) (w : Work) : (raiseAlarm e k x w).cues = w.cues :=
  (raiseAlarm_frame e k x w).cues

/-- A pulse leaves its line high for the pulse width, and the other lines as they were (R67). -/
theorem pulse_cues (e : Env) (c : CueLine) (w : Work) :
    (pulse e c w).cues = w.cues.set c (some (e.now + pulseWidth e)) := by
  unfold pulse
  dsimp only
  split
  · rfl
  · exact raiseAlarm_cues _ _ _ _

section
variable (e : Env) (k : Stand) (w : Work)

theorem fire_cues (c : CueLine) :
    (fire e k w).cues[c] = if c.val = k.val then some (e.now + pulseWidth e) else w.cues[c] := by
  have cues : (fire e k w).cues = w.cues.set (standCue k) (some (e.now + pulseWidth e)) :=
    (post_frame _ _ _ _).cues.trans (pulse_cues e _ _)
  simp only [cues, Fin.getElem_fin, Vector.getElem_set, standCue, eq_comm]

theorem fire_stands : (fire e k w).stands[k] =
    { w.stands[k] with phase := .fired (snapshotNow e k w.stands[k]), lateWindow := none } := by
  have stands : (fire e k w).stands = (w.setStand k
      { w.stands[k] with phase := .fired (snapshotNow e k w.stands[k]), lateWindow := none }).stands :=
    (post_frame _ _ _ _).stands.trans (pulse_stands e _ _)
  rw [stands, Work.setStand_self]

end

theorem readyMeets_iff (r : StandRec) :
    r.readyMeets = true ↔ ∃ q y, r.requirement = some q ∧ r.ready = some y ∧ y.suits q.grade q.width = true := by
  unfold StandRec.readyMeets
  split
  · next q y hq hy => simp [hq, hy]
  · next h =>
    simp only [Bool.false_eq_true, false_iff]
    exact fun ⟨q, y, hq, hy, _⟩ => h q y hq hy

/-- The notice of a grade fire names the aim and the change of the requirement (R79). -/
theorem spliceBody_grade {k : Stand} {r : StandRec} {x : Snapshot} {q : Requirement} {y : Reel} (hx : x.kind = .grade)
    (hq : r.requirement = some q) (hy : r.ready = some y) :
    spliceBody k r x = .splice k .grade y.id q.aim.val q.changeTag := by
  simp [spliceBody, hx, hq, hy]

/-- The notice of a runout fire names the estimated joint, and no change (R79, R82). -/
theorem spliceBody_runout {k : Stand} {r : StandRec} {x : Snapshot} {y : Reel} (hx : x.kind = .runout)
    (hy : r.ready = some y) : spliceBody k r x = .splice k .runout y.id x.estimate 0 := by
  simp [spliceBody, hx, hy]

/-! ## When a stand fires (R76 to R80) -/

theorem gradeHolds_iff (e : Env) (k : Stand) (r : StandRec) :
    gradeHolds e k r = true ↔ ∃ q y, r.requirement = some q ∧ r.ready = some y ∧ y.suits q.grade q.width = true ∧
      e.ahead q.aim ≤ e.splicerReach k + e.lead k := by
  unfold gradeHolds
  rw [Bool.and_eq_true, readyMeets_iff]
  constructor
  · rintro ⟨⟨q, y, hq, hy, suits⟩, passed⟩
    rw [hq] at passed
    exact ⟨q, y, hq, hy, suits, of_decide_eq_true passed⟩
  · rintro ⟨q, y, hq, hy, suits, passed⟩
    refine ⟨⟨q, y, hq, hy, suits⟩, ?_⟩
    rw [hq]
    exact decide_eq_true passed

theorem ReelLevel.armed_iff (l : ReelLevel) : l.armed = true ↔ l = .arm ∨ l = .last ∨ l = .empty := by
  cases l <;> simp [ReelLevel.armed]

theorem runoutHolds_iff (e : Env) (k : Stand) (r : StandRec) :
    runoutHolds e k r = true ↔ (r.level = .arm ∨ r.level = .last ∨ r.level = .empty) ∧ r.ready ≠ none ∧
      ∃ u, e.usable k r.running = some u ∧ u ≤ e.lead k + e.settings[k].runoutMargin := by
  unfold runoutHolds
  rw [Bool.and_eq_true, Bool.and_eq_true, ReelLevel.armed_iff, Option.isSome_iff_ne_none, and_assoc]
  refine and_congr_right fun _ => and_congr_right fun _ => ?_
  split
  · next u hu => simp [hu]
  · next h => simp [h]

section
variable {e : Env} {k : Stand} {w : Work} (sudden : Bool)

theorem evalFire_not_watch (h : w.stands[k].phase ≠ .watch) : evalFire e sudden k w = w := if_neg h

theorem evalFire_not_due (hg : ¬gradeHolds e k w.stands[k] = true) (hr : ¬runoutHolds e k w.stands[k] = true) :
    evalFire e sudden k w = w := by
  unfold evalFire
  dsimp only
  rw [if_neg hg, if_neg hr, ite_self]

theorem evalFire_runout (h : w.stands[k].phase = .watch) (hg : ¬gradeHolds e k w.stands[k] = true)
    (hr : runoutHolds e k w.stands[k] = true) : evalFire e sudden k w = fire e k w := by
  unfold evalFire
  dsimp only
  rw [if_pos h, if_neg hg, if_pos hr]

theorem evalFire_grade (h : w.stands[k].phase = .watch) (hg : gradeHolds e k w.stands[k] = true) :
    evalFire e sudden k w = if sudden then raiseAlarm e .spliceLate (.stand k) (fire e k w) else fire e k w := by
  unfold evalFire
  dsimp only
  rw [if_pos h, if_pos hg]

end

/-! ## STAND_ENABLE (R86) -/

theorem stand_toNat (k : Stand) : (BitVec.ofNat 8 k.val).toNat = k.val := by
  have := k.isLt
  simp only [BitVec.toNat_ofNat]
  omega

theorem applyStandEnable_range (e : Env) (w : Work) {n b : Byte} (h : 5 ≤ n.toNat) :
    applyStandEnable e w [n, b] = refuse .range e w := by
  simp only [applyStandEnable, getNats_two_bytes, standOf_none h]

theorem applyStandEnable_stand (e : Env) (w : Work) (k : Stand) (on : Bool) :
    applyStandEnable e w [BitVec.ofNat 8 k.val, if on then 1 else 0] = answerOk e (enableStand e k on w) := by
  simp only [applyStandEnable, getNats_two_bytes, stand_toNat, standOf_val]
  cases on <;> rfl

section
variable {e : Env} {k : Stand} {w : Work}

/-- The enable of a FIRED stand takes the value given, and its splice runs on (R86). -/
theorem enableStand_fired (on : Bool) (h : w.stands[k].phase.isFired = true) :
    enableStand e k on w = w.setStand k { w.stands[k] with enable := on } := by
  have runs : enableStand e k on w = evalFire e on k (w.setStand k { w.stands[k] with enable := on }) :=
    congrArg (fun r => evalFire e on k (w.setStand k r)) (StandRec.rephase_fired h)
  rw [runs, evalFire_not_watch]
  rw [Work.setStand_self]
  exact fun watch => absurd h (by rw [show w.stands[k].phase = .watch from watch]; decide)

/-- A stand that is not FIRED is IDLE with its enable cleared (R76, R86). -/
theorem enableStand_off (h : w.stands[k].phase.isFired = false) :
    enableStand e k false w = w.setStand k { w.stands[k] with enable := false, phase := .idle } := by
  have idles : enableStand e k false w =
      evalFire e false k (w.setStand k { w.stands[k] with enable := false, phase := .idle }) :=
    congrArg (fun r => evalFire e false k (w.setStand k r)) (StandRec.rephase_idle h (.inl rfl))
  rw [idles, evalFire_not_watch]
  rw [Work.setStand_self]
  exact fun watch => nomatch watch

/-- A stand that is not FIRED is enabled, and its fire conditions are evaluated as after an event of R80. -/
theorem enableStand_on :
    enableStand e k true w = evalFire e true k (w.setStand k (StandRec.rephase { w.stands[k] with enable := true })) := rfl

theorem enableStand_on_stand (hw : w.calm) :
    StandFrame k (w.setStand k { w.stands[k] with enable := true }) (enableStand e k true w) := by
  have rephased := setStand_rephase_stand k w { w.stands[k] with enable := true }
  exact rephased.trans (evalFire_stand e true k (rephased.calm (setStand_calm hw k _)))

/-- A fire evaluation leaves a stand IDLE only where it was IDLE (R76). -/
theorem evalFire_idle_iff (sudden : Bool) :
    (evalFire e sudden k w).stands[k].phase = .idle ↔ w.stands[k].phase = .idle := by
  rcases evalFire_cases e sudden k w with h | ⟨watch, _, h | ⟨_, _, h⟩⟩ <;> rw [h]
  · rw [fire_stands, watch]
    simp
  · rw [(raiseAlarm_frame _ _ _ _).stands, fire_stands, watch]
    simp

theorem enableStand_on_idle_iff (h : w.stands[k].phase.isFired = false) :
    (enableStand e k true w).stands[k].phase = .idle ↔
      w.stands[k].requirement = none ∧ w.stands[k].level.armed = false := by
  rw [enableStand_on, evalFire_idle_iff, Work.setStand_self]
  exact StandRec.rephase_enabled_idle_iff h

end

/-- Settles O31: what a fire makes of the blocks by the `fire_` and `spliceBody_` lemmas, when a stand fires by the `evalFire_`
lemmas, and the late fire of STAND_ENABLE by `enableStand_on`. -/
theorem fireTakesASnapshot : Obligations.FireTakesASnapshot := by
  refine ⟨fun e k w hw => ⟨?_, ?_, fire_cues e k w, fire_stand e k hw, fun q y hq hy suits => ?_, fun y hy unsuited => ?_⟩,
    fun e sudden k w => ?_, fun s p q rest k need y head hw idle hq hy suits passed => ?_⟩
  · rw [fire_stands]
    rfl
  · rw [fire_stands]
  · have meets : w.stands[k].readyMeets = true := (readyMeets_iff _).mpr ⟨q, y, hq, hy, suits⟩
    have body : spliceBody k w.stands[k] (snapshotNow e k w.stands[k]) = _ :=
      spliceBody_grade (if_pos meets) hq hy
    unfold fire
    dsimp only
    rw [body]
    rfl
  · have not : ¬w.stands[k].readyMeets = true := fun h => by
      obtain ⟨q, z, hq, hz, suits⟩ := (readyMeets_iff _).mp h
      cases hy.symm.trans hz
      rw [unsuited q hq] at suits
      cases suits
    have body : spliceBody k w.stands[k] (snapshotNow e k w.stands[k]) = _ :=
      spliceBody_runout (if_neg not) hy
    unfold fire
    dsimp only
    rw [body]
    rfl
  · intro r grade runout t
    have hg : gradeHolds e k r = true ↔ grade := gradeHolds_iff e k r
    have hr : runoutHolds e k r = true ↔ runout := runoutHolds_iff e k r
    refine ⟨fun h => ?_, fun watch h g => ?_, fun watch g h => ?_, fun watch g h => ⟨?_, ?_⟩⟩
    · rcases h with h | ⟨h, g⟩
      · exact evalFire_not_watch sudden h
      · exact evalFire_not_due sudden (fun x => h (hg.mp x)) fun x => g (hr.mp x)
    · exact evalFire_runout sudden watch (fun x => h (hg.mp x)) (hr.mpr g)
    · exact (evalFire_grade sudden watch (hg.mpr g)).trans (by rw [h]; rfl)
    · exact (evalFire_grade sudden watch (hg.mpr g)).trans (by rw [h]; rfl)
    · have late : t = raiseAlarm e .spliceLate (.stand k) (fire e k w) :=
        (evalFire_grade sudden watch (hg.mpr g)).trans (by rw [h]; rfl)
      rw [late]
      exact raiseAlarm_hasAlarm e _ _ _
  · have watch := StandRec.rephase_watch (r := { s.work.stands[k] with enable := true }) idle rfl
      (.inl (Option.ne_none_iff_exists'.mpr ⟨need, hq⟩))
    have watched : enableStand (popped s.env p rest) k true s.work = evalFire (popped s.env p rest) true k
        (s.work.setStand k { s.work.stands[k] with enable := true, phase := .watch }) :=
      congrArg (fun r => evalFire (popped s.env p rest) true k (s.work.setStand k r)) watch
    have fired := evalFire_grade (e := popped s.env p rest) (k := k) true
      (w := s.work.setStand k { s.work.stands[k] with enable := true, phase := .watch })
      (by rw [Work.setStand_self])
      (by rw [Work.setStand_self]; exact (gradeHolds_iff _ k _).mpr ⟨need, y, hq, hy, suits, passed⟩)
    have calm := (enableStand_on_stand (e := popped s.env p rest) (k := k) hw).calm (setStand_calm hw k _)
    rw [watched.trans fired] at calm
    refine congrArg _ (applyHead_calm (f := applyStandEnable) head ?_ calm)
    exact (applyStandEnable_stand _ s.work k true).trans (congrArg (answerOk _) (watched.trans fired))

end Sys2Proof.Machine
end

section
/-! SUPPORT. SPLICE_FAIL, STAND_ENABLE, and the ends of what a fire has timed: the confirm deadline, the pulse and the late-report window
(R67, R82, R84 to R86). -/

namespace Sys2Proof.Machine

/-! ## SPLICE_FAIL (R85) -/

theorem getOne_byte (n : Byte) : getOne 1 [n] = some n.toNat := by simp [getOne, exact, getNat]

section
variable {e : Env} {w : Work} {k : Stand}

theorem applySpliceFail_range {n : Byte} (h : 5 ≤ n.toNat) : applySpliceFail e w [n] = refuse .range e w := by
  simp only [applySpliceFail, getOne_byte, Option.bind_some, standOf_none h]

theorem applySpliceFail_state (h : w.stands[k].phase.isFired = false) :
    applySpliceFail e w [BitVec.ofNat 8 k.val] = refuse .state e w := by
  have running : ¬w.stands[k].phase.isFired = true := by simp only [h, Bool.false_eq_true, not_false_eq_true]
  simp only [applySpliceFail, getOne_byte, Option.bind_some, stand_toNat, standOf_val, if_neg running]

theorem applySpliceFail_fails (h : w.stands[k].phase.isFired = true) :
    applySpliceFail e w [BitVec.ofNat 8 k.val] = answerOk e (failSplice e k w) := by
  simp only [applySpliceFail, getOne_byte, Option.bind_some, stand_toNat, standOf_val, if_pos h]

/-- A failed splice leaves the enable clear and the phase IDLE, beside what its alarm changes. -/
theorem failSplice_frame (e : Env) (k : Stand) (w : Work) :
    NoticeFrame (w.setStand k { w.stands[k] with enable := false, phase := .idle }) (failSplice e k w) :=
  raiseAlarm_frame e _ _ _

theorem failSplice_hasAlarm (e : Env) (k : Stand) (w : Work) : (failSplice e k w).hasAlarm .spliceFailed (.stand k) :=
  raiseAlarm_hasAlarm e _ _ _

theorem failSplice_calm (hw : w.calm) : (failSplice e k w).calm := (failSplice_frame e k w).calm (setStand_calm hw k _)

end

/-! ## The confirm deadline (R82) -/

theorem Phase.isFired_eq_false {f : Phase} (h : f.isFired = false) : ∀ x, f ≠ .fired x := by
  rintro x rfl
  cases h

theorem execConfirmDeadlineExpiry_not_fired {k : Stand} {s : State} (h : s.work.stands[k].phase.isFired = false) :
    exec (.confirmDeadlineExpiry k) s = .next s := by
  simp only [exec, execConfirmDeadlineExpiry]
  split
  · next x hx => exact absurd hx (Phase.isFired_eq_false h x)
  · rfl
  · rfl

theorem execConfirmDeadlineExpiry_fired {k : Stand} {s : State} {x : Snapshot} (h : s.work.stands[k].phase = .fired x) :
    exec (.confirmDeadlineExpiry k) s =
      .next (s.finish (s.env.reach x.deadline, confirmExpiry (s.env.reach x.deadline) k x s.work)) := by
  simp only [exec, execConfirmDeadlineExpiry, h]

/-- What a confirm deadline does, by the confirm mode in force. -/
theorem confirmExpiry_mode (e : Env) (k : Stand) (x : Snapshot) (w : Work) :
    (e.settings[k].mode = .sensor → confirmExpiry e k x w = failSplice e k w) ∧
    (e.settings[k].mode = .timed → confirmExpiry e k x w = (makeJoint e k x.estimate true w).1) ∧
    (e.settings[k].mode = .sensorOrTimed → confirmExpiry e k x w =
      (makeJoint e k x.estimate true w).1.updStand k fun r =>
        { r with lateWindow := some (e.now + e.settings[k].timeout) }) := by
  unfold confirmExpiry
  exact ⟨fun h => by simp only [h], fun h => by simp only [h], fun h => by simp only [h]⟩

/-! ## The requests on a stand at the head of a port's queue -/

section
variable {s : State} {p : Port} {q : Queued} {rest : List Queued} {k : Stand}

theorem exec_spliceFail_fails (hw : s.work.calm) (head : HeadOf s p q rest .spliceFail [BitVec.ofNat 8 k.val])
    (h : s.work.stands[k].phase.isFired = true) :
    exec (.spliceFail p) s =
      .next (appliedState s p q .ok [] (popped s.env p rest) (failSplice (popped s.env p rest) k s.work)) :=
  congrArg _ (applyHead_calm (f := applySpliceFail) head (applySpliceFail_fails h) (failSplice_calm hw))

theorem exec_standEnable (on : Bool)
    (head : HeadOf s p q rest .standEnable [BitVec.ofNat 8 k.val, if on then 1 else 0])
    (calm : (enableStand (popped s.env p rest) k on s.work).calm) :
    exec (.standEnable p) s =
      .next (appliedState s p q .ok [] (popped s.env p rest) (enableStand (popped s.env p rest) k on s.work)) :=
  congrArg _ (applyHead_calm (f := applyStandEnable) head (applyStandEnable_stand _ _ k on) calm)

end

/-- Settles O30: SPLICE_FAIL by the `applySpliceFail_` lemmas, STAND_ENABLE by the `enableStand_` lemmas, the confirm deadline by
`confirmExpiry_mode`. -/
theorem enableAndSpliceEnds : Obligations.EnableAndSpliceEnds := by
  refine ⟨fun s p q rest k hw => ⟨fun n head h => ?_, fun head h => ?_, fun head h => ?_, fun n b head h => ?_,
    fun on head h => ?_, fun head h => ?_, fun head h => ?_⟩,
    fun k s => ⟨execConfirmDeadlineExpiry_not_fired, fun x hx => ⟨fun mode hw => ?_, fun mode => ?_, fun mode => ?_⟩⟩,
    fun s => ⟨fun c h => ?_, fun c x h => ?_, fun k h => ?_, fun k x h => ?_⟩⟩
  · exact congrArg _ (applyHead_refused applySpliceFail .range head hw.atRest (applySpliceFail_range h))
  · exact congrArg _ (applyHead_refused applySpliceFail .state head hw.atRest (applySpliceFail_state h))
  · exact ⟨_, exec_spliceFail_fails hw head h, rfl, rfl, failSplice_frame _ k s.work, failSplice_hasAlarm _ k s.work⟩
  · exact congrArg _ (applyHead_refused applyStandEnable .range head hw.atRest (applyStandEnable_range _ _ h))
  · have fired := enableStand_fired (e := popped s.env p rest) on h
    exact (exec_standEnable on head (fired ▸ setStand_calm hw k _)).trans (by rw [fired])
  · have off := enableStand_off (e := popped s.env p rest) h
    exact (exec_standEnable false head (off ▸ setStand_calm hw k _)).trans (by rw [off])
  · have frame := enableStand_on_stand (e := popped s.env p rest) (k := k) hw
    exact ⟨_, exec_standEnable true head (frame.calm (setStand_calm hw k _)), rfl, rfl, frame, enableStand_on_idle_iff h⟩
  · obtain ⟨sensor, _, _⟩ := confirmExpiry_mode (s.env.reach x.deadline) k x s.work
    have failed : confirmExpiry (s.env.reach x.deadline) k x s.work = failSplice (s.env.reach x.deadline) k s.work :=
      sensor mode
    have settled : settle (s.env.reach x.deadline) (confirmExpiry (s.env.reach x.deadline) k x s.work) =
        failSplice (s.env.reach x.deadline) k s.work := by
      rw [failed, settle_atRest _ _ (failSplice_calm hw).atRest]
    refine ⟨_, execConfirmDeadlineExpiry_fired hx, rfl, rfl, ?_, ?_⟩
    · rw [State.finish_work, settled]
      exact failSplice_frame _ k s.work
    · rw [State.finish_work, settled]
      exact failSplice_hasAlarm _ k s.work
  · obtain ⟨_, timed, _⟩ := confirmExpiry_mode (s.env.reach x.deadline) k x s.work
    rw [execConfirmDeadlineExpiry_fired hx, timed mode]
    rfl
  · obtain ⟨_, _, both⟩ := confirmExpiry_mode (s.env.reach x.deadline) k x s.work
    rw [execConfirmDeadlineExpiry_fired hx, both mode]
    rfl
  · simp only [exec, execCuePulseEnd, h]
  · simp only [exec, execCuePulseEnd, h]
    rfl
  · simp only [exec, execLateReportWindowEnd, h]
  · simp only [exec, execLateReportWindowEnd, h]
    rfl

end Sys2Proof.Machine
end

section
/-! SUPPORT. Ramps (R57, R59 to R62): the value delivered, the step that a test delivers, the begin of a ramp, and the change that
bounds it. -/

namespace Sys2Proof.Machine

/-! ## The value delivered (R60) -/

/-- On the way up a ramp has added the part of the rise that the fraction gives. -/
theorem rampValue_up {old new f : Nat} (h : old ≤ new) : rampValue old new f = old + (new - old) * f / 256 := by
  have rise : (((new : Int) - old) * f).tdiv 256 = (((new - old) * f / 256 : Nat) : Int) := by
    rw [← Nat.cast_sub h, Int.tdiv_eq_ediv_of_nonneg (by positivity)]
    norm_cast
  rw [rampValue, rise]
  omega

/-- On the way down it has taken off the part of the fall that the fraction gives. -/
theorem rampValue_down {old new f : Nat} (h : new ≤ old) : rampValue old new f = old - (old - new) * f / 256 := by
  have fall : (((new : Int) - old) * f).tdiv 256 = -(((old - new) * f / 256 : Nat) : Int) := by
    have sign : ((new : Int) - old) * f = -(((old - new : Nat) : Int) * f) := by rw [Nat.cast_sub h]; ring
    rw [sign, Int.neg_tdiv, Int.tdiv_eq_ediv_of_nonneg (by positivity)]
    norm_cast
  rw [rampValue, fall]
  omega

/-- The part of a distance that a fraction of 256ths gives, up to the whole. -/
theorem fraction_le {d f g : Nat} (hf : f ≤ g) (hg : g ≤ 256) : d * f / 256 ≤ d * g / 256 ∧ d * g / 256 ≤ d :=
  ⟨Nat.div_le_div_right (Nat.mul_le_mul_left d hf),
    Nat.div_le_of_le_mul (by rw [Nat.mul_comm 256]; exact Nat.mul_le_mul_left d hg)⟩

theorem rampValue_zero (old new : Nat) : rampValue old new 0 = old := by simp [rampValue]

theorem rampValue_whole (old new : Nat) : rampValue old new 256 = new := by
  rcases le_total old new with h | h
  · rw [rampValue_up h, Nat.mul_div_cancel _ (by decide)]
    omega
  · rw [rampValue_down h, Nat.mul_div_cancel _ (by decide)]
    omega

/-! ## The step that a test delivers (R60, R62) -/

/-- A step of a ramp that a test may deliver: at or after the next one, due at the station, and before the limit. -/
def Ramp.Due (e : Env) (st : Station) (r : Ramp) (limit : Option Pos) (k : Nat) (s : ProfileStep) : Prop :=
  r.steps[k]? = some s ∧ r.nextStep ≤ k ∧ e.ahead (r.start.plus s.distance) ≤ e.stationReach st ∧
    ∀ t, limit = some t → e.ahead (r.start.plus s.distance) < e.ahead t

/-- The test that `highestDue` makes of a numbered step. -/
def Ramp.takes (e : Env) (st : Station) (r : Ramp) (limit : Option Pos) (p : ProfileStep × Nat) : Bool :=
  decide (r.nextStep ≤ p.2) && stepDue e st r limit p.1

section
variable {e : Env} {st : Station} {r : Ramp} {limit : Option Pos} {k : Nat} {s : ProfileStep}

theorem Ramp.due_iff : r.Due e st limit k s ↔ r.steps[k]? = some s ∧ r.takes e st limit (s, k) = true := by
  unfold Ramp.Due Ramp.takes stepDue Env.passed Ramp.point
  rw [Bool.and_eq_true, Bool.and_eq_true, decide_eq_true_iff, decide_eq_true_iff]
  cases limit <;> simp

theorem highestDue_eq : highestDue e st r limit =
    (r.steps.zipIdx.filter (r.takes e st limit)).getLast?.map fun p => (p.2, p.1) := rfl

theorem highestDue_none (h : ∀ k s, ¬r.Due e st limit k s) : highestDue e st r limit = none := by
  have empty : r.steps.zipIdx.filter (r.takes e st limit) = [] := List.filter_eq_nil_iff.mpr fun p hp ht =>
    h p.2 p.1 (Ramp.due_iff.mpr ⟨List.mk_mem_zipIdx_iff_getElem?.mp hp, ht⟩)
  rw [highestDue_eq, empty]
  rfl

theorem highestDue_some (h : r.Due e st limit k s) (last : ∀ k' s', k < k' → ¬r.Due e st limit k' s') :
    highestDue e st r limit = some (k, s) := by
  obtain ⟨hk, taken⟩ := Ramp.due_iff.mp h
  obtain ⟨hlt, hs⟩ := List.getElem?_eq_some_iff.mp hk
  have split : r.steps = r.steps.take k ++ s :: r.steps.drop (k + 1) := by
    rw [← hs, List.cons_getElem_drop_succ, List.take_append_drop]
  have numbered : r.steps.zipIdx = (r.steps.take k).zipIdx ++ (s, k) :: (r.steps.drop (k + 1)).zipIdx (k + 1) := by
    conv_lhs => rw [split]
    rw [List.zipIdx_append, List.zipIdx_cons, List.length_take, Nat.min_eq_left (le_of_lt hlt), Nat.zero_add]
  have none : ((r.steps.drop (k + 1)).zipIdx (k + 1)).filter (r.takes e st limit) = [] :=
    List.filter_eq_nil_iff.mpr fun p hp ht => by
      obtain ⟨hle, hget⟩ := List.mk_mem_zipIdx_iff_le_and_getElem?_sub.mp hp
      rw [List.getElem?_drop, Nat.add_sub_cancel' hle] at hget
      exact last p.2 p.1 hle (Ramp.due_iff.mpr ⟨hget, ht⟩)
  rw [highestDue_eq, numbered, List.filter_append, List.filter_cons_of_pos taken, none, List.getLast?_concat]
  rfl

end

section
variable {e : Env} {i : StationIx} {st : Station} {r : Ramp} {limit : Option Pos} {k : Nat} {s : ProfileStep} {w : Work}
  (hst : e.stations[i] = some st) (hr : w.station.ramps[i] = some r)
include hst hr

theorem rampTest_none (created : Bool) (h : ∀ k s, ¬r.Due e st limit k s) : rampTest e limit created w i = w := by
  simp only [rampTest, hst, hr, highestDue_none h]

theorem rampTest_step (created : Bool) (h : r.Due e st limit k s) (last : ∀ k' s', k < k' → ¬r.Due e st limit k' s') :
    rampTest e limit created w i = deliverStep e i st r k s (created && r.late) w := by
  simp only [rampTest, hst, hr, highestDue_some h last]

end

/-! ## What the station unit keeps of its own record -/

theorem pulse_station (e : Env) (c : CueLine) (w : Work) : (pulse e c w).station = w.station := by
  unfold pulse
  dsimp only
  split
  · rfl
  · exact (raiseAlarm_frame _ _ _ _).station

theorem pulseStation_station (e : Env) (st : Station) (w : Work) : (pulseStation e st w).station = w.station := by
  unfold pulseStation
  split
  · rfl
  · exact pulse_station _ _ _

theorem postStation_station (e : Env) (st : Station) (b : StationBody) (w : Work) :
    (postStation e st b w).station = w.station := by
  unfold postStation
  split
  · rfl
  · exact (post_frame _ _ _ _).station

/-- A step delivered becomes the current value, and the ramp goes on to the next step or ends with its last (R60). -/
theorem deliverStep_station (e : Env) (i : StationIx) (st : Station) (r : Ramp) (k : Nat) (s : ProfileStep) (late : Bool)
    (w : Work) :
    (deliverStep e i st r k s late w).station =
      { w.station with
        current := w.station.current.set i (rampValue r.oldValue r.newValue s.fraction)
        ramps := w.station.ramps.set i (if k + 1 = r.steps.length then none else some { r with nextStep := k + 1 }) } := by
  unfold deliverStep
  dsimp only [Work.setRamp]
  rw [pulseStation_station, postStation_station]
  rfl

/-- What a step test makes of the station unit depends on the station unit alone. -/
theorem rampTest_station_congr (e : Env) (limit : Option Pos) (created : Bool) (i : StationIx) {w w' : Work}
    (h : w.station = w'.station) :
    (rampTest e limit created w i).station = (rampTest e limit created w' i).station := by
  unfold rampTest
  rw [h]
  split
  · split
    · rw [deliverStep_station, deliverStep_station, h]
    · exact h
  · exact h

/-! ## A begin, and the change that bounds a ramp (R59, R62) -/

section
variable {e : Env} {w : Work} {i : StationIx} {j : Nat}

theorem recipeValue_gone (h : w.seq.find j = none) : recipeValue e w i j = 65535 := by simp only [recipeValue, h]

theorem recipeValue_order {o : Order} (h : w.seq.find j = some o) (hr : o.given.recipe < 32) :
    recipeValue e w i j = e.recipes[o.given.recipe][i] := by simp only [recipeValue, h, dif_pos hr]

variable (st : Station) (m : Mark) (late : Bool)

/-- A change that gives its station no value (R59). -/
theorem changeover_unset (h : recipeValue e w i j = 65535) :
    changeover e i st m j late w = postStation e st
      ⟨i, m.tag, .change, .begins, none, recipeValue e w i j, late, some j, none⟩ (endRamp e i m.start w) := if_pos h

/-- The ramp that a change begins at a station (R59). -/
def Ramp.begun (e : Env) (i : StationIx) (st : Station) (m : Mark) (j : Nat) (late : Bool) (w : Work) : Ramp :=
  ⟨(endRamp e i m.start w).station.current[i], recipeValue e w i j, e.profiles[st.profile], 0, m.tag, m.start, late, j⟩

/-- A change that begins a ramp (R59, R62). -/
theorem changeover_ramp (h : recipeValue e w i j ≠ 65535) :
    changeover e i st m j late w = rampTest e (pendingBegin e i w) true
      (postStation e st ⟨i, m.tag, .change, .begins, none, recipeValue e w i j, late, some j, none⟩
        ((endRamp e i m.start w).setRamp i (some (Ramp.begun e i st m j late w)))) i := if_neg h

end

/-- A change whose begin at a station is due and still to be handed on. -/
theorem bound_beginDue_iff {e : Env} {i : StationIx} {st : Station} {n : Mark} :
    (n.bound = true ∧ beginDue e i st n = true) ↔
      n.bound = true ∧ n.beginPassed[i.val] = false ∧ e.ahead n.start ≤ e.stationReach st := by
  simp [beginDue, Env.passed]

section
variable {e : Env} {i : StationIx} {st : Station} {w : Work} (hst : e.stations[i] = some st)
include hst

theorem pendingBegin_off (h : st.actsOn.change = false) : pendingBegin e i w = none := by
  simp only [pendingBegin, hst, h, Bool.false_eq_true, if_false]

theorem pendingBegin_on (h : st.actsOn.change = true) :
    pendingBegin e i w =
      (w.track.marks.find? fun n => decide (n.bound = true ∧ beginDue e i st n = true)).map Mark.start := by
  simp only [pendingBegin, hst, h, if_true, Track.boundChanges, List.find?_filter]

end

end Sys2Proof.Machine

namespace Sys2Proof.Proofs

open Sys2Proof.Machine

/-- Settles O49: the values by `rampValue_up` and `rampValue_down`, the step test by `rampTest_none` and `rampTest_step`, a begin
by `changeover_unset` and `changeover_ramp`, and its bound by `pendingBegin_on`. The theorem stands apart from the model's
own `rampSteps`. -/
theorem rampSteps : Obligations.RampSteps := by
  refine ⟨fun old new => ⟨rampValue_zero old new, rampValue_whole old new, fun f g hf hg => ⟨fun h => ?_, fun h => ?_⟩⟩,
    fun e limit created w i st r hst hr => ⟨rampTest_none hst hr created, fun k s h last => ?_⟩,
    fun e i st m j late w hst => ⟨recipeValue_gone, fun o ho hr => recipeValue_order ho hr, fun h => ?_, fun h => ?_⟩,
    fun e i st w hst => ⟨pendingBegin_off hst, fun h => ⟨fun none => ?_, fun before n after hm hb hn => ?_⟩⟩⟩
  · rw [rampValue_up h, rampValue_up h]
    have := fraction_le (d := new - old) hf hg
    omega
  · rw [rampValue_down h, rampValue_down h]
    have := fraction_le (d := old - new) hf hg
    omega
  · exact (congrArg Work.station (rampTest_step hst hr created h last)).trans (deliverStep_station e i st r k s _ w)
  · exact (congrArg Work.station (changeover_unset st m late h)).trans (postStation_station _ _ _ _)
  · exact (congrArg Work.station (changeover_ramp st m late h)).trans
      (rampTest_station_congr e _ true i (postStation_station _ _ _ _))
  · rw [pendingBegin_on hst h, List.find?_eq_none.mpr fun n hn hd =>
      none n hn (bound_beginDue_iff.mp (of_decide_eq_true hd))]
    rfl
  · have found : w.track.marks.find? (fun n => decide (n.bound = true ∧ beginDue e i st n = true)) = some n :=
      List.find?_eq_some_iff_append.mpr ⟨decide_eq_true (bound_beginDue_iff.mpr hn), before, after, hm, fun x hx =>
        Bool.not_eq_true' _ ▸ decide_eq_false fun hd => hb x hx (bound_beginDue_iff.mp hd)⟩
    rw [pendingBegin_on hst h, found]
    rfl

end Sys2Proof.Proofs
end

section
/-! SUPPORT. What a passage posts and pulses (R55, R58, R63, R64), and a pulse on a line that is high (R67). -/

namespace Sys2Proof.Machine

/-! ## A pulse (R67) -/

/-- A work with a cue line high for the pulse width. -/
def Work.raiseCue (e : Env) (c : CueLine) (w : Work) : Work := { w with cues := w.cues.set c (some (e.now + pulseWidth e)) }

section
variable {e : Env} {c : CueLine} {w : Work}

theorem pulse_low (h : w.cues[c] = none) : pulse e c w = w.raiseCue e c := by
  simp only [pulse, h, Work.raiseCue]

theorem pulse_high (h : w.cues[c] ≠ none) : pulse e c w = raiseAlarm e .cueOverlap (.cueLine c) (w.raiseCue e c) := by
  obtain ⟨ends, hends⟩ := Option.ne_none_iff_exists'.mp h
  simp only [pulse, hends, Work.raiseCue]

end

/-! ## The slitter pair (R64) -/

theorem mem_slitterStations {e : Env} {k : StationIx} :
    k ∈ slitterStations e ↔ ∃ x, e.stations[k] = some x ∧ x.kind = .slitter := by
  unfold slitterStations stationsOfKind
  simp only [List.mem_map, List.mem_filterMap, mem_allStations, true_and]
  constructor
  · rintro ⟨p, ⟨i, hp⟩, rfl⟩
    split at hp
    · next x hx =>
      obtain ⟨hkind, heq⟩ := Option.ite_none_right_eq_some.mp hp
      obtain rfl := Option.some.inj heq
      exact ⟨x, hx, hkind⟩
    · cases hp
  · rintro ⟨x, hx, hkind⟩
    exact ⟨(k, x), ⟨k, by simp only [hx, hkind, if_true]⟩, rfl⟩

theorem swapping_iff {w : Work} {a j : Nat} : swapping w a j = true ↔ a = 0 ∨ w.seq.scope a j ≠ .knife := by
  simp [swapping]

/-- Whether a mark has begun at a SLITTER station other than `i`. -/
def beganAtOther (e : Env) (i : StationIx) (m : Mark) : Bool :=
  (slitterStations e).any fun k => k != i && m.beginPassed[k.val]

theorem beganAtOther_iff {e : Env} {i : StationIx} {m : Mark} : beganAtOther e i m = true ↔
    ∃ k : StationIx, k ≠ i ∧ (∃ x, e.stations[k] = some x ∧ x.kind = .slitter) ∧ m.beginPassed[k.val] = true := by
  simp only [beganAtOther, List.any_eq_true, mem_slitterStations, Bool.and_eq_true, bne_iff_ne]
  constructor
  · rintro ⟨k, hk, hne, hm⟩
    exact ⟨k, hne, hk, hm⟩
  · rintro ⟨k, hne, hk, hm⟩
    exact ⟨k, hk, hne, hm⟩

/-- A work with its slitters exchanged. -/
def Work.swapSlitters (w : Work) : Work := { w with station := { w.station with slitters := w.station.slitters.swap } }

/-- The value of a slitter changeover's notice, by the slitter that becomes active. -/
def Slitter.noticeValue : Slitter → Nat
  | .a => 0
  | .b => 1

/-- The notice of a slitter changeover, from the pair after the swap. -/
def swapNotice (i : StationIx) (m : Mark) (j : Nat) (late : Bool) (p : SlitterPair) : StationBody :=
  ⟨i, m.tag, .change, .begins, none, p.active.noticeValue, late, some j, some ⟨p.loaded p.active, setupMatch p j⟩⟩

theorem swapNotice_to_b {i : StationIx} {m : Mark} {j : Nat} {late : Bool} {p : SlitterPair} (h : p.active = .a) :
    swapNotice i m j late p.swap = ⟨i, m.tag, .change, .begins, none, 1, late, some j,
      some ⟨p.loadedB, decide (p.loadedB = some j) && p.confirmedB⟩⟩ := by
  simp only [swapNotice, setupMatch, SlitterPair.swap, h, Slitter.noticeValue, SlitterPair.loaded, SlitterPair.confirmed,
    beq_eq_decide]

theorem swapNotice_to_a {i : StationIx} {m : Mark} {j : Nat} {late : Bool} {p : SlitterPair} (h : p.active = .b) :
    swapNotice i m j late p.swap = ⟨i, m.tag, .change, .begins, none, 0, late, some j,
      some ⟨p.loadedA, decide (p.loadedA = some j) && p.confirmedA⟩⟩ := by
  simp only [swapNotice, setupMatch, SlitterPair.swap, h, Slitter.noticeValue, SlitterPair.loaded, SlitterPair.confirmed,
    beq_eq_decide]

section
variable {e : Env} {i : StationIx} {m : Mark} {w : Work} {a j : Nat} (st : Station) (late : Bool)

/-- A change that does not swap, or has swapped at the other slitter, does nothing at a SLITTER station. -/
theorem slitterChange_idle (h : ¬swapping w a j = true ∨ beganAtOther e i m = true) :
    slitterChange e i st m a j late w = w := by
  rcases h with h | h
  · exact if_pos (by rw [Bool.eq_false_of_not_eq_true h]; rfl)
  · exact ite_eq_left_iff.mpr fun _ => if_pos h

/-- The first begin of a swapping change at the slitters. -/
theorem slitterChange_swaps (hs : swapping w a j = true) (hd : ¬beganAtOther e i m = true) :
    slitterChange e i st m a j late w =
      pulseStation e st (postStation e st (swapNotice i m j late w.station.slitters.swap) w.swapSlitters) := by
  unfold slitterChange
  rw [if_neg (by rw [hs]; decide)]
  exact if_neg hd

end

/-! ## The begin of a change, by the kind of its station (R58) -/

section
variable {e : Env} {i : StationIx} {st : Station} {m : Mark} {late : Bool} {w : Work}

theorem beginPassage_mark (h : m.pair? = none) : beginPassage e i st m late w = markNotice e i st m .begins w := by
  simp only [beginPassage, h]

variable {a j : Nat} (h : m.pair? = some (a, j))
include h

theorem beginPassage_passive (hk : st.kind ∈ [.gate, .stacker, .inspect]) : beginPassage e i st m late w = w := by
  simp only [List.mem_cons, List.not_mem_nil, or_false] at hk
  rcases hk with hk | hk | hk <;> simp only [beginPassage, h, changeBegin, hk]

theorem beginPassage_setpoint (hk : st.kind ∈ [.preheat, .glue, .heat, .generic]) :
    beginPassage e i st m late w = changeover e i st m j late w := by
  simp only [List.mem_cons, List.not_mem_nil, or_false] at hk
  rcases hk with hk | hk | hk | hk <;> simp only [beginPassage, h, changeBegin, hk]

theorem beginPassage_slitter (hk : st.kind = .slitter) :
    beginPassage e i st m late w = slitterChange e i st m a j late w := by
  simp only [beginPassage, h, changeBegin, hk]

theorem beginPassage_knife (hk : st.kind = .knife) {o : Order} (ho : w.seq.find j = some o) :
    beginPassage e i st m late w = switchSchedule e m.start a j m.lateFlag (pulseStation e st (postStation e st
      ⟨i, m.tag, .change, .begins, none, o.given.length, late, some j, none⟩ w)) := by
  simp only [beginPassage, h, changeBegin, hk, knifeChangeover, ho, Option.map_some, Option.getD_some]

end

/-- Settles O48: a pulse by `pulse_low` and `pulse_high`, the begin of a change by the kind of its station, and a ramp step by
`rampTest_step`. -/
theorem passageEffects : Obligations.PassageEffects := by
  refine ⟨fun e i st m late w => ⟨fun _ => rfl, fun _ => rfl, beginPassage_mark, fun a j hp =>
      ⟨beginPassage_passive hp, fun hk o ho => beginPassage_knife hp hk ho, fun hk idle => ?_, fun hk hs hd ha => ?_,
        fun hk hs hd hb => ?_, fun hk => ⟨fun hv => ?_, fun hv => ?_⟩⟩,
      fun limit created r hst hr k s h last => rampTest_step hst hr created h last⟩,
    fun e c w => ⟨pulse_low, fun h => ⟨pulse_high h, ?_⟩⟩⟩
  · exact (beginPassage_slitter hp hk).trans
      (slitterChange_idle st late (idle.imp (mt swapping_iff.mp) beganAtOther_iff.mpr))
  · rw [beginPassage_slitter hp hk, slitterChange_swaps st late (swapping_iff.mpr hs) (mt beganAtOther_iff.mp hd),
      swapNotice_to_b ha]
    rfl
  · rw [beginPassage_slitter hp hk, slitterChange_swaps st late (swapping_iff.mpr hs) (mt beganAtOther_iff.mp hd),
      swapNotice_to_a hb]
    rfl
  · exact (beginPassage_setpoint hp hk).trans (changeover_unset st m late hv)
  · exact (beginPassage_setpoint hp hk).trans (changeover_ramp st m late hv)
  · exact pulse_high h ▸ raiseAlarm_hasAlarm e _ _ _

end Sys2Proof.Machine
end

section
/-! SUPPORT. STAND_SET (R74): its answers, and the settings it takes into force; and the level rule (R75). -/

namespace Sys2Proof.Machine

/-! ## The level rule (R75) -/

theorem ReelLevel.rank_injective {a b : ReelLevel} (h : a.rank = b.rank) : a = b := by
  cases a <;> cases b <;> simp [ReelLevel.rank] at h ⊢

theorem ReelLevel.rank_le (l : ReelLevel) : l.rank ≤ 4 := by cases l <;> decide

/-- A level below another has a next higher one. -/
theorem ReelLevel.rank_up {a b : ReelLevel} (h : a.rank < b.rank) : a.up.rank = a.rank + 1 := by
  cases a
  case normal => exact absurd h (Nat.not_lt.mpr b.rank_le)
  all_goals rfl

section
variable (c : StandSettings) (u : Nat)

theorem rawLevel_empty (h : u = 0) : rawLevel c u = .empty := if_pos h

section
variable {c u} (h0 : 0 < u)
include h0

theorem rawLevel_last (h : u ≤ c.last) : rawLevel c u = .last := by
  rw [rawLevel, if_neg h0.ne', if_pos h]

theorem rawLevel_arm (hl : c.last < u) (h : u ≤ c.arm) : rawLevel c u = .arm := by
  rw [rawLevel, if_neg h0.ne', if_neg hl.not_ge, if_pos h]

theorem rawLevel_warn (hl : c.last < u) (ha : c.arm < u) (h : u ≤ c.warn) : rawLevel c u = .warn := by
  rw [rawLevel, if_neg h0.ne', if_neg hl.not_ge, if_neg ha.not_ge, if_pos h]

theorem rawLevel_normal (hl : c.last < u) (ha : c.arm < u) (h : c.warn < u) : rawLevel c u = .normal := by
  rw [rawLevel, if_neg h0.ne', if_neg hl.not_ge, if_neg ha.not_ge, if_neg h.not_ge]

end

/-- What a rise from a level towards the raw level comes to (R75): it passes each level whose bound and the hysteresis the
length exceeds, and stops at the first other one, or at the raw level. -/
structure Risen (raw from_ to_ : ReelLevel) : Prop where
  lower : from_.rank ≤ to_.rank
  upper : to_.rank ≤ raw.rank
  passed : ∀ x : ReelLevel, from_.rank ≤ x.rank → x.rank < to_.rank → levelBound c x + c.hysteresis < u
  stops : to_ = raw ∨ u ≤ levelBound c to_ + c.hysteresis

/-- With as many steps as there are levels to the raw one, a rise is whole. -/
theorem riseLevel_risen (raw : ReelLevel) : ∀ (n : Nat) {l : ReelLevel}, l.rank ≤ raw.rank → raw.rank ≤ l.rank + n →
    Risen c u raw l (riseLevel c u raw n l)
  | 0, l, hl, hn => ⟨le_refl _, hl, fun _ h h' => absurd h' h.not_gt, .inl (ReelLevel.rank_injective (le_antisymm hl hn))⟩
  | n + 1, l, hl, hn => by
    unfold riseLevel
    split
    · next step =>
      have up := ReelLevel.rank_up step.1
      have rest := riseLevel_risen raw n (l := l.up) (by omega) (by omega)
      refine ⟨by have := rest.lower; omega, rest.upper, fun x h h' => ?_, rest.stops⟩
      rcases Nat.lt_or_eq_of_le h with above | here
      · exact rest.passed x (by omega) h'
      · exact ReelLevel.rank_injective here ▸ step.2
    · next stay =>
      refine ⟨le_refl _, hl, fun _ h h' => absurd h' h.not_gt, ?_⟩
      rcases Nat.lt_or_eq_of_le hl with below | reached
      · exact .inr (Nat.not_lt.mp fun h => stay ⟨below, h⟩)
      · exact .inl (ReelLevel.rank_injective reached)

theorem nextLevel_falls {held : ReelLevel} (h : (rawLevel c u).rank ≤ held.rank) : nextLevel c u held = rawLevel c u :=
  if_pos h

theorem nextLevel_rises {held : ReelLevel} (h : held.rank < (rawLevel c u).rank) :
    Risen c u (rawLevel c u) held (nextLevel c u held) := by
  rw [show nextLevel c u held = riseLevel c u (rawLevel c u) 4 held from if_neg h.not_ge]
  exact riseLevel_risen c u _ 4 h.le ((rawLevel c u).rank_le.trans (Nat.le_add_left 4 _))

end

/-! ## STAND_SET (R74) -/

theorem settingsAccepted_iff {c : StandSettings} {l : List TableSetting} :
    settingsAccepted c l = true ↔ l ≠ [] ∧ (l.map TableSetting.field).Nodup ∧ (∀ x ∈ l, standSettingOk x = true) ∧
      (candidateSettings c l).arm ≤ (candidateSettings c l).warn ∧
      (candidateSettings c l).last ≤ (candidateSettings c l).arm := by
  simp only [settingsAccepted, namesDistinct_iff, StandSettings.thresholdsOk, Bool.and_eq_true, Bool.not_eq_true',
    List.isEmpty_eq_false_iff, List.all_eq_true, decide_eq_true_eq, and_assoc]

theorem any_namesLevel_iff {l : List TableSetting} :
    l.any namesLevel = true ↔ ∃ x ∈ l, 6 ≤ x.field ∧ x.field ≤ 9 := by
  simp only [List.any_eq_true, namesLevel, Bool.and_eq_true, decide_eq_true_eq]

theorem getNat_byte (n : Byte) (rest : List Byte) : getNat 1 (n :: rest) = some (n.toNat, rest) := by simp [getNat]

section
variable {e : Env} {w : Work}

/-- A body of no settings that can be read is RANGE (log entry 13). -/
theorem applyStandSet_unread {body : List Byte}
    (h : ∀ n fields, body = n :: fields → getSettings standWidths fields = none) :
    applyStandSet e w body = refuse .range e w := by
  cases body with
  | nil => rfl
  | cons n fields =>
    simp only [applyStandSet, getNat_byte, h n fields rfl]
    cases standOf n.toNat <;> rfl

variable {n : Byte} {fields : List Byte} {l : List TableSetting} (hl : getSettings standWidths fields = some l)

theorem applyStandSet_range (h : 5 ≤ n.toNat) : applyStandSet e w (n :: fields) = refuse .range e w := by
  simp only [applyStandSet, getNat_byte, standOf_none h]

include hl

/-- STAND_SET of a stand: its settings are taken into force where they are accepted. -/
theorem applyStandSet_stand {k : Stand} (hn : n.toNat = k.val) :
    applyStandSet e w (n :: fields) =
      if settingsAccepted e.settings[k] l then
        answerOk (acceptSettings e k l w).1 (acceptSettings e k l w).2
      else refuse .range e w := by
  simp only [applyStandSet, getNat_byte, hn, standOf_val, hl]

end

section
variable {e : Env} {k : Stand} {l : List TableSetting} {w : Work}

/-- Settings taken into force evaluate the level only where a threshold or the hysteresis is named (R74). -/
theorem acceptSettings_unnamed (h : ¬l.any namesLevel = true) :
    (acceptSettings e k l w).2 = evalFire (acceptSettings e k l w).1 false k (w.updStand k StandRec.rephase) := by
  simp only [acceptSettings, if_neg h]

theorem acceptSettings_named (h : l.any namesLevel = true) :
    (acceptSettings e k l w).2 = evalStand (acceptSettings e k l w).1 k false w := by
  simp only [acceptSettings, if_pos h, evalStand]

/-- What settings taken into force change of the blocks. -/
theorem acceptSettings_stand (hw : w.calm) : StandFrame k w (acceptSettings e k l w).2 := by
  by_cases h : l.any namesLevel = true
  · rw [acceptSettings_named h]
    exact evalStand_stand _ k false hw
  · have rephased := rephase_stand k w
    rw [acceptSettings_unnamed h]
    exact rephased.trans (evalFire_stand _ false k (rephased.calm hw))

theorem acceptSettings_level_kept (h : ¬l.any namesLevel = true) :
    (acceptSettings e k l w).2.stands[k].level = w.stands[k].level := by
  rw [acceptSettings_unnamed h, evalFire_level, Work.updStand_self, StandRec.rephase_level]

/-- A level evaluated with settings taken into force: what the rule gives for the usable length, from the level held (R74,
R75). -/
theorem acceptSettings_level_some {u : Nat} (h : l.any namesLevel = true) (hu : e.usable k w.stands[k].running = some u) :
    (acceptSettings e k l w).2.stands[k].level = nextLevel (candidateSettings e.settings[k] l) u w.stands[k].level := by
  have usable : (acceptSettings e k l w).1.usable k w.stands[k].running = some u := hu
  have inForce : (acceptSettings e k l w).1.settings[k] = candidateSettings e.settings[k] l := by simp [acceptSettings]
  rw [acceptSettings_named h, evalStand_level, evalLevel_level_some false usable, if_neg Bool.false_ne_true, inForce]

theorem acceptSettings_level_none (h : l.any namesLevel = true) (hu : e.usable k w.stands[k].running = none) :
    (acceptSettings e k l w).2.stands[k].level = .normal := by
  have usable : (acceptSettings e k l w).1.usable k w.stands[k].running = none := hu
  rw [acceptSettings_named h, evalStand_level, evalLevel_level_none false usable]

end

/-- Settles O27: the answers by the `applyStandSet_` lemmas, the settings in force by the `acceptSettings_` lemmas, and the
level rule by the `rawLevel_` and `nextLevel_` lemmas. -/
theorem standSetRequest : Obligations.StandSetRequest := by
  refine ⟨fun s p q rest body head hw h => ?_, fun s p q rest n fields l head hl hw => ⟨fun hn => ?_, ?_⟩,
    fun c u => ⟨rawLevel_empty c u, rawLevel_last, rawLevel_arm, rawLevel_warn, rawLevel_normal⟩, ?_⟩
  · exact congrArg _ (applyHead_refused applyStandSet .range head hw (applyStandSet_unread h))
  · exact congrArg _ (applyHead_refused applyStandSet .range head hw.atRest (applyStandSet_range hn))
  · intro k hn r c legal named
    have answer := applyStandSet_stand (e := popped s.env p rest) (w := s.work) hl hn
    have accepted : settingsAccepted s.env.settings[k] l = true ↔ legal := settingsAccepted_iff
    have named_iff : l.any namesLevel = true ↔ named := any_namesLevel_iff
    refine ⟨fun h => ?_, fun h => ?_⟩
    · exact congrArg _ (applyHead_refused applyStandSet .range head hw.atRest
        (answer.trans (if_neg fun x => h (accepted.mp x))))
    · have frame := acceptSettings_stand (e := popped s.env p rest) (k := k) (l := l) hw
      refine ⟨_, congrArg Host.Outcome.next (applyHead_calm head (answer.trans (if_pos (accepted.mpr h)))
        (frame.calm hw)), rfl, rfl, frame, fun h => acceptSettings_level_kept fun x => h (named_iff.mp x), fun h => ?_⟩
      cases hu : s.env.usable k r.running with
      | none => exact acceptSettings_level_none (named_iff.mpr h) hu
      | some u => exact acceptSettings_level_some (named_iff.mpr h) hu
  · intro c u held raw new
    refine ⟨nextLevel_falls c u, fun h => ?_⟩
    obtain ⟨lower, upper, passed, stops⟩ := nextLevel_rises c u h
    exact ⟨lower, upper, passed, stops⟩

end Sys2Proof.Machine
end

section
/-! SUPPORT. The results of a proposal: the combined result and what forming it does (R119, R123), and the internal responder
(R69, R118). -/

namespace Sys2Proof.Machine

/-! ## The combined result (R119) -/

section
variable {l : List Partial}

theorem combined_refuse (h : .refuse ∈ l) : combined .dry l = .refused ∧ combined .line l = .refused := by
  simp [combined, h]

theorem combined_widen (h : .refuse ∉ l) (hw : .widen ∈ l) :
    combined .dry l = .widened ∧ combined .line l = .deferred := by
  simp [combined, h, hw]

theorem combined_notReady (h : .refuse ∉ l) (hw : .widen ∉ l) (hn : .notReady ∈ l) :
    combined .dry l = .deferred ∧ combined .line l = .deferred := by
  simp [combined, h, hw, hn]

theorem combined_ready (h : .refuse ∉ l) (hw : .widen ∉ l) (hn : .notReady ∉ l) :
    combined .dry l = .committed ∧ combined .line l = .committed := by
  simp [combined, h, hw, hn]

end

/-! ## A notice posted while the return list has room (R147, R157) -/

theorem coalesce_prop (w : Work) (dest : Option Port) (b : NoticeBody) (n : Nat) : (coalesce w dest b n).prop = w.prop := by
  unfold coalesce
  split <;> rfl

theorem tryDirected_prop {e : Env} {n : Notice} {dest : Option Port} {w w' : Work}
    (h : tryDirected e n dest w = some w') : w'.prop = w.prop := by
  unfold tryDirected at h
  split at h
  · cases h
  · split at h
    · cases h
    · split at h
      · cases h
        exact coalesce_prop _ _ _ _
      · split at h
        · cases h
          rfl
        · cases h

section
variable {w : Work} (room : w.notices.returned.length < 8)
include room

theorem walkFrom_kept (e : Env) (n : Notice) (start : Option Port) (lap : Bool) (first : Port) :
    (walkFrom e n start lap first w).1.prop = w.prop ∧ (walkFrom e n start lap first w).2 = none := by
  unfold walkFrom
  split
  · exact ⟨rfl, rfl⟩
  · rw [enterReturn_room room]
    exact ⟨rfl, rfl⟩

/-- A notice is placed, or finds room on the return list: none is dropped, and the proposals stay as they are. -/
theorem place_kept (e : Env) (n : Notice) : (place e n w).1.prop = w.prop ∧ (place e n w).2 = none := by
  unfold place
  split
  · split
    · next h => exact ⟨tryDirected_prop h, rfl⟩
    · rw [enterReturn_room room]
      exact ⟨rfl, rfl⟩
  · exact walkFrom_kept room e n _ _ _

theorem postOnce_kept (e : Env) (b : NoticeBody) (source : Option Port) :
    (postOnce e b source w).1.prop = w.prop ∧ (postOnce e b source w).2 = none := by
  unfold postOnce
  dsimp only
  split
  · exact ⟨coalesce_prop _ _ _ _, rfl⟩
  · next h =>
    obtain ⟨prop, none⟩ := place_kept (w := { w with notices := { w.notices with
      postCount := w.notices.postCount + 1
      nextTag := succTag (assignTag (w.notices.all.map Notice.tag) w.notices.nextTag) } }) room e
      ⟨assignTag (w.notices.all.map Notice.tag) w.notices.nextTag, e.classes[b.cls.index].priority,
        deliveryOf e b.cls source, b, w.notices.postCount⟩
    rw [← Prod.mk.eta (p := place e _ _), none]
    exact ⟨prop, rfl⟩

/-- A posting drops no notice, and leaves the proposals as they are. -/
theorem post_prop (e : Env) (b : NoticeBody) (source : Option Port) : (post e b source w).prop = w.prop := by
  obtain ⟨prop, none⟩ := postOnce_kept room e b source
  have posted : post e b source w = (postOnce e b source w).1 := by
    unfold post Config.dropBound
    rw [postChain]
    split
    · next h => rw [h]
    · next h => rw [h] at none; cases none
  rw [posted, prop]

end

/-! ## A result formed (R119, R123) -/

/-- At the deadline a PENDING response, and no other, becomes NOT_READY. -/
theorem atDeadline_eq (x : Option Partial) : atDeadline x = if x = some .pending then some .notReady else x := by
  unfold atDeadline
  split
  · rfl
  · next h => rw [if_neg h]

/-- The result that a record comes to: the internal responder answers, and a response still PENDING counts as NOT_READY. -/
def resultOf (e : Env) (w : Work) (y : Proposal) : Result :=
  combined y.scope ((internalAnswer e w y).toList ++ (atDeadline y.dry).toList ++ (atDeadline y.wet).toList)

/-- The record that its result is formed in. -/
def formedRecord (e : Env) (w : Work) (y : Proposal) : Proposal :=
  { y with
    internal := internalAnswer e w y
    dry := atDeadline y.dry
    wet := atDeadline y.wet
    status := .decided (resultOf e w y) false }

/-- The blocks with a result formed in its record, and the untaken PROPOSAL notices of the issue removed. -/
def formedWork (e : Env) (w : Work) (y : Proposal) : Work :=
  removeUntaken y.tag (w.updProposal y.tag fun _ => formedRecord e w y)

/-- The deferrals that the RESULT notice gives. -/
def deferralsTold (e : Env) (w : Work) (y : Proposal) : Nat :=
  if resultOf e w y = .deferred then y.deferrals + 1 else y.deferrals

section
variable {e : Env} {y : Proposal} {w : Work}

/-- A result formed is posted, and no more where it is not WIDENED. -/
theorem formResult_decided (h : resultOf e w y ≠ .widened) :
    formResult e y w = postResult e y (resultOf e w y) (deferralsTold e w y) false (formedWork e w y) := if_neg h

/-- A WIDENED result is issued again at once under scope LINE (R123). -/
theorem formResult_widened (h : resultOf e w y = .widened) :
    formResult e y w =
      issue e y.tag .line (postResult e y (resultOf e w y) (deferralsTold e w y) false (formedWork e w y)) := if_pos h

theorem formedWork_pairOf : (formedWork e w y).pairOf y.changeTag = w.pairOf y.changeTag := rfl

theorem postResult_pair {x : Work} {i j : Nat} (h : x.pairOf y.changeTag = some (i, j)) (r : Result) (n : Nat)
    (stalled : Bool) :
    postResult e y r n stalled x = post e (.result ⟨y.tag, y.changeTag, i, j, r, n, stalled⟩) none x := by
  simp only [postResult, h]

/-- A RESULT notice posted while the return list has room leaves the proposals as they are. -/
theorem postResult_prop {x : Work} (room : x.notices.returned.length < 8) (r : Result) (n : Nat) (stalled : Bool) :
    (postResult e y r n stalled x).prop = x.prop := by
  unfold postResult
  split
  · rfl
  · exact post_prop room e _ none

theorem formedWork_returned : (formedWork e w y).notices.returned.length ≤ w.notices.returned.length :=
  List.length_filter_le _ _

/-- Where no notice is dropped the record alone is changed, and is the one the result is formed in. -/
theorem formResult_list (h : resultOf e w y ≠ .widened) (room : w.notices.returned.length < 8) :
    (formResult e y w).prop.list = w.prop.list.map fun z => if z.tag = y.tag then formedRecord e w y else z := by
  rw [formResult_decided h, postResult_prop (lt_of_le_of_lt formedWork_returned room)]
  rfl

end

/-! ## The expiry of the deadline (R119) -/

section
variable {s : State} {g : Nat} {y : Proposal}

theorem execProposalDeadlineExpiry_gone (h : s.work.proposal g = none) : exec (.proposalDeadlineExpiry g) s = .next s := by
  simp only [exec, execProposalDeadlineExpiry, h]

theorem Proposal.collecting_eq_false (h : y.collecting = false) : ∀ x, y.status ≠ .collecting x := fun x hx => by
  simp [Proposal.collecting, hx] at h

theorem execProposalDeadlineExpiry_past (hy : s.work.proposal g = some y) (h : y.collecting = false) :
    exec (.proposalDeadlineExpiry g) s = .next s := by
  simp only [exec, execProposalDeadlineExpiry, hy]
  split
  · next x hx => exact absurd hx (Proposal.collecting_eq_false h x)
  · rfl
  · rfl

theorem execProposalDeadlineExpiry_collecting {x : Nat} (hy : s.work.proposal g = some y) (h : y.status = .collecting x) :
    exec (.proposalDeadlineExpiry g) s = .next (s.finish (s.env.reach x, formResult (s.env.reach x) y s.work)) := by
  simp only [exec, execProposalDeadlineExpiry, hy, h]

end

/-! ## Suiting (R69) -/

theorem Reel.suits_iff {x : Reel} {grade width : Nat} :
    x.suits grade width = true ↔ x.grade = grade ∧ x.grade ≠ 0 ∧ x.width = width := by
  simp [Reel.suits, and_assoc]

theorem reelSuits_iff {w : Work} {k : Stand} {x : Reel} {j : Nat} :
    reelSuits w k x j = true ↔
      ∃ o, w.seq.find j = some o ∧ x.grade = o.given.grade k ∧ x.grade ≠ 0 ∧ x.width = o.given.width := by
  unfold reelSuits
  split
  · next o ho => simp only [Reel.suits_iff, ho, Option.some.injEq, exists_eq_left']
  · next ho => simp [ho]

theorem runningSuits_iff {w : Work} {k : Stand} {z : Running} {j : Nat} :
    runningSuits w k z j = true ↔ ∃ v a, z = .reel v a ∧ reelSuits w k v j = true := by
  cases z <;> simp [runningSuits]

/-! ## The internal responder (R118) -/

theorem slitterReady_iff {w : Work} {j : Nat} :
    slitterReady w j = true ↔ w.station.slitters.loaded w.station.slitters.active.other = some j ∧
      w.station.slitters.confirmed w.station.slitters.active.other = true := by
  simp only [slitterReady, Bool.and_eq_true, beq_iff_eq]

theorem slitsDiffer_iff {w : Work} {i j : Nat} :
    slitsDiffer w i j = true ↔ ∃ a b, w.seq.find i = some a ∧ w.seq.find j = some b ∧
      (a.given.slits ≠ b.given.slits ∨ a.given.score ≠ b.given.score) := by
  unfold slitsDiffer
  split
  · next a b ha hb => simp [ha, hb]
  · next h =>
    simp only [Bool.false_eq_true, false_iff]
    exact fun ⟨a, b, ha, hb, _⟩ => h a b ha hb

theorem standReady_iff {e : Env} {w : Work} {m : Mark} {j : Nat} {k : Stand} :
    standReady e w m j k = true ↔ runningSuits w k w.stands[k].running j = true ∨
      (w.stands[k].enable = true ∧ (∃ x, w.stands[k].ready = some x ∧ reelSuits w k x j = true) ∧
        w.stands[k].requirement = none ∧
        e.splicerReach k + e.lead k < e.ahead (m.start.plus (-(e.table.aimOffset : Int)))) := by
  simp only [standReady, Bool.or_eq_true, Bool.and_eq_true, Option.any_eq_true, Option.isNone_iff_eq_none, and_assoc]
  rw [decide_eq_true_iff, Env.fireReach]

section
variable {e : Env} {w : Work} {y : Proposal} {m : Mark} {i j : Nat}

theorem internalAnswer_knife (h : y.scope = .knife) : internalAnswer e w y = none := by simp only [internalAnswer, h]

variable (hm : w.track.find y.changeTag = some m) (hp : m.pair? = some (i, j))
include hm hp

theorem internalAnswer_dry (h : y.scope = .dry) :
    internalAnswer e w y = some (if slitterReady w j then .ready else .notReady) := by
  simp only [internalAnswer, h, Work.pairOf, hm, Option.bind_some, hp]

theorem internalAnswer_line (h : y.scope = .line) :
    internalAnswer e w y =
      some (if (slitsDiffer w i j = true → slitterReady w j = true) ∧ ∀ k, standReady e w m j k = true
        then .ready else .notReady) := by
  have check : ((!slitsDiffer w i j || slitterReady w j) && allStands.all (standReady e w m j)) = true ↔
      (slitsDiffer w i j = true → slitterReady w j = true) ∧ ∀ k, standReady e w m j k = true := by
    rw [Bool.and_eq_true, List.all_eq_true]
    refine and_congr ?_ ⟨fun h k => h k (mem_allStands k), fun h k _ => h k⟩
    cases slitsDiffer w i j <;> simp
  simp only [internalAnswer, h, Work.pairOf, hm, Option.bind_some, hp, check]

end

/-- Settles O42: the rows of the result by the `combined_` lemmas, a result formed by the `formResult_` lemmas, the deadline by the
`execProposalDeadlineExpiry_` lemmas, and the internal responder by the `internalAnswer_` lemmas. -/
theorem proposalResults : Obligations.ProposalResults := by
  refine ⟨⟨fun l => ⟨rfl, combined_refuse, combined_widen, combined_notReady, combined_ready⟩, ?list, ?told, fun g s =>
    ⟨execProposalDeadlineExpiry_gone, fun y hy => ⟨execProposalDeadlineExpiry_past hy, fun x hx =>
      execProposalDeadlineExpiry_collecting hy hx⟩⟩⟩, ?responder⟩
  case list =>
    intro e y w close inner r h room
    have closed : atDeadline = close := funext atDeadline_eq
    have list := formResult_list (e := e) (y := y) (w := w)
    simp only [formedRecord, resultOf, closed] at list
    exact list h room
  case told =>
    intro e y w i j hp close inner r formed count told
    have closed : atDeadline = close := funext atDeadline_eq
    have decided := formResult_decided (e := e) (y := y) (w := w)
    have widened := formResult_widened (e := e) (y := y) (w := w)
    rw [postResult_pair (x := formedWork e w y) hp] at decided widened
    simp only [formedWork, formedRecord, deferralsTold, resultOf, closed] at decided widened
    exact ⟨decided, widened⟩
  case responder =>
    intro e w y m i j hm hp pair slitter stands differs answers
    have slitter_iff : slitterReady w j = true ↔ slitter := by
      rw [slitterReady_iff]
      unfold slitter
      cases pair.active <;> rfl
    have stands_iff : (∀ k, standReady e w m j k = true) ↔ stands := forall_congr' fun k => standReady_iff
    have answer : ∀ {c ready : Prop} [Decidable c], (c ↔ ready) →
        internalAnswer e w y = some (if c then .ready else .notReady) → answers ready := fun iff eq =>
      ⟨fun h => eq.trans (congrArg some (if_pos (iff.mpr h))),
        fun h => eq.trans (congrArg some (if_neg fun x => h (iff.mp x)))⟩
    exact ⟨internalAnswer_knife, fun h => answer slitter_iff (internalAnswer_dry hm hp h),
      fun h => answer (and_congr (imp_congr slitsDiffer_iff slitter_iff) stands_iff) (internalAnswer_line hm hp h),
      fun k x => ⟨reelSuits_iff, fun z => runningSuits_iff⟩⟩

end Sys2Proof.Machine
end

section
/-! SUPPORT. The stands through the entry and the close of a mark (R34, R37, R40): an announcement and an evaluation in which no
change arrives leave every stand as it was. -/

namespace Sys2Proof.Machine

/-! ## Notices, alarms and cues -/

@[simp] theorem post_stands (e : Env) (b : NoticeBody) (src : Option Port) (w : Work) :
    (post e b src w).stands = w.stands := (post_frame e b src w).stands

@[simp] theorem raiseAlarm_stands (e : Env) (k : AlarmKind) (x : Subject) (w : Work) :
    (raiseAlarm e k x w).stands = w.stands := (raiseAlarm_frame e k x w).stands

/-- A fold whose every step leaves the stands alone leaves them alone. -/
theorem foldl_stands {α : Type} {f : Work → α → Work} (h : ∀ w x, (f w x).stands = w.stands) (l : List α) (w : Work) :
    (l.foldl f w).stands = w.stands :=
  List.foldlRecOn (motive := fun x => x.stands = w.stands) l f rfl fun x hx a _ => (h x a).trans hx

theorem iterate_stands {f : Work → Work} (h : ∀ w, (f w).stands = w.stands) (n : Nat) (w : Work) :
    (f^[n] w).stands = w.stands := by
  induction n generalizing w with
  | zero => rfl
  | succ n ih => exact (ih (f w)).trans (h w)

/-! ## Announcements (R37, R39, R107, R125, R142) -/

theorem withdrawFor_stands (g : Nat) (w : Work) : (withdrawFor g w).stands = w.stands := by
  unfold withdrawFor
  split
  · rfl
  · next p _ =>
    exact (removeUntaken_frame p.tag
      { w with prop := { w.prop with list := w.prop.list.filter fun x => x.changeTag != g } }).stands

section
variable {a : Work → Work} (ha : ∀ w, (a w).stands = w.stands)
include ha

theorem removeChange_stands (w : Work) (g : Nat) : (removeChange a w g).stands = w.stands := by
  unfold removeChange
  split
  · rfl
  · split
    · rfl
    · split
      · exact (ha _).trans (withdrawFor_stands g w)
      · rfl

theorem removeChanges_stands (tags : List Nat) (w : Work) : (removeChanges a tags w).stands = w.stands :=
  (foldl_stands (removeChange_stands ha) _ _).trans (foldl_stands (fun w g => withdrawFor_stands g w) _ w)

omit ha in
/-- Marks placed again, one by one: a move touches the track and the orders of its pair (R107). -/
theorem placeMarks_stands (e : Env) : ∀ (tags : List Nat) (n : Nat) (w : Work),
    (placeMarks e tags n w).work.stands = w.stands
  | [], _, _ => rfl
  | g :: rest, n, w => by
    rcases placeMarks_cases e g rest n w with h | h | ⟨i, j, p, w', moved, h⟩ <;> rw [h]
    · exact placeMarks_stands e rest n w
    · obtain ⟨t, _, rfl⟩ := Option.map_eq_some_iff.mp moved
      exact placeMarks_stands e rest (n + 1) _

theorem placeAll_stands (e : Env) (tags : List Nat) (w : Work) : (placeAll e a tags w).stands = w.stands :=
  ((iterate_stands ha _ _).trans (removeChanges_stands ha _ _)).trans (placeMarks_stands e tags 0 w)

theorem moveOrder_stands (e : Env) (i c : Nat) (w : Work) : (moveOrder e a i c w).1.stands = w.stands := by
  unfold moveOrder
  split
  · rfl
  · split
    · rfl
    · split
      · exact placeAll_stands ha e _ _
      · exact placeAll_stands ha e _ _
      · rfl

omit ha in
theorem deficitTaken_stands (e : Env) (g : Nat) (x : Work × MoveAnswer) : (deficitTaken e g x).stands = x.1.stands := by
  unfold deficitTaken raiseShort
  repeat' split
  all_goals simp

theorem recomputePass_stands (e : Env) : ∀ (tags : List Nat) (w : Work), (recomputePass e a tags w).stands = w.stands
  | [], _ => rfl
  | g :: rest, w => by
    rcases recomputePass_cases e a g rest w with h | ⟨f, h⟩ | ⟨f, c, h⟩ <;> rw [h, recomputePass_stands e rest]
    · rfl
    · rw [deficitTaken_stands, moveOrder_stands ha]
      rfl

end

theorem announce_stands (e : Env) (w : Work) : (announce e w).stands = w.stands := by
  have within : ∀ (n : Nat) (w : Work), (recomputeWithin e n w).stands = w.stands := fun n => by
    induction n with
    | zero => exact fun _ => rfl
    | succ n ih => exact fun w => recomputePass_stands ih e _ w
  exact within _ w

theorem announceExtent_stands (e : Env) (m : Mark) (w : Work) : (announceExtent e m w).stands = w.stands :=
  announce_stands e { w with sheet := { w.sheet with sheets := w.sheet.sheets.map (flipSheet e m) } }

/-! ## The station unit at a passage (R58 to R64), cuts and the switch (R128, R129) -/

@[simp] theorem postStation_stands (e : Env) (st : Station) (b : StationBody) (w : Work) :
    (postStation e st b w).stands = w.stands := by
  unfold postStation
  split <;> simp

@[simp] theorem pulseStation_stands (e : Env) (st : Station) (w : Work) : (pulseStation e st w).stands = w.stands := by
  unfold pulseStation
  split <;> simp [pulse_stands]

@[simp] theorem rampTest_stands (e : Env) (before : Option Pos) (created : Bool) (w : Work) (i : StationIx) :
    (rampTest e before created w i).stands = w.stands := by
  unfold rampTest
  split
  · split
    · simp [deliverStep]
    · rfl
  · rfl

theorem changeover_stands (e : Env) (i : StationIx) (st : Station) (m : Mark) (j : Nat) (late : Bool) (w : Work) :
    (changeover e i st m j late w).stands = w.stands := by
  unfold changeover endRamp
  dsimp only
  split <;> simp

theorem slitterChange_stands (e : Env) (i : StationIx) (st : Station) (m : Mark) (k j : Nat) (late : Bool) (w : Work) :
    (slitterChange e i st m k j late w).stands = w.stands := by
  unfold slitterChange
  split
  · rfl
  · split
    · rfl
    · simp

theorem makeCuts_stands (e : Env) (limit : Option Pos) : ∀ (n : Nat) (w : Work), (makeCuts e limit n w).stands = w.stands
  | 0, _ => rfl
  | n + 1, w => by
    unfold makeCuts
    split
    · rfl
    · split
      · exact (makeCuts_stands e limit n _).trans (pulse_stands e 5 w)
      · rfl

@[simp] theorem cutTest_stands (e : Env) (limit : Option Pos) (w : Work) : (cutTest e limit w).stands = w.stands := by
  unfold cutTest
  split
  · rfl
  · exact makeCuts_stands e limit _ w

theorem switchSchedule_stands (e : Env) (t : Pos) (i j : Nat) (late : Bool) (w : Work) :
    (switchSchedule e t i j late w).stands = w.stands := by
  unfold switchSchedule
  dsimp only
  split
  all_goals simp only [cutTest_stands, Work.updTallies_stands, apply_ite Work.stands, pulse_stands, ite_self]

theorem beginPassage_stands (e : Env) (i : StationIx) (st : Station) (m : Mark) (late : Bool) (w : Work) :
    (beginPassage e i st m late w).stands = w.stands := by
  unfold beginPassage changeBegin
  split
  · split
    case h_5 => exact slitterChange_stands e i st m _ _ late w
    case h_6 => exact (switchSchedule_stands e _ _ _ _ _).trans (by simp)
    case h_7 | h_8 | h_9 => rfl
    all_goals exact changeover_stands e i st m _ late w
  · simp [markNotice]

/-! ## An evaluation in which no change arrives (R43 to R49) -/

theorem beginAt_stands (e : Env) (commit : Bool) (i : StationIx) (st : Station) (m : Mark) (w : Work) :
    (beginAt e commit i st m w).stands = w.stands := by
  unfold beginAt
  split
  · exact beginPassage_stands e i st _ commit _
  · rfl

theorem endAt_stands (e : Env) (i : StationIx) (st : Station) (m : Mark) (w : Work) :
    (endAt e i st m w).stands = w.stands := by
  unfold endAt
  split
  · simp [markNotice]
  · rfl

theorem passPoint_stands (e : Env) (commit : Bool) (n : Nat) (w : Work) (x : LinePoint) :
    (passPoint e noArrival commit n w x).stands = w.stands := by
  cases x with
  | none =>
    unfold passPoint passDatum
    dsimp only
    repeat' split
    all_goals rfl
  | some i =>
    unfold passPoint passStation
    dsimp only
    split
    · split
      · split
        · exact (endAt_stands e i _ _ _).trans (beginAt_stands e commit i _ _ w)
        · exact beginAt_stands e commit i _ _ w
      · rfl
    · rfl

theorem evaluateOne_stands (e : Env) (n : Nat) (w : Work) : (evaluateOne e n w).stands = w.stands := by
  have retired : ∀ x : Work, (retireMarks e (some n) x).stands = x.stands := fun x => by
    unfold retireMarks
    split <;> rfl
  exact (retired _).trans ((foldl_stands (fun w i => rampTest_stands e _ false w i) allStations _).trans
    (foldl_stands (passPoint_stands e false n) (linePoints e) w))

/-! ## Marks entered and closed (R34, R36, R40) -/

theorem handIn_stands (e : Env) (body : MarkBody) (s : Pos) (n : Nat) (w : Work) :
    (handIn e body s n w).1.stands = w.stands := by
  unfold handIn makeRoom
  split
  · next w1 h =>
    split at h
    · cases h
      rfl
    · unfold freeEntry at h
      split at h
      · cases h
      · cases h
        exact (announce_stands e _).trans (announceExtent_stands e _ _)
  · exact raiseAlarm_stands _ _ _ _

@[simp] theorem enterMark_stands (e : Env) (body : MarkBody) (s : Pos) (n : Nat) (w : Work) :
    (enterMark e body s n w).1.stands = w.stands := by
  have handed := handIn_stands e body s n w
  unfold enterMark
  split
  · next h =>
    rw [h] at handed
    exact ((evaluateOne_stands e _ _).trans (announceExtent_stands e _ _)).trans handed
  · next h =>
    rw [h] at handed
    exact handed

@[simp] theorem closeMismatch_stands (e : Env) (g : Nat) (p : Pos) (w : Work) :
    (closeMismatch e g p w).stands = w.stands := by
  unfold closeMismatch
  split
  · rfl
  · split
    · exact (evaluateOne_stands e _ _).trans (announceExtent_stands e _ _)
    · rfl

end Sys2Proof.Machine
end

section
/-! SUPPORT. Grade requirements and open mismatches (R88 to R92), and what of its stand a joint changes. -/

namespace Sys2Proof.Machine

/-! ## What the evaluations of a stand set (R75 to R80) -/

section
variable (e : Env) (k : Stand) (w : Work)

/-- A level that is set brings a phase with it. -/
theorem setLevel_record (l : ReelLevel) (u : Nat) :
    ∃ f, (setLevel e k l u w).stands[k] = { w.stands[k] with level := l, phase := f } := by
  unfold setLevel
  dsimp only
  split
  · next h => exact ⟨w.stands[k].phase, by simp only [h]⟩
  · obtain ⟨f, hf⟩ := rephase_eq { w.stands[k] with level := l }
    refine ⟨f, ?_⟩
    repeat' split
    all_goals simp only [raiseAlarm_stands, post_stands, Work.setStand_self, hf]

/-- An evaluation of the fire conditions changes the phase and the late-report window at most. -/
theorem evalFire_record (sudden : Bool) :
    ∃ f d, (evalFire e sudden k w).stands[k] = { w.stands[k] with phase := f, lateWindow := d } := by
  rcases evalFire_cases e sudden k w with h | ⟨_, _, h | ⟨_, _, h⟩⟩
  · exact ⟨_, _, by rw [h]⟩
  · exact ⟨_, _, by rw [h, fire_stands]⟩
  · exact ⟨_, _, by rw [h, raiseAlarm_stands, fire_stands]⟩

end

/-! ## The requirement rule (R88) -/

/-- The regions are the COMMITTED and ACTIVE marks in their places, each with the start of the next. -/
theorem regions_getElem? : ∀ (l : List Mark) (i : Nat),
    (regions l)[i]? = l[i]?.map fun m => (m, l[i + 1]?.map Mark.start)
  | [], i => by simp [regions]
  | [m], i => by cases i <;> simp [regions]
  | m :: n :: rest, 0 => by simp [regions]
  | m :: n :: rest, i + 1 => by
    rw [regions, List.getElem?_cons_succ, regions_getElem? (n :: rest) i]
    simp only [List.getElem?_cons_succ]

section
variable {e : Env} {k : Stand} {w : Work}

/-- A region that counts and is not suited by the running reel. -/
def asksFor (e : Env) (k : Stand) (w : Work) (x : Mark × Option Pos) : Bool :=
  counts e k x && unsuitedRegion w k w.stands[k].running x

theorem asksFor_iff {m : Mark} {next : Option Mark} :
    asksFor e k w (m, next.map Mark.start) = true ↔
      (∀ n, next = some n → e.splicerReach k < e.ahead n.start) ∧
        ∃ a j, m.pair? = some (a, j) ∧ runningSuits w k w.stands[k].running j = false := by
  rw [asksFor, Bool.and_eq_true]
  refine and_congr ?_ ?_
  · cases next <;> simp [counts]
  · unfold unsuitedRegion
    split
    · next a j h => simp [h]
    · next h => simp [h]

theorem find?_asksFor_eq_none
    (h : ∀ i m, w.track.boundChanges[i]? = some m →
      asksFor e k w (m, w.track.boundChanges[i + 1]?.map Mark.start) = false) :
    (regions w.track.boundChanges).find? (asksFor e k w) = none := by
  rw [List.find?_eq_none]
  intro x hx
  obtain ⟨i, hi⟩ := List.getElem?_of_mem hx
  rw [regions_getElem?, Option.map_eq_some_iff] at hi
  obtain ⟨m, hm, rfl⟩ := hi
  rw [h i m hm]
  exact Bool.false_ne_true

theorem find?_asksFor_eq_some {i : Nat} {m : Mark} (hm : w.track.boundChanges[i]? = some m)
    (asks : asksFor e k w (m, w.track.boundChanges[i + 1]?.map Mark.start) = true)
    (first : ∀ i' m', i' < i → w.track.boundChanges[i']? = some m' →
      asksFor e k w (m', w.track.boundChanges[i' + 1]?.map Mark.start) = false) :
    (regions w.track.boundChanges).find? (asksFor e k w) =
      some (m, w.track.boundChanges[i + 1]?.map Mark.start) := by
  have at_i := regions_getElem? w.track.boundChanges i
  rw [hm, Option.map_some, List.getElem?_eq_some_iff] at at_i
  obtain ⟨lt, at_i⟩ := at_i
  refine List.find?_eq_some_iff_getElem.2 ⟨asks, i, lt, at_i, fun i' hi' => ?_⟩
  have at_i' := regions_getElem? w.track.boundChanges i'
  rw [List.getElem?_eq_getElem (hi'.trans lt), eq_comm, Option.map_eq_some_iff] at at_i'
  obtain ⟨m', hm', eq⟩ := at_i'
  rw [← eq, first i' m' hi' hm']
  rfl

theorem newRequirement_of_find_none (h : (regions w.track.boundChanges).find? (asksFor e k w) = none) :
    newRequirement e w k = none := by
  unfold newRequirement
  split
  · rfl
  · next found => cases h.symm.trans found

theorem newRequirement_of_find_some {m : Mark} {next : Option Pos} {a j : Nat} {o : Order}
    (h : (regions w.track.boundChanges).find? (asksFor e k w) = some (m, next)) (hp : m.pair? = some (a, j))
    (ho : w.seq.find j = some o) :
    newRequirement e w k = some
      ⟨m.tag, ⟨m.start.val + BitVec.ofInt 32 (-(e.table.aimOffset : Int)), false⟩, o.given.grade k, o.given.width⟩ := by
  unfold newRequirement
  split
  · next found => cases h.symm.trans found
  · next found =>
    cases h.symm.trans found
    rw [hp, Option.bind_some, ho]
    rfl

theorem requirementRule_of_some (h : w.stands[k].requirement ≠ none) : requirementRule e k w = w :=
  if_pos (Option.isSome_iff_ne_none.2 h)

theorem requirementRule_of_new_none (h : newRequirement e w k = none) : requirementRule e k w = w := by
  rw [requirementRule, h]
  exact ite_self _

theorem requirementRule_of_new {q : Requirement} (h : w.stands[k].requirement = none)
    (hq : newRequirement e w k = some q) : (requirementRule e k w).stands[k].requirement = some q := by
  rw [requirementRule, h, hq]
  obtain ⟨f, d, hf⟩ := evalFire_record e k (w.updStand k fun r => { r with requirement := some q }.rephase) true
  obtain ⟨p, hp⟩ := rephase_eq { w.stands[k] with requirement := some q }
  simp only [Option.isSome_none, Bool.false_eq_true, if_false, hf, Work.updStand_self, hp]

end

/-- The requirement rule changes the requirement, the phase and the late-report window of its stand at most. -/
theorem requirementRule_stand (e : Env) (k : Stand) (w : Work) :
    ∃ q f d, (requirementRule e k w).stands[k] =
      { w.stands[k] with requirement := q, phase := f, lateWindow := d } := by
  unfold requirementRule
  split
  · exact ⟨w.stands[k].requirement, w.stands[k].phase, w.stands[k].lateWindow, rfl⟩
  split
  · exact ⟨w.stands[k].requirement, w.stands[k].phase, w.stands[k].lateWindow, rfl⟩
  · next q _ =>
    obtain ⟨f, d, hf⟩ := evalFire_record e k (w.updStand k fun r => { r with requirement := some q }.rephase) true
    obtain ⟨p, hp⟩ := rephase_eq { w.stands[k] with requirement := some q }
    exact ⟨some q, f, d, by rw [hf, Work.updStand_self, hp]⟩

theorem requirementRule_openMismatch (e : Env) (k : Stand) (w : Work) :
    (requirementRule e k w).stands[k].openMismatch = w.stands[k].openMismatch := by
  obtain ⟨q, f, d, h⟩ := requirementRule_stand e k w
  rw [h]

/-! ## Open and closed mismatches entered (R90, R91) -/

/-- A MISMATCH span of a stand stands in the track under a tag, from a position with its indication clear. -/
def Work.HasMismatch (t : Work) (k : Stand) (tag : Nat) (open_ : Bool) (start : Pos) (span : Nat) : Prop :=
  ∃ m ∈ t.track.marks, m.tag = tag ∧ m.body = .mismatch k open_ ∧ m.start = ⟨start.val, false⟩ ∧ m.span = span

/-- The tag that the next mark of the track gets. -/
def Work.newTag (w : Work) : Nat := assignTag (w.track.marks.map Mark.tag) w.track.nextTag

section
variable (e : Env) {k : Stand} {w : Work} (h : w.TrackRoom) (hm : w.track.marks.length < 192)
include h hm

/-- A MISMATCH span handed to a track with room stands there under the next tag. -/
theorem enterMark_mismatch (open_ : Bool) (p : Pos) (n : Nat) :
    ∃ w', enterMark e (.mismatch k open_) (Pos.at p.val) n w = (w', some w.newTag) ∧
      w'.HasMismatch k w.newTag open_ p n := by
  refine ⟨_, enterMark_room e h _ n hm, ?_⟩
  obtain ⟨m, mem, flagged⟩ := (put_holds e h (body := .mismatch k open_) (Pos.at p.val) n nofun).stands
  exact ⟨m, mem, flagged.tag, flagged.body, flagged.start, flagged.span⟩

theorem enterClosed_mismatch (start finish : Pos) :
    (enterClosed e k start finish w).HasMismatch k w.newTag false start (e.ahead finish - e.ahead start).toNat := by
  obtain ⟨w', eq, has⟩ := enterMark_mismatch e (k := k) h hm false start (e.ahead finish - e.ahead start).toNat
  rw [enterClosed, eq]
  exact has

theorem openAt_mismatch (p : Pos) :
    (openAt e k p w).HasMismatch k w.newTag true p 0 ∧ (openAt e k p w).stands[k].openMismatch = some w.newTag := by
  obtain ⟨w', eq, has⟩ := enterMark_mismatch e (k := k) h hm true p 0
  rw [openAt, eq]
  exact ⟨has, by simp only [Work.updStand_self]⟩

end

section
variable (e : Env) (k : Stand) (c : JointCase) (w : Work)

@[simp] theorem enterClosed_stands (start finish : Pos) : (enterClosed e k start finish w).stands = w.stands :=
  enterMark_stands ..

/-- Opening a MISMATCH changes what its stand records as open, and nothing else of the stands. -/
theorem openAt_stand (p : Pos) : ∃ g, (openAt e k p w).stands[k] = { w.stands[k] with openMismatch := g } := by
  have stands := enterMark_stands e (.mismatch k true) (Pos.at p.val) 0 w
  unfold openAt
  split
  · next entered => exact ⟨_, by rw [Work.updStand_self, ← stands, entered]⟩
  · next entered => exact ⟨w.stands[k].openMismatch, by rw [← stands, entered]⟩

/-! ## The steps of the mismatch principle on their stand (R89 to R91) -/

theorem settleOpen_stand : ∃ g, (settleOpen e k c w).1.stands[k] = { w.stands[k] with openMismatch := g } := by
  unfold settleOpen
  repeat' split
  · exact ⟨w.stands[k].openMismatch, rfl⟩
  · exact ⟨w.stands[k].openMismatch, rfl⟩
  · exact ⟨w.stands[k].openMismatch, rfl⟩
  · exact ⟨none, by rw [Work.updStand_self, closeMismatch_stands]⟩

theorem openUnsuited_stand (handed : Bool) :
    ∃ g, (openUnsuited e k c handed w).stands[k] = { w.stands[k] with openMismatch := g } := by
  unfold openUnsuited
  dsimp only
  split
  · exact openAt_stand ..
  · exact ⟨w.stands[k].openMismatch, rfl⟩

/-- The stand has a requirement that its running reel suits. -/
def StandRec.Met (r : StandRec) : Prop := ∃ q, r.requirement = some q ∧ runningMeets r.running q = true

variable {w}

theorem settleOpen_of_none (h : w.stands[k].openMismatch = none) : settleOpen e k c w = (w, false) := by
  rw [settleOpen, h]

theorem testRequirement_of_unmet (closed : Bool) (h : ¬w.stands[k].Met) :
    testRequirement e k c closed w = (w, false) := by
  unfold testRequirement
  split
  · rfl
  · next q hq => exact if_neg fun meets => h ⟨q, hq, meets⟩

theorem testRequirement_of_met (closed : Bool) {q : Requirement} (hq : w.stands[k].requirement = some q)
    (meets : runningMeets w.stands[k].running q = true) :
    testRequirement e k c closed w =
      (((closedSpan e k c closed (q.change e w) w).elim w fun x => enterClosed e k x.1 x.2 w).updStand k
        fun r => { r with requirement := none }, (closedSpan e k c closed (q.change e w) w).isSome) := by
  rw [testRequirement, hq]
  refine (if_pos meets).trans ?_
  dsimp only
  cases closedSpan e k c closed (q.change e w) w <;> rfl

theorem testRequirement_stand_of_met (closed : Bool) (h : w.stands[k].Met) :
    (testRequirement e k c closed w).1.stands[k] = { w.stands[k] with requirement := none } := by
  obtain ⟨q, hq, meets⟩ := h
  rw [testRequirement_of_met e k c closed hq meets, Work.updStand_self]
  cases closedSpan e k c closed (q.change e w) w <;> simp

/-- The three steps of the mismatch principle, each on what the one before it leaves. -/
theorem mismatchAtJoint_eq :
    mismatchAtJoint e k c w =
      openUnsuited e k c (testRequirement e k c (settleOpen e k c w).2 (settleOpen e k c w).1).2
        (testRequirement e k c (settleOpen e k c w).2 (settleOpen e k c w).1).1 := rfl

/-- The mismatch principle changes the open mismatch and the requirement of its stand at most. -/
theorem mismatchAtJoint_stand :
    ∃ g q, (mismatchAtJoint e k c w).stands[k] = { w.stands[k] with openMismatch := g, requirement := q } ∧
      (w.stands[k].Met → q = none) ∧ (¬w.stands[k].Met → q = w.stands[k].requirement) := by
  rw [mismatchAtJoint_eq]
  obtain ⟨g₁, h₁⟩ := settleOpen_stand e k c w
  have met_iff : (settleOpen e k c w).1.stands[k].Met ↔ w.stands[k].Met := by rw [h₁]; rfl
  by_cases met : w.stands[k].Met
  · have h₂ := testRequirement_stand_of_met e k c (settleOpen e k c w).2 (met_iff.2 met)
    obtain ⟨g₃, h₃⟩ := openUnsuited_stand e k c (testRequirement e k c (settleOpen e k c w).2 (settleOpen e k c w).1).1
      (testRequirement e k c (settleOpen e k c w).2 (settleOpen e k c w).1).2
    exact ⟨g₃, none, by rw [h₃, h₂, h₁], fun _ => rfl, (absurd met ·)⟩
  · rw [testRequirement_of_unmet e k c _ (mt met_iff.1 met)]
    obtain ⟨g₃, h₃⟩ := openUnsuited_stand e k c (settleOpen e k c w).1 false
    exact ⟨g₃, w.stands[k].requirement, by rw [h₃, h₁], (absurd · met), fun _ => rfl⟩

/-! ## Which mark a joint without an open mismatch leaves (R90, R91) -/

theorem unsuitedAt_iff {r : Running} {p : Pos} :
    ((orderAt e w p).isSome && !suitsAt e w k r p) = true ↔
      ∃ o, orderAt e w p = some o ∧ runningSuits w k r o = false := by
  unfold suitsAt
  cases orderAt e w p <;> simp

section
variable {e k c}

/-- R90: a joint before the change, unsuited where it is, leaves the stretch up to the change. -/
theorem closedSpan_before {t : Pos} {closed : Bool} (before : e.ahead c.pos < e.ahead t) {o : Nat}
    (ho : orderAt e w c.pos = some o) (bad : runningSuits w k w.stands[k].running o = false) :
    closedSpan e k c closed t w = some (c.pos, t) := by
  rw [closedSpan, if_pos before, if_pos ((unsuitedAt_iff e k).2 ⟨o, ho, bad⟩)]

/-- R90: a joint after the change leaves the stretch from the change to the end of the JOINT mark. -/
theorem closedSpan_after {t : Pos} (after : e.ahead t ≤ e.ahead c.pos) :
    closedSpan e k c false t w = some (t, c.finish) := by
  rw [closedSpan, if_neg (not_lt.2 after), if_neg Bool.false_ne_true]

end

section
variable {e k c} (h : w.stands[k].openMismatch = none)
include h

theorem mismatchAtJoint_of_closed {q : Requirement} {a b : Pos} (hq : w.stands[k].requirement = some q)
    (meets : runningMeets w.stands[k].running q = true) (span : closedSpan e k c false (q.change e w) w = some (a, b)) :
    mismatchAtJoint e k c w = (enterClosed e k a b w).updStand k fun r => { r with requirement := none } := by
  rw [mismatchAtJoint_eq, settleOpen_of_none e k c h,
    testRequirement_of_met e k c false hq meets, span]
  simp [openUnsuited]

/-- A closed MISMATCH that R90 asks for stands in the track, and none is open. -/
theorem closed_mismatch (room : w.TrackRoom) (free : w.track.marks.length < 192) {q : Requirement} {a b : Pos}
    (hq : w.stands[k].requirement = some q) (met : w.stands[k].Met)
    (span : closedSpan e k c false (q.change e w) w = some (a, b)) :
    (mismatchAtJoint e k c w).HasMismatch k w.newTag false a (e.ahead b - e.ahead a).toNat ∧
      (mismatchAtJoint e k c w).stands[k].openMismatch = none := by
  obtain ⟨q', hq', meets⟩ := met
  obtain rfl : q = q' := Option.some.inj (hq.symm.trans hq')
  rw [mismatchAtJoint_of_closed h hq meets span]
  refine ⟨enterClosed_mismatch e room free a b, ?_⟩
  rw [Work.updStand_self, enterClosed_stands, h]

theorem mismatchAtJoint_of_unmet (unmet : ¬w.stands[k].Met) : mismatchAtJoint e k c w = openUnsuited e k c false w := by
  rw [mismatchAtJoint_eq, settleOpen_of_none e k c h,
    testRequirement_of_unmet e k c false unmet]

/-- R91: where an unsuited joint opens its span. -/
def openStart (e : Env) (w : Work) (c : JointCase) (r : StandRec) : Pos :=
  r.requirement.elim c.pos fun q => if e.ahead (q.change e w) ≤ e.ahead c.pos then q.change e w else c.pos

theorem openUnsuited_of_unsuited {o : Nat} (ho : orderAt e w c.pos = some o)
    (bad : runningSuits w k w.stands[k].running o = false) :
    openUnsuited e k c false w = openAt e k (openStart e w c w.stands[k]) w := by
  rw [openUnsuited, if_pos]
  · cases hq : w.stands[k].requirement <;> simp only [openStart, hq] <;> rfl
  · rw [(unsuitedAt_iff e k).2 ⟨o, ho, bad⟩, h]
    rfl

omit h in
theorem openUnsuited_of_suited (handed : Bool)
    (good : ∀ o, orderAt e w c.pos = some o → runningSuits w k w.stands[k].running o = true) :
    openUnsuited e k c handed w = w := by
  have suited : ((orderAt e w c.pos).isSome && !suitsAt e w k w.stands[k].running c.pos) = false := by
    refine Bool.eq_false_iff.2 fun unsuited => ?_
    obtain ⟨o, ho, bad⟩ := (unsuitedAt_iff e k).1 unsuited
    exact absurd (good o ho) (bad ▸ Bool.false_ne_true)
  rw [openUnsuited, suited]
  rfl

omit h in
theorem openStart_before (before : ∀ q, w.stands[k].requirement = some q → e.ahead c.pos < e.ahead (q.change e w)) :
    openStart e w c w.stands[k] = c.pos := by
  unfold openStart
  cases hq : w.stands[k].requirement with
  | none => rfl
  | some q => exact if_neg (not_le.2 (before q hq))

omit h in
theorem openStart_after {q : Requirement} (hq : w.stands[k].requirement = some q)
    (after : e.ahead (q.change e w) ≤ e.ahead c.pos) : openStart e w c w.stands[k] = q.change e w := by
  rw [openStart, hq, Option.elim_some, if_pos after]

end

end

/-! ## Where an open mismatch is closed (R89) -/

section
variable {e : Env} {k : Stand} {c : JointCase} {w : Work}

theorem suitsAt_iff {r : Running} {p : Pos} :
    suitsAt e w k r p = true ↔ ∃ o, orderAt e w p = some o ∧ runningSuits w k r o = true := by
  unfold suitsAt
  cases orderAt e w p <;> simp

/-- A change after the start of an open mismatch, and not after the joint, whose order the old reel suits. -/
def closesOpen (e : Env) (k : Stand) (c : JointCase) (w : Work) (m x : Mark) : Bool :=
  decide (e.ahead m.start < e.ahead x.start) && decide (e.ahead x.start ≤ e.ahead c.pos) &&
    (match x.pair? with
      | some (_, j) => runningSuits w k c.old j
      | none => false)

theorem closesOpen_iff {m x : Mark} :
    closesOpen e k c w m x = true ↔ e.ahead m.start < e.ahead x.start ∧ e.ahead x.start ≤ e.ahead c.pos ∧
      ∃ a j, x.pair? = some (a, j) ∧ runningSuits w k c.old j = true := by
  unfold closesOpen
  rw [Bool.and_eq_true, Bool.and_eq_true, and_assoc, decide_eq_true_iff, decide_eq_true_iff]
  refine and_congr_right fun _ => and_congr_right fun _ => ?_
  split
  · next h => simp [h]
  · next h => simp [h]

theorem settlePoint_of_first {m x : Mark} (h : w.track.boundChanges.find? (closesOpen e k c w m) = some x) :
    settlePoint e k c m w = some x.start := by
  unfold settlePoint
  split
  · next found => cases h.symm.trans found; rfl
  · next found => cases h.symm.trans found

theorem settlePoint_of_none {m : Mark} (h : w.track.boundChanges.find? (closesOpen e k c w m) = none) :
    settlePoint e k c m w = if suitsAt e w k w.stands[k].running c.pos then some c.finish else none := by
  unfold settlePoint
  split
  · next found => cases h.symm.trans found
  · rfl

variable {g : Nat} {m : Mark} (hg : w.stands[k].openMismatch = some g) (hm : w.track.find g = some m)
include hg hm

theorem settleOpen_of_point {p : Pos} (h : settlePoint e k c m w = some p) :
    settleOpen e k c w = ((closeMismatch e g p w).updStand k fun r => { r with openMismatch := none }, true) := by
  simp only [settleOpen, hg, hm, h]

theorem settleOpen_of_no_point (h : settlePoint e k c m w = none) : settleOpen e k c w = (w, false) := by
  simp only [settleOpen, hg, hm, h]

end

/-! ## The arrival of a change (R92) -/

/-- A change that the joint of a stand has already dealt with: the feed starts before it. -/
def StandRec.dealt (e : Env) (t : Pos) (r : StandRec) : Bool := r.feedStart.any fun f => decide (e.ahead t < e.ahead f)

/-- What the mismatch principle does at an arrival. -/
def arrivalMismatch (e : Env) (t : Pos) (j : Nat) (k : Stand) (w : Work) : Work :=
  if runningSuits w k w.stands[k].running j then
    w.stands[k].openMismatch.elim w fun g => (closeMismatch e g t w).updStand k fun x => { x with openMismatch := none }
  else w.stands[k].openMismatch.elim (openAt e k t w) fun _ => w

section
variable {e : Env} {t : Pos} {j : Nat} {k : Stand} {w : Work}

theorem standArrival_eq :
    standArrival e t j w k =
      if w.stands[k].dealt e t then w else requirementRule e k (arrivalMismatch e t j k w) := by
  unfold standArrival StandRec.dealt arrivalMismatch
  dsimp only
  cases w.stands[k].feedStart <;> cases w.stands[k].openMismatch <;> rfl

theorem standArrival_of_fed (h : ∀ f, w.stands[k].feedStart = some f → e.ahead f ≤ e.ahead t) :
    standArrival e t j w k = requirementRule e k (arrivalMismatch e t j k w) := by
  rw [standArrival_eq, if_neg]
  rw [StandRec.dealt, Option.any_eq_true]
  rintro ⟨f, hf, before⟩
  exact not_lt.2 (h f hf) (of_decide_eq_true before)

theorem standArrival_of_dealt {f : Pos} (hf : w.stands[k].feedStart = some f) (before : e.ahead t < e.ahead f) :
    standArrival e t j w k = w := by
  rw [standArrival_eq, if_pos]
  rw [StandRec.dealt, hf, Option.any_some, decide_eq_true before]

theorem arrivalMismatch_of_suited (h : runningSuits w k w.stands[k].running j = true) :
    arrivalMismatch e t j k w = w.stands[k].openMismatch.elim w
      fun g => (closeMismatch e g t w).updStand k fun x => { x with openMismatch := none } := if_pos h

theorem arrivalMismatch_of_unsuited (h : runningSuits w k w.stands[k].running j = false) :
    arrivalMismatch e t j k w = w.stands[k].openMismatch.elim (openAt e k t w) fun _ => w :=
  if_neg (Bool.eq_false_iff.1 h)

end

/-! ## Requirements and mismatches (R88 to R92) -/

/-- Settles O33: the first region that asks (R88), the three steps at a joint (R90, R91; R89), and the arrival
(R92). -/
theorem requirementsAndMismatches : Obligations.RequirementsAndMismatches := by
  refine ⟨?_, ?_, ?_, ?_⟩
  · intro e k w r bound reachable unsuited
    have asks {i : Nat} {m : Mark} :
        asksFor e k w (m, bound[i + 1]?.map Mark.start) = true ↔ reachable i ∧ unsuited m := asksFor_iff
    have quiet {i : Nat} {m : Mark} (h : reachable i → ¬unsuited m) :
        asksFor e k w (m, bound[i + 1]?.map Mark.start) = false :=
      Bool.eq_false_iff.2 fun a => h (asks.1 a).1 (asks.1 a).2
    refine ⟨requirementRule_of_some, fun _ suited => ?_, fun i m a j o free hm near pair bad ho first => ?_⟩
    · exact requirementRule_of_new_none
        (newRequirement_of_find_none (find?_asksFor_eq_none fun i m hm => quiet (suited i m hm)))
    · have found := find?_asksFor_eq_some hm (asks.2 ⟨near, a, j, pair, bad⟩)
        fun i' m' lt hm' => quiet (first i' m' lt hm')
      exact requirementRule_of_new free (newRequirement_of_find_some found pair ho)
  · intro e k c w room free r t tag entered met
    obtain ⟨g, q', stand, cleared, kept⟩ := mismatchAtJoint_stand (w := w) e k c
    refine ⟨fun h => ?_, fun h => ?_, fun q o none_open hq hmet ho before bad => ?_, fun q none_open hq hmet after => ?_,
      fun o none_open unmet ho bad => ?_, fun none_open no_req suited => ?_⟩
    · exact (congrArg StandRec.requirement stand).trans (cleared h)
    · exact (congrArg StandRec.requirement stand).trans (kept h)
    · exact closed_mismatch none_open room free hq hmet (closedSpan_before before ho bad)
    · exact closed_mismatch none_open room free hq hmet (closedSpan_after after)
    · have eq : t = openAt e k (openStart e w c r) w :=
        (mismatchAtJoint_of_unmet none_open unmet).trans (openUnsuited_of_unsuited none_open ho bad)
      obtain ⟨has, records⟩ := openAt_mismatch e (k := k) room free (openStart e w c r)
      rw [← eq] at has records
      refine ⟨records, fun before => ?_, fun q hq after => ?_⟩
      · rwa [openStart_before before] at has
      · rwa [openStart_after hq after] at has
    · exact (mismatchAtJoint_of_unmet none_open fun ⟨q, hq, _⟩ => nomatch no_req.symm.trans hq).trans
        (openUnsuited_of_suited false suited)
  · intro e k c w g m hg hm settles closedAt suited
    have none_settles (h : ∀ y ∈ w.track.boundChanges, ¬settles y) := settlePoint_of_none
      (List.find?_eq_none.2 fun y hy => mt closesOpen_iff.1 (h y hy))
    refine ⟨fun earlier x later split none_earlier hx => ?_, fun none_mark good => ?_, fun none_mark bad => ?_⟩
    · refine settleOpen_of_point hg hm (settlePoint_of_first (List.find?_eq_some_iff_append.2
        ⟨closesOpen_iff.2 hx, earlier, later, split, fun y hy => ?_⟩))
      rw [Bool.not_eq_true', Bool.eq_false_iff]
      exact mt closesOpen_iff.1 (none_earlier y hy)
    · exact settleOpen_of_point hg hm ((none_settles none_mark).trans (if_pos (suitsAt_iff.2 good)))
    · exact settleOpen_of_no_point hg hm ((none_settles none_mark).trans (if_neg (mt suitsAt_iff.1 bad)))
  · intro e t j w k r x tag
    refine ⟨fun f hf before => ?_, fun fed => ?_⟩
    · exact standArrival_of_dealt hf before
    have eq : x = requirementRule e k (arrivalMismatch e t j k w) := standArrival_of_fed fed
    rw [eq]
    refine ⟨fun good none_open => ?_, fun g good hg => ?_, fun bad some_open => ?_, fun bad none_open room free => ?_⟩
    · rw [arrivalMismatch_of_suited good, none_open, Option.elim_none]
    · rw [arrivalMismatch_of_suited good, hg, Option.elim_some]
      exact ⟨rfl, by rw [requirementRule_openMismatch, Work.updStand_self]⟩
    · obtain ⟨g, hg⟩ := Option.ne_none_iff_exists'.1 some_open
      rw [arrivalMismatch_of_unsuited bad, hg, Option.elim_some]
    · rw [arrivalMismatch_of_unsuited bad, none_open, Option.elim_none, requirementRule_openMismatch,
        requirementRule_track]
      exact (openAt_mismatch e room free t).symm

end Sys2Proof.Machine
end

section
/-! SUPPORT. The joint request (R81, R83): what a joint makes of its stand, and the tag of its mark. -/

namespace Sys2Proof.Machine

/-! ## The stand at a joint (R83, R87) -/

section
variable (e : Env) (k : Stand) (j : Word) (estimated : Bool) (w : Work)

/-- The reel that a joint feeds: the ready reel, anchored now, or the unknown reel. -/
def fedAtJoint (e : Env) (k : Stand) (r : StandRec) : Running :=
  match r.ready with
  | some x => .reel x (e.anchorNow k x)
  | none => .unknown

/-- The level that the reel of a joint brings (R75). -/
def levelAtJoint (e : Env) (k : Stand) (r : StandRec) : ReelLevel :=
  match r.ready with
  | some x => rawLevel e.settings[k] (e.anchorNow k x).usable
  | none => .normal

/-- A stand that a joint at `j` has been made on, the phase as it was. -/
def StandRec.joined (e : Env) (k : Stand) (j : Word) (r : StandRec) : StandRec :=
  { r with
    running := fedAtJoint e k r, ready := none, feedStart := some ⟨j, false⟩, level := levelAtJoint e k r }

/-- The level that is evaluated is one that is set. -/
theorem evalLevel_record (fresh : Bool) :
    ∃ l f, (evalLevel e k fresh w).stands[k] = { w.stands[k] with level := l, phase := f } := by
  unfold evalLevel
  dsimp only
  split
  · obtain ⟨f, hf⟩ := setLevel_record e k w .normal 0
    exact ⟨_, f, hf⟩
  · next u _ =>
    obtain ⟨f, hf⟩ := setLevel_record e k w
      (if fresh then rawLevel e.settings[k] u else nextLevel e.settings[k] u w.stands[k].level) u
    exact ⟨_, f, hf⟩

theorem swapReels_stand :
    ∃ f, (swapReels e k j w).stands[k] = { w.stands[k].joined e k j with phase := f } := by
  set fed : Work := w.updStand k fun r =>
    { r with running := fedAtJoint e k r, ready := none, feedStart := some ⟨j, false⟩ } with hfed
  have running : fed.stands[k].running = fedAtJoint e k w.stands[k] := by rw [hfed, Work.updStand_self]
  have level : (evalLevel e k true fed).stands[k].level = levelAtJoint e k w.stands[k] := by
    unfold levelAtJoint
    cases hr : w.stands[k].ready with
    | none =>
      refine evalLevel_level_none true ?_
      rw [running, fedAtJoint, hr]
      rfl
    | some x =>
      refine (evalLevel_level_some true ?_).trans (if_pos rfl)
      rw [running, fedAtJoint, hr]
      exact usable_anchorNow e k x
  obtain ⟨l, f, h⟩ := evalLevel_record e k fed true
  rw [h] at level
  refine ⟨f, h.trans ?_⟩
  rw [StandRec.joined, ← level, hfed, Work.updStand_self]

/-- A stand that is put to IDLE and rephased is in WATCH where it is enabled and something arms it (R76). -/
theorem rephase_from_idle (r : StandRec) :
    StandRec.rephase { r with phase := .idle } =
      { r with phase := if r.enable = true ∧ (r.requirement ≠ none ∨ r.level.armed = true) then .watch else .idle } := by
  simp [StandRec.rephase, Phase.isFired, Option.isSome_iff_ne_none]

@[simp] theorem enterJoint_stands : (enterJoint e k j estimated w).1.stands = w.stands := enterMark_stands ..

/-- The joint as the mismatch principle sees it, its finish the end of the JOINT mark (R83, step 1). -/
def jointCase (e : Env) (k : Stand) (j : Word) (estimated : Bool) (r : StandRec) : JointCase :=
  ⟨Pos.at j, Pos.at ((Pos.at j).plus (jointHalf e.settings[k] estimated : Nat)).val, r.running⟩

/-- The steps of R83, each on what the one before it leaves. -/
theorem makeJoint_eq :
    makeJoint e k j estimated w =
      ((requirementRule e k (mismatchAtJoint e k (jointCase e k j estimated w.stands[k])
        (swapReels e k j (enterJoint e k j estimated w).1))).updStand k fun r => { r with phase := .idle }.rephase,
        (enterJoint e k j estimated w).2) := rfl

/-- What a joint makes of its stand; the requirement and the open mismatch are for the mismatch principle. -/
theorem makeJoint_stand :
    ∃ g q d, (makeJoint e k j estimated w).1.stands[k] = StandRec.rephase
      { w.stands[k].joined e k j with openMismatch := g, requirement := q, lateWindow := d, phase := .idle } := by
  set w₂ := swapReels e k j (enterJoint e k j estimated w).1 with h₂
  set c := jointCase e k j estimated w.stands[k] with hc
  obtain ⟨f₁, swapped⟩ := swapReels_stand e k j (enterJoint e k j estimated w).1
  obtain ⟨g, q₂, mismatched, -, -⟩ := mismatchAtJoint_stand (w := w₂) e k c
  obtain ⟨q, f₃, d, ruled⟩ := requirementRule_stand e k (mismatchAtJoint e k c w₂)
  rw [enterJoint_stands] at swapped
  refine ⟨g, q, d, ?_⟩
  rw [makeJoint_eq, Work.updStand_self, ← h₂, ← hc, ruled, mismatched, swapped]

end

/-! ## The request (R81, R84) -/

section
variable {e : Env} {k : Stand} {w : Work}

/-- The JOINT mark handed to a track with room gets the next tag. -/
theorem enterJoint_tag (h : w.TrackRoom) (hm : w.track.marks.length < 192) (j : Word) (estimated : Bool) :
    (enterJoint e k j estimated w).2 = some w.newTag := congrArg Prod.snd (enterMark_room e h _ _ hm)

theorem makeJoint_tag (h : w.TrackRoom) (hm : w.track.marks.length < 192) (j : Word) (estimated : Bool) :
    (makeJoint e k j estimated w).2 = some w.newTag := by
  rw [makeJoint_eq]
  dsimp only
  exact enterJoint_tag h hm j estimated

theorem applyJoint_range {n : Byte} (h : 5 ≤ n.toNat) : applyJoint e w [n] = refuse .range e w := by
  simp only [applyJoint, getOne_byte, Option.bind_some, standOf_none h]

theorem applyJoint_stand {n : Byte} (h : n.toNat = k.val) : applyJoint e w [n] = reportJoint e w k := by
  simp only [applyJoint, getOne_byte, Option.bind_some, h, standOf_val]

variable (room : w.TrackRoom) (free : w.track.marks.length < 192)
include room free

/-- A late report enters its mark of the half-span to each side, and closes the window (R84). -/
theorem reportJoint_late (h : w.stands[k].phase.isFired = false ∧ w.stands[k].lateWindow ≠ none) :
    reportJoint e w k = ⟨.ok, putWord (e.jointHere k) ++ putNat 2 w.newTag, e,
      (enterJoint e k (e.jointHere k) false (w.setStand k { w.stands[k] with lateWindow := none })).1⟩ := by
  have late : (!w.stands[k].phase.isFired && w.stands[k].lateWindow.isSome) = true := by
    rw [h.1, Option.isSome_iff_ne_none.2 h.2]
    rfl
  have tag : (enterJoint e k (e.jointHere k) false (w.updStand k fun r => { r with lateWindow := none })).2 =
      some w.newTag :=
    enterJoint_tag (w := w.updStand k fun r => { r with lateWindow := none }) (.of_eq room rfl) free _ _
  unfold reportJoint
  dsimp only
  rw [if_pos late, tag]
  rfl

/-- Any other report is a joint (R81, R87). -/
theorem reportJoint_joint (h : ¬(w.stands[k].phase.isFired = false ∧ w.stands[k].lateWindow ≠ none)) :
    reportJoint e w k = ⟨.ok, putWord (e.jointHere k) ++ putNat 2 w.newTag, e,
      (makeJoint e k (e.jointHere k) false w).1⟩ := by
  have not_late : ¬(!w.stands[k].phase.isFired && w.stands[k].lateWindow.isSome) = true := by
    simpa [Option.isSome_iff_ne_none] using h
  unfold reportJoint
  dsimp only
  rw [if_neg not_late, makeJoint_tag room free]
  rfl

end

/-- Settles O29: the answers by the `reportJoint_` lemmas, and what a joint makes of its stand by `makeJoint_stand`. -/
theorem jointRequest : Obligations.JointRequest := by
  refine ⟨fun s p q rest n head hw room free => ⟨fun hn => ?_, ?_⟩, ?_⟩
  · exact congrArg Host.Outcome.next (applyHead_refused applyJoint .range head hw (applyJoint_range hn))
  · intro k hn e j r half body
    have answer := applyJoint_stand (e := e) (w := s.work) hn
    refine ⟨fun late => ?_, fun not_late => ?_⟩
    · refine congrArg Host.Outcome.next ((applyHead_of_head applyJoint head).trans ?_)
      rw [answer.trans (reportJoint_late room free late)]
      rfl
    · refine congrArg Host.Outcome.next ((applyHead_of_head applyJoint head).trans ?_)
      rw [answer.trans (reportJoint_joint room free not_late)]
      rfl
  · intro e k j estimated w r
    obtain ⟨g, q, d, joined⟩ := makeJoint_stand e k j estimated w
    have hr : r = _ := joined.trans (rephase_from_idle
      { w.stands[k].joined e k j with openMismatch := g, requirement := q, lateWindow := d })
    rw [hr]
    exact ⟨rfl, rfl, rfl, rfl, rfl, rfl⟩

end Sys2Proof.Machine
end

section
/-! SUPPORT. What leaves the order queue, the proposal list and the completion log as they are: which orders stand where by their
tags, how many proposals are outstanding, and every record of the log. Notices and cues, announcements, passages, cuts, marks
entered and closed, the extension and re-planning of the chain, levels and fires, joints and arrivals. -/

namespace Sys2Proof.Machine

/-! ## The frame -/

/-- Two states of the blocks with the same orders in the sequence and in the held list, no more proposals, and the same
completion log. -/
structure RunFrame (w w' : Work) : Prop where
  sequence : w'.seq.sequence.map Order.tag = w.seq.sequence.map Order.tag
  held : w'.seq.held.map Order.tag = w.seq.held.map Order.tag
  proposals : w'.prop.list.length ≤ w.prop.list.length
  log : w'.sheet.log = w.sheet.log

theorem RunFrame.refl (w : Work) : RunFrame w w := ⟨rfl, rfl, le_rfl, rfl⟩

theorem RunFrame.trans {a b c : Work} (h : RunFrame a b) (g : RunFrame b c) : RunFrame a c :=
  ⟨g.sequence.trans h.sequence, g.held.trans h.held, g.proposals.trans h.proposals, g.log.trans h.log⟩

theorem RunFrame.after {a b c : Work} (g : RunFrame b c) (h : RunFrame a b) : RunFrame a c := h.trans g

theorem foldl_run {α : Type} {f : Work → α → Work} (hf : ∀ w x, RunFrame w (f w x)) (l : List α) (w : Work) :
    RunFrame w (l.foldl f w) :=
  List.foldlRecOn (motive := RunFrame w) l f (.refl w) fun x hx a _ => hx.trans (hf x a)

theorem iterate_run {f : Work → Work} (hf : ∀ w, RunFrame w (f w)) : ∀ (n : Nat) (w : Work), RunFrame w (f^[n] w)
  | 0, w => .refl w
  | n + 1, w => (hf w).trans (iterate_run hf n (f w))

/-- An order rewritten under its tag. -/
theorem updOrder_run (w : Work) (tag : Nat) {f : Order → Order} (hf : ∀ o, (f o).tag = o.tag) :
    RunFrame w (w.updOrder tag f) := by
  have tags : ∀ l : List Order, (l.map fun o => if o.tag = tag then f o else o).map Order.tag = l.map Order.tag := by
    intro l
    rw [List.map_map]
    refine List.map_congr_left fun o _ => ?_
    simp only [Function.comp]
    split
    · exact hf o
    · rfl
  exact ⟨tags _, tags _, le_rfl, rfl⟩

theorem updTallies_run (w : Work) (tag : Nat) (f : Tallies → Tallies) : RunFrame w (w.updTallies tag f) :=
  updOrder_run w tag fun _ => rfl

theorem updProposal_run (w : Work) (tag : Nat) (f : Proposal → Proposal) : RunFrame w (w.updProposal tag f) :=
  ⟨rfl, rfl, (List.length_map _).le, rfl⟩

theorem endProposal_run (w : Work) (tag : Nat) : RunFrame w (w.endProposal tag) :=
  ⟨rfl, rfl, List.length_filter_le _ _, rfl⟩

theorem giveUpAll_run (w : Work) (r : Role) : RunFrame w (w.giveUpAll r) := ⟨rfl, rfl, (List.length_map _).le, rfl⟩

/-! ## Notices, alarms and cues -/

/-- The notice unit writes the partial responses of proposals, and ends none. -/
theorem NoticeFrame.run {w w' : Work} (h : NoticeFrame w w') (n : w'.prop.list.length = w.prop.list.length) :
    RunFrame w w' := ⟨by rw [h.seq], by rw [h.seq], n.le, by rw [h.sheet]⟩

theorem enterReturn_prop (n : Notice) (w : Work) : (enterReturn n w).1.prop = w.prop := by
  unfold enterReturn
  dsimp only
  repeat' split
  all_goals rfl

theorem walkFrom_prop (e : Env) (n : Notice) (start : Option Port) (lap : Bool) (first : Port) (w : Work) :
    (walkFrom e n start lap first w).1.prop = w.prop := by
  unfold walkFrom
  split
  · rfl
  · exact enterReturn_prop _ _

theorem place_prop (e : Env) (n : Notice) (w : Work) : (place e n w).1.prop = w.prop := by
  unfold place
  split
  · split
    · next h => exact tryDirected_prop h
    · exact enterReturn_prop _ _
  · exact walkFrom_prop _ _ _ _ _ _

theorem noticeGivenUp_proposals (e : Env) (n : Notice) (w : Work) :
    (noticeGivenUp e n w).prop.list.length = w.prop.list.length := by
  unfold noticeGivenUp
  split
  · exact List.length_map _
  · rfl

theorem afterPlace_proposals (e : Env) (x : Work × Option Notice) :
    (afterPlace e x).1.prop.list.length = x.1.prop.list.length := by
  obtain ⟨w, d⟩ := x
  cases d with
  | none => rfl
  | some d =>
    unfold afterPlace recordDrop
    dsimp only
    split <;> exact noticeGivenUp_proposals e d _

theorem postOnce_proposals (e : Env) (b : NoticeBody) (src : Option Port) (w : Work) :
    (postOnce e b src w).1.prop.list.length = w.prop.list.length := by
  unfold postOnce
  dsimp only
  split
  · rw [coalesce_prop]
  · rw [afterPlace_proposals, place_prop]

theorem postChain_proposals (e : Env) : ∀ (n : Nat) (b : NoticeBody) (src : Option Port) (w : Work),
    (postChain e n b src w).prop.list.length = w.prop.list.length
  | 0, b, src, w => postOnce_proposals e b src w
  | n + 1, b, src, w => by
    have h := postOnce_proposals e b src w
    unfold postChain
    split
    · next hw =>
      rw [hw] at h
      exact h
    · next c hw =>
      rw [hw] at h
      exact (postChain_proposals e n c none _).trans h

theorem post_run (e : Env) (b : NoticeBody) (src : Option Port) (w : Work) : RunFrame w (post e b src w) :=
  (post_frame e b src w).run (postChain_proposals e _ b src w)

theorem raiseAlarm_run (e : Env) (k : AlarmKind) (x : Subject) (w : Work) : RunFrame w (raiseAlarm e k x w) := by
  unfold raiseAlarm
  dsimp only
  split
  · exact (post_run _ _ _ _).after ⟨rfl, rfl, le_rfl, rfl⟩
  · exact ⟨rfl, rfl, le_rfl, rfl⟩

theorem noticeGivenUp_run (e : Env) (n : Notice) (w : Work) : RunFrame w (noticeGivenUp e n w) :=
  (noticeGivenUp_frame e n w).run (noticeGivenUp_proposals e n w)

theorem finishPlace_run (e : Env) (x : Work × Option Notice) : RunFrame x.1 (finishPlace e x) := by
  have placed := (afterPlace_frame e x).run (afterPlace_proposals e x)
  unfold finishPlace
  split
  · next h =>
    rw [h] at placed
    exact placed
  · next h =>
    rw [h] at placed
    exact placed.trans (post_run _ _ _ _)

theorem reofferOne_run (e : Env) (w : Work) (t : Nat) : RunFrame w (reofferOne e w t) := by
  refine (reofferOne_frame e w t).run ?_
  unfold reofferOne
  repeat' split
  · rfl
  · next h => rw [Work.unreturn_prop, tryDirected_prop h]
  all_goals rfl

theorem reoffer_run (e : Env) (w : Work) : RunFrame w (reoffer e w) := foldl_run (reofferOne_run e) _ w

theorem afterFloor_run (e : Env) (p : Port) (n : Nat) (w : Work) : RunFrame w (afterFloor e p n w) := by
  unfold afterFloor
  split
  · exact reoffer_run e w
  · exact .refl w

theorem finishTaken_run (e : Env) (p : Port) (f : Notice → Bool) (w : Work) : RunFrame w (finishTaken e p f w) :=
  (afterFloor_run e p _ _).after ⟨rfl, rfl, le_rfl, rfl⟩

theorem giveBack_run (e : Env) (p : Port) (w : Work) (n : Notice) : RunFrame w (giveBack e p w n) := by
  have off : RunFrame w (w.undesk p n.tag) := ⟨rfl, rfl, le_rfl, rfl⟩
  unfold giveBack
  split
  · exact (off.trans ((enterReturn_frame n _).run (by rw [enterReturn_prop]))).trans (finishPlace_run e _)
  · exact (off.trans ((walkFrom_frame e n _ _ _ _).run (by rw [walkFrom_prop]))).trans (finishPlace_run e _)

theorem emptyDesk_run (e : Env) (p : Port) (w : Work) : RunFrame w (emptyDesk e p w) :=
  (foldl_run (giveBack_run e p) _ w).trans (afterFloor_run e p _ _)

theorem removeUntaken_run (tag : Nat) (w : Work) : RunFrame w (removeUntaken tag w) :=
  (foldl_run (f := fun x p => dropOffered p tag x) (fun _ _ => ⟨rfl, rfl, le_rfl, rfl⟩) allPorts w).trans
    ⟨rfl, rfl, le_rfl, rfl⟩

theorem pulse_run (e : Env) (c : CueLine) (w : Work) : RunFrame w (pulse e c w) := by
  unfold pulse
  dsimp only
  split
  · exact ⟨rfl, rfl, le_rfl, rfl⟩
  · exact (raiseAlarm_run _ _ _ _).after ⟨rfl, rfl, le_rfl, rfl⟩

/-! ## Announcements (R37, R39, R107, R125, R142) -/

theorem withdrawFor_run (g : Nat) (w : Work) : RunFrame w (withdrawFor g w) := by
  unfold withdrawFor
  split
  · exact .refl w
  · next p _ =>
    have ended : RunFrame w { w with prop := { w.prop with list := w.prop.list.filter fun x => x.changeTag != g } } :=
      ⟨rfl, rfl, List.length_filter_le _ _, rfl⟩
    exact (ended.trans (removeUntaken_run p.tag _)).trans ⟨rfl, rfl, le_rfl, rfl⟩

theorem unlink_run (w : Work) (i j : Nat) : RunFrame w (w.unlink i j) := by
  refine RunFrame.trans ?_ (updOrder_run _ j fun _ => rfl)
  exact updOrder_run w i fun _ => rfl

section
variable {a : Work → Work} (ha : ∀ w, RunFrame w (a w))
include ha

theorem removeChange_run (w : Work) (g : Nat) : RunFrame w (removeChange a w g) := by
  unfold removeChange
  split
  · exact .refl w
  · split
    · exact .refl w
    · split
      · refine RunFrame.trans ?_ (ha _)
        exact ((withdrawFor_run g w).trans (unlink_run _ _ _)).trans ⟨rfl, rfl, le_rfl, rfl⟩
      · exact .refl w

theorem removeChanges_run (tags : List Nat) (w : Work) : RunFrame w (removeChanges a tags w) :=
  (foldl_run (fun w g => withdrawFor_run g w) _ w).trans (foldl_run (removeChange_run ha) _ _)

omit ha in
theorem moveTo_run {e : Env} {g i j : Nat} {p : Placed} {w w' : Work} (h : moveTo e g i j p w = some w') :
    RunFrame w w' := by
  obtain ⟨t, _, rfl⟩ := Option.map_eq_some_iff.mp h
  have moved : RunFrame w { w with track := t, owed := { w.owed with due := true } } := ⟨rfl, rfl, le_rfl, rfl⟩
  refine RunFrame.trans ?_ (updOrder_run _ j fun _ => rfl)
  exact moved.trans (updOrder_run _ i fun _ => rfl)

omit ha in
theorem placeMarks_run (e : Env) : ∀ (tags : List Nat) (n : Nat) (w : Work), RunFrame w (placeMarks e tags n w).work
  | [], _, w => .refl w
  | g :: rest, n, w => by
    rcases placeMarks_cases e g rest n w with h | h | ⟨i, j, p, w', hm, h⟩ <;> rw [h]
    · exact placeMarks_run e rest n w
    · exact ⟨rfl, rfl, le_rfl, rfl⟩
    · exact (moveTo_run hm).trans (placeMarks_run e rest (n + 1) w')

theorem placeAll_run (e : Env) (tags : List Nat) (w : Work) : RunFrame w (placeAll e a tags w) :=
  ((placeMarks_run e tags 0 w).trans (removeChanges_run ha _ _)).trans (iterate_run ha _ _)

theorem moveOrder_run (e : Env) (i c : Nat) (w : Work) : RunFrame w (moveOrder e a i c w).1 := by
  have placed : ∀ (tags : List Nat) (f : Order → Order), (∀ o, (f o).tag = o.tag) →
      RunFrame w (placeAll e a tags (w.updOrder i f)) := fun tags f hf =>
    (updOrder_run w i hf).trans (placeAll_run ha e tags _)
  unfold moveOrder
  split
  · exact .refl w
  · split
    · exact updOrder_run w i fun _ => rfl
    · split
      · exact placed _ _ fun _ => rfl
      · exact placed _ _ fun _ => rfl
      · exact .refl w

omit ha in
theorem raiseShort_run (e : Env) (g : Nat) (w : Work) : RunFrame w (raiseShort e g w) := by
  unfold raiseShort
  split
  · exact .refl w
  · split
    · exact .refl w
    · exact (updTallies_run w g _).trans (raiseAlarm_run _ _ _ _)

theorem recomputePass_run (e : Env) : ∀ (tags : List Nat) (w : Work), RunFrame w (recomputePass e a tags w)
  | [], w => .refl w
  | g :: rest, w => by
    unfold recomputePass
    split
    · exact recomputePass_run e rest w
    · next o f _ =>
      have forecast := updTallies_run w g fun t => { t with forecast := f }
      have moved := forecast.trans (moveOrder_run ha e g (o.given.required - f) _)
      dsimp only
      split
      · exact forecast.trans (recomputePass_run e rest _)
      · split
        · next hm =>
          rw [hm] at moved
          exact (moved.trans (raiseShort_run e g _)).trans (recomputePass_run e rest _)
        · next hm =>
          rw [hm] at moved
          exact moved.trans (recomputePass_run e rest _)
        · next hm =>
          rw [hm] at moved
          exact moved.trans (recomputePass_run e rest _)

end

theorem recomputeWithin_run (e : Env) : ∀ (n : Nat) (w : Work), RunFrame w (recomputeWithin e n w)
  | 0, w => .refl w
  | n + 1, w => recomputePass_run (recomputeWithin_run e n) e _ w

theorem announce_run (e : Env) (w : Work) : RunFrame w (announce e w) := recomputeWithin_run e _ w

theorem announceExtent_run (e : Env) (m : Mark) (w : Work) : RunFrame w (announceExtent e m w) := by
  refine RunFrame.trans ?_ (announce_run e _)
  exact ⟨rfl, rfl, le_rfl, rfl⟩

theorem freeEntry_run {e : Env} {w w' : Work} (h : freeEntry e w = some w') : RunFrame w w' := by
  unfold freeEntry at h
  split at h
  · cases h
  · next p _ =>
    obtain rfl := Option.some.inj h
    refine RunFrame.trans ?_ (announce_run e _)
    refine RunFrame.trans (b := announceExtent e (p.first.reachTo e (e.ahead p.second.finish))
      { w with track := w.track.update p.first.tag fun _ => p.first.reachTo e (e.ahead p.second.finish) }) ?_
      ⟨rfl, rfl, le_rfl, rfl⟩
    exact (announceExtent_run e _ _).after ⟨rfl, rfl, le_rfl, rfl⟩

/-! ## The station unit (R58 to R64), cuts and the switch (R128, R129) -/

theorem postStation_run (e : Env) (st : Station) (b : StationBody) (w : Work) : RunFrame w (postStation e st b w) := by
  unfold postStation
  split
  · exact .refl w
  · exact post_run _ _ _ _

theorem pulseStation_run (e : Env) (st : Station) (w : Work) : RunFrame w (pulseStation e st w) := by
  unfold pulseStation
  split
  · exact .refl w
  · exact pulse_run _ _ _

theorem told_run (e : Env) (st : Station) (b : StationBody) (w : Work) :
    RunFrame w (pulseStation e st (postStation e st b w)) :=
  (postStation_run e st b w).trans (pulseStation_run e st _)

theorem rampTest_run (e : Env) (before : Option Pos) (created : Bool) (w : Work) (i : StationIx) :
    RunFrame w (rampTest e before created w i) := by
  unfold rampTest
  split
  · next st r _ _ =>
    split
    · next k s _ =>
      have current : RunFrame w (w.setCurrent i (rampValue r.oldValue r.newValue s.fraction)) := ⟨rfl, rfl, le_rfl, rfl⟩
      exact (current.trans (told_run e st _ _)).trans ⟨rfl, rfl, le_rfl, rfl⟩
    · exact .refl w
  · exact .refl w

theorem changeover_run (e : Env) (i : StationIx) (st : Station) (m : Mark) (j : Nat) (late : Bool) (w : Work) :
    RunFrame w (changeover e i st m j late w) := by
  have ended : RunFrame w (endRamp e i m.start w) := (rampTest_run e _ _ w i).trans ⟨rfl, rfl, le_rfl, rfl⟩
  have ramped : ∀ r, RunFrame w ((endRamp e i m.start w).setRamp i r) := fun r => ended.trans ⟨rfl, rfl, le_rfl, rfl⟩
  unfold changeover
  dsimp only
  split
  · exact ended.trans (postStation_run e st _ _)
  · exact ((ramped _).trans (postStation_run e st _ _)).trans (rampTest_run e _ _ _ i)

theorem slitterChange_run (e : Env) (i : StationIx) (st : Station) (m : Mark) (k j : Nat) (late : Bool) (w : Work) :
    RunFrame w (slitterChange e i st m k j late w) := by
  unfold slitterChange
  split
  · exact .refl w
  · split
    · exact .refl w
    · refine RunFrame.trans ?_ (told_run e st _ _)
      exact ⟨rfl, rfl, le_rfl, rfl⟩

theorem makeCut_run (e : Env) (c : Schedule) (w : Work) : RunFrame w (makeCut e c w) := by
  refine RunFrame.trans (b := (pulse e 5 w).updTallies c.order fun t => { t with cuts := t.cuts + 1 }) ?_
    ⟨rfl, rfl, le_rfl, rfl⟩
  exact (pulse_run e 5 w).trans (updTallies_run _ _ _)

theorem makeCuts_run (e : Env) (limit : Option Pos) : ∀ (n : Nat) (w : Work), RunFrame w (makeCuts e limit n w)
  | 0, w => .refl w
  | n + 1, w => by
    unfold makeCuts
    split
    · exact .refl w
    · split
      · exact (makeCut_run e _ w).trans (makeCuts_run e limit n _)
      · exact .refl w

theorem cutTest_run (e : Env) (limit : Option Pos) (w : Work) : RunFrame w (cutTest e limit w) := by
  unfold cutTest
  split
  · exact .refl w
  · exact makeCuts_run e limit _ w

/-- A switch ends the cuts of one order and begins those of the next; both stay in the queue (R128). -/
theorem switchSchedule_run (e : Env) (t : Pos) (i j : Nat) (late : Bool) (w : Work) :
    RunFrame w (switchSchedule e t i j late w) := by
  unfold switchSchedule
  extract_lets atKnife cut cutSheet w1 noted w2 w3
  have ended : RunFrame w w1 := by
    unfold w1
    split
    · exact ((cutTest_run e (some t) w).trans (updTallies_run _ i fun y => { y with endPos := some t })).trans
        ⟨rfl, rfl, le_rfl, rfl⟩
    · exact .refl w
  have told : RunFrame w1 w2 := by
    unfold w2
    split
    · split
      · exact updTallies_run _ _ _
      · exact (updTallies_run _ _ _).trans (updTallies_run _ _ _)
    · exact .refl w1
  have pulsed : RunFrame w2 w3 := by
    unfold w3
    split
    · exact pulse_run e 5 w2
    · exact .refl w2
  have before := (ended.trans told).trans pulsed
  split
  · exact before.trans ⟨rfl, rfl, le_rfl, rfl⟩
  · refine (before.trans (updTallies_run w3 j fun y => { y with startAtKnife := some t })).trans ?_
    exact (cutTest_run e none _).after ⟨rfl, rfl, le_rfl, rfl⟩

theorem changeBegin_run (e : Env) (i : StationIx) (st : Station) (m : Mark) (k j : Nat) (late : Bool) (w : Work) :
    RunFrame w (changeBegin e i st m k j late w) := by
  unfold changeBegin
  cases st.kind with
  | preheat => exact changeover_run e i st m j late w
  | glue => exact changeover_run e i st m j late w
  | heat => exact changeover_run e i st m j late w
  | generic => exact changeover_run e i st m j late w
  | slitter => exact slitterChange_run e i st m k j late w
  | knife => exact (told_run e st _ w).trans (switchSchedule_run e _ _ _ _ _)
  | gate => exact .refl w
  | stacker => exact .refl w
  | inspect => exact .refl w

theorem beginPassage_run (e : Env) (i : StationIx) (st : Station) (m : Mark) (late : Bool) (w : Work) :
    RunFrame w (beginPassage e i st m late w) := by
  unfold beginPassage
  split
  · exact changeBegin_run e i st m _ _ late w
  · exact told_run e st _ w

/-! ## Passages and evaluations (R43 to R49) -/

theorem beginAt_run (e : Env) (commit : Bool) (i : StationIx) (st : Station) (m : Mark) (w : Work) :
    RunFrame w (beginAt e commit i st m w) := by
  unfold beginAt
  split
  · exact (beginPassage_run e i st _ commit _).after ⟨rfl, rfl, le_rfl, rfl⟩
  · exact .refl w

theorem endAt_run (e : Env) (i : StationIx) (st : Station) (m : Mark) (w : Work) : RunFrame w (endAt e i st m w) := by
  unfold endAt
  split
  · exact (told_run e st _ _).after ⟨rfl, rfl, le_rfl, rfl⟩
  · exact .refl w

theorem passStation_run (e : Env) (commit : Bool) (n : Nat) (i : StationIx) (w : Work) :
    RunFrame w (passStation e commit n i w) := by
  unfold passStation
  split
  · next st m _ _ =>
    have begun := beginAt_run e commit i st m w
    split
    · dsimp only
      split
      · exact begun.trans (endAt_run e i st _ _)
      · exact begun
    · exact .refl w
  · exact .refl w

section
variable {a : Mark → Work → Work} (ha : ∀ m w, RunFrame w (a m w))
include ha

theorem passPoint_run (e : Env) (commit : Bool) (n : Nat) (w : Work) (x : LinePoint) :
    RunFrame w (passPoint e a commit n w x) := by
  cases x with
  | some i => exact passStation_run e commit n i w
  | none =>
    unfold passPoint passDatum
    dsimp only
    split
    · exact .refl w
    · split
      · exact (ha _ _).after ⟨rfl, rfl, le_rfl, rfl⟩
      · exact .refl w

omit ha in
theorem retireMarks_run (e : Env) (except : Option Nat) (w : Work) : RunFrame w (retireMarks e except w) := by
  unfold retireMarks
  split <;> exact ⟨rfl, rfl, le_rfl, rfl⟩

/-- An evaluation leaves the queue as it is where what it reports arrivals to does (R43). -/
theorem evaluate_run (e : Env) (commit : Bool) (l : List Nat) (except : Option Nat) (w : Work) :
    RunFrame w (evaluate e a commit l except w) := by
  have passed : RunFrame w (l.foldl (passMark e a commit) w) :=
    foldl_run (fun w n => foldl_run (passPoint_run ha e commit n) _ w) l w
  exact (passed.trans (foldl_run (fun w i => rampTest_run e _ false w i) allStations _)).trans
    (retireMarks_run e except _)

end

theorem evaluateOne_run (e : Env) (n : Nat) (w : Work) : RunFrame w (evaluateOne e n w) :=
  evaluate_run (fun _ w => .refl w) e false [n] (some n) w

/-! ## Marks entered and closed (R34, R35, R40) -/

theorem announced_run (e : Env) (m : Mark) (n : Nat) (w : Work) :
    RunFrame w (evaluateOne e n (announceExtent e m w)) :=
  (announceExtent_run e m w).trans (evaluateOne_run e n _)

theorem recordMark_run (e : Env) (body : MarkBody) (s : Pos) (n : Nat) (w : Work) :
    RunFrame w (recordMark e body s n w).1 := ⟨rfl, rfl, le_rfl, rfl⟩

theorem handIn_run (e : Env) (body : MarkBody) (s : Pos) (n : Nat) (w : Work) : RunFrame w (handIn e body s n w).1 := by
  unfold handIn makeRoom
  split
  · next w1 h =>
    refine RunFrame.trans ?_ (recordMark_run e body s n w1)
    split at h
    · cases h
      exact .refl w
    · exact freeEntry_run h
  · exact raiseAlarm_run _ _ _ _

theorem enterMark_run (e : Env) (body : MarkBody) (s : Pos) (n : Nat) (w : Work) :
    RunFrame w (enterMark e body s n w).1 := by
  have handed := handIn_run e body s n w
  unfold enterMark
  split
  · next hx =>
    rw [hx] at handed
    exact handed.trans (announced_run e _ _ _)
  · next hx =>
    rw [hx] at handed
    exact handed

theorem closeMismatch_run (e : Env) (g : Nat) (p : Pos) (w : Work) : RunFrame w (closeMismatch e g p w) := by
  unfold closeMismatch
  split
  · exact .refl w
  · split
    · exact (announced_run e _ _ _).after ⟨rfl, rfl, le_rfl, rfl⟩
    · exact .refl w

theorem enterDefect_run (e : Env) (i c : Nat) (s : Pos) (n : Nat) (w : Work) :
    RunFrame w (enterDefect e i c s n w).1 := by
  unfold enterDefect
  split
  · dsimp only
    split
    · exact (announced_run e _ _ _).after ⟨rfl, rfl, le_rfl, rfl⟩
    · exact ⟨rfl, rfl, le_rfl, rfl⟩
  · dsimp only
    split
    · exact raiseAlarm_run _ _ _ _
    · next m _ =>
      split
      · exact (announceExtent_run e _ _).after ⟨rfl, rfl, le_rfl, rfl⟩
      · set w1 := announce e { w with track := w.track.remove m.tag, owed := { w.owed with extend := true } }
        have left : RunFrame w w1 := (announce_run e _).after ⟨rfl, rfl, le_rfl, rfl⟩
        have put : ∀ t, RunFrame w { w1 with track := t } := fun t => left.trans ⟨rfl, rfl, le_rfl, rfl⟩
        split
        · exact (put _).trans (announced_run e _ _ _)
        · exact put _

/-! ## The change chain (R98, R103, R104) -/

theorem link_run (w : Work) (i j : Nat) (m : Mark) : RunFrame w (w.link i j m) := by
  refine RunFrame.trans ?_ (updOrder_run _ j fun _ => rfl)
  exact updOrder_run w i fun _ => rfl

theorem extendLoop_run (e : Env) : ∀ (n : Nat) (w : Work), RunFrame w (extendLoop e n w)
  | 0, w => .refl w
  | n + 1, w => by
    unfold extendLoop
    split
    · exact .refl w
    · next i j _ =>
      have planned : ∀ k : Order → Nat, RunFrame w (w.updOrder i.tag fun o => { o with planned := k o }) := fun k =>
        updOrder_run w i.tag fun _ => rfl
      split
      · dsimp only
        split
        · exact (planned Order.plannedNow).trans ⟨rfl, rfl, le_rfl, rfl⟩
        · next p _ =>
          split
          · have recorded := (planned fun _ => p.planned).trans
              (recordMark_run e (.change i.tag j.tag .planned false) p.pos 0 _)
            split
            · next h =>
              rw [h] at recorded
              exact recorded
            · next m h =>
              rw [h] at recorded
              have told := (recorded.trans (link_run _ i.tag j.tag m)).trans (announceExtent_run e m _)
              refine RunFrame.trans (told.trans ?_) (extendLoop_run e n _)
              exact (evaluateOne_run e m.entry _).after ⟨rfl, rfl, le_rfl, rfl⟩
          · split
            · next h => exact ((planned fun _ => p.planned).trans (freeEntry_run h)).trans (extendLoop_run e n _)
            · exact ((planned fun _ => p.planned).trans (raiseAlarm_run e .trackFull (.order j.tag) _)).trans
                ⟨rfl, rfl, le_rfl, rfl⟩
      · exact .refl w

theorem extendChain_run (e : Env) (w : Work) : RunFrame w (extendChain e w) := by
  refine RunFrame.trans ?_ (extendLoop_run e _ _)
  exact ⟨rfl, rfl, le_rfl, rfl⟩

theorem relead_run (g k : Nat) (w : Work) : RunFrame w (relead g k w) := by
  unfold relead
  split
  · exact .refl w
  · next m _ =>
    split
    · next i j st late _ =>
      have left : RunFrame w (w.updOrder j fun o => { o with startTag := none, startPos := none }) :=
        updOrder_run w j fun _ => rfl
      exact (left.trans (updOrder_run _ k
        (f := fun o => { o with startTag := some g, startPos := some m.start }) fun _ => rfl)).trans ⟨rfl, rfl, le_rfl, rfl⟩
    · exact .refl w

theorem placeAfresh_run (e : Env) (g : Nat) (w : Work) : RunFrame w (placeAfresh e g w) := by
  unfold placeAfresh
  split
  · exact .refl w
  · refine RunFrame.trans ?_ (placeAll_run (announce_run e) e _ _)
    exact updOrder_run w _ fun _ => rfl

theorem leadTo_run (e : Env) (g k : Nat) (w : Work) : RunFrame w (leadTo e g k w) :=
  ((relead_run g k w).trans (placeAfresh_run e g _)).trans (extendChain_run e _)

theorem removeLater_run (e : Env) (g : Nat) (w : Work) : RunFrame w (removeLater e g w) :=
  removeChanges_run (announce_run e) _ w

theorem replan_run (e : Env) (g k : Nat) (w : Work) : RunFrame w (replan e g k w) :=
  (removeLater_run e g w).trans (leadTo_run e g k _)

theorem removeEnd_run (e : Env) (o : Option Order) (w : Work) : RunFrame w (removeEnd e o w) := by
  unfold removeEnd
  split
  · exact removeChange_run (announce_run e) w _
  · exact .refl w

theorem moveAndAnnounce_run (e : Env) (i c : Nat) (w : Work) : RunFrame w (moveAndAnnounce e i c w) :=
  moveOrder_run (announce_run e) e i c w

/-! ## Levels, fires and requirements (R75 to R80, R88) -/

theorem updStand_run (w : Work) (k : Stand) (f : StandRec → StandRec) : RunFrame w (w.updStand k f) :=
  ⟨rfl, rfl, le_rfl, rfl⟩

theorem setLevel_run (e : Env) (k : Stand) (l : ReelLevel) (u : Nat) (w : Work) : RunFrame w (setLevel e k l u w) := by
  unfold setLevel
  extract_lets r w1 w2
  have posted : RunFrame w w1 := (post_run e _ none _).after ⟨rfl, rfl, le_rfl, rfl⟩
  have raised : RunFrame w w2 := by
    unfold w2
    split
    · exact posted.trans (raiseAlarm_run _ _ _ _)
    · exact posted
  split
  · exact .refl w
  · split
    · exact raised.trans (raiseAlarm_run _ _ _ _)
    · exact raised

theorem evalLevel_run (e : Env) (k : Stand) (fresh : Bool) (w : Work) : RunFrame w (evalLevel e k fresh w) := by
  unfold evalLevel
  dsimp only
  split <;> exact setLevel_run e k _ _ w

theorem fire_run (e : Env) (k : Stand) (w : Work) : RunFrame w (fire e k w) := by
  refine RunFrame.trans ?_ (post_run e _ none _)
  exact (pulse_run e _ _).after ⟨rfl, rfl, le_rfl, rfl⟩

theorem evalFire_run (e : Env) (sudden : Bool) (k : Stand) (w : Work) : RunFrame w (evalFire e sudden k w) := by
  rcases evalFire_cases e sudden k w with h | ⟨_, _, h | ⟨_, _, h⟩⟩ <;> rw [h]
  · exact .refl w
  · exact fire_run e k w
  · exact (fire_run e k w).trans (raiseAlarm_run _ _ _ _)

theorem evalFires_run (e : Env) (w : Work) : RunFrame w (evalFires e w) :=
  foldl_run (fun w k => evalFire_run e false k w) allStands w

theorem standAdvance_run (e : Env) (c : Encoder) (w : Work) : RunFrame w (standAdvance e c w) := by
  have levels : ∀ w k, RunFrame w (evalLevel e k false (w.updStand k (noteSpent e k))) := fun w k =>
    (updStand_run w k _).trans (evalLevel_run e k false _)
  exact (foldl_run levels _ w).trans (evalFires_run e _)

theorem requirementRule_run (e : Env) (k : Stand) (w : Work) : RunFrame w (requirementRule e k w) := by
  unfold requirementRule
  split
  · exact .refl w
  · split
    · exact .refl w
    · exact (updStand_run w k _).trans (evalFire_run e true k _)

theorem requirementRules_run (e : Env) (w : Work) : RunFrame w (requirementRules e w) :=
  foldl_run (fun w k => requirementRule_run e k w) allStands w

/-! ## Joints and arrivals (R83, R85, R89 to R92, R98) -/

theorem openAt_run (e : Env) (k : Stand) (s : Pos) (w : Work) : RunFrame w (openAt e k s w) := by
  have entered := enterMark_run e (.mismatch k true) (Pos.at s.val) 0 w
  unfold openAt
  split
  · next hx =>
    rw [hx] at entered
    exact entered.trans (updStand_run _ k _)
  · next hx =>
    rw [hx] at entered
    exact entered

theorem settleOpen_run (e : Env) (k : Stand) (c : JointCase) (w : Work) : RunFrame w (settleOpen e k c w).1 := by
  unfold settleOpen
  split
  · exact .refl w
  · split
    · exact .refl w
    · split
      · exact .refl w
      · dsimp only
        exact (closeMismatch_run e _ _ w).trans (updStand_run _ k _)

theorem testRequirement_run (e : Env) (k : Stand) (c : JointCase) (closed : Bool) (w : Work) :
    RunFrame w (testRequirement e k c closed w).1 := by
  unfold testRequirement
  split
  · exact .refl w
  · split
    · dsimp only
      split
      · exact (enterMark_run e _ _ _ w).trans (updStand_run _ k _)
      · exact updStand_run w k _
    · exact .refl w

theorem openUnsuited_run (e : Env) (k : Stand) (c : JointCase) (handed : Bool) (w : Work) :
    RunFrame w (openUnsuited e k c handed w) := by
  unfold openUnsuited
  dsimp only
  split
  · exact openAt_run e k _ w
  · exact .refl w

theorem mismatchAtJoint_run (e : Env) (k : Stand) (c : JointCase) (w : Work) : RunFrame w (mismatchAtJoint e k c w) :=
  ((settleOpen_run e k c w).trans (testRequirement_run e k c _ _)).trans (openUnsuited_run e k c _ _)

theorem enterJoint_run (e : Env) (k : Stand) (j : Word) (estimated : Bool) (w : Work) :
    RunFrame w (enterJoint e k j estimated w).1 := enterMark_run e _ _ _ w

theorem makeJoint_run (e : Env) (k : Stand) (j : Word) (estimated : Bool) (w : Work) :
    RunFrame w (makeJoint e k j estimated w).1 := by
  have entered := enterJoint_run e k j estimated w
  unfold makeJoint
  rcases hx : enterJoint e k j estimated w with ⟨w1, tag⟩
  rw [hx] at entered
  dsimp only
  have swapped : RunFrame w (swapReels e k j w1) := entered.trans ((updStand_run w1 k _).trans (evalLevel_run e k true _))
  exact ((swapped.trans (mismatchAtJoint_run e k _ _)).trans (requirementRule_run e k _)).trans (updStand_run _ k _)

theorem failSplice_run (e : Env) (k : Stand) (w : Work) : RunFrame w (failSplice e k w) :=
  (updStand_run w k _).trans (raiseAlarm_run _ _ _ _)

theorem standArrival_run (e : Env) (t : Pos) (j : Nat) (w : Work) (k : Stand) : RunFrame w (standArrival e t j w k) := by
  unfold standArrival
  extract_lets r dealt w1
  split
  · exact .refl w
  · refine RunFrame.trans ?_ (requirementRule_run e k w1)
    unfold w1
    split
    · split
      · exact (closeMismatch_run e _ t w).trans (updStand_run _ k _)
      · exact .refl w
    · split
      · exact openAt_run e k t w
      · exact .refl w

theorem runOrder_run (e : Env) (j : Nat) (w : Work) : RunFrame w (runOrder e j w) := by
  have running : RunFrame w { w with seq := { w.seq with running := some j } } := ⟨rfl, rfl, le_rfl, rfl⟩
  refine (running.trans ?_).trans (extendChain_run e _)
  exact updOrder_run _ j fun _ => rfl

theorem arrive_run (e : Env) (m : Mark) (w : Work) : RunFrame w (arrive e m w) := by
  unfold arrive
  split
  · exact .refl w
  · exact (runOrder_run e _ w).trans (foldl_run (fun w k => standArrival_run e _ _ w k) allStands _)

theorem evaluateAll_run (e : Env) (w : Work) : RunFrame w (evaluateAll e w) :=
  evaluate_run (arrive_run e) e false _ none w

/-! ## Proposals issued and their results formed (R114, R115, R119, R121) -/

theorem postProposal_run (e : Env) (tag g : Nat) (sc : Scope) (w : Work) (r : Role) :
    RunFrame w (postProposal e tag g sc w r) := by
  unfold postProposal
  split
  · split
    · exact post_run _ _ _ _
    · exact .refl w
  · exact .refl w

theorem issue_run (e : Env) (old : Nat) (sc : Scope) (w : Work) : RunFrame w (issue e old sc w) := by
  unfold issue
  split
  · exact .refl w
  · refine RunFrame.trans ?_ (foldl_run (postProposal_run e _ _ sc) [Role.dry, Role.wet] _)
    exact (updProposal_run w old _).trans ⟨rfl, rfl, le_rfl, rfl⟩

theorem postResult_run (e : Env) (p : Proposal) (r : Result) (n : Nat) (stalled : Bool) (w : Work) :
    RunFrame w (postResult e p r n stalled w) := by
  unfold postResult
  split
  · exact .refl w
  · exact post_run _ _ _ _

theorem formResult_run (e : Env) (p : Proposal) (w : Work) : RunFrame w (formResult e p w) := by
  unfold formResult
  extract_lets q r count w1 w2
  have formed : RunFrame w w2 :=
    ((updProposal_run w p.tag _).trans (removeUntaken_run p.tag _)).trans (postResult_run e p r count false w1)
  split
  · exact formed.trans (issue_run e _ _ w2)
  · exact formed

theorem withdrawYounger_run (g : Nat) (w : Work) : RunFrame w (withdrawYounger g w) :=
  foldl_run (fun w g => withdrawFor_run g w) _ w

theorem commitMark_run (e : Env) (g : Nat) (w : Work) : RunFrame w (commitMark e g w) := by
  unfold commitMark
  split
  · exact .refl w
  · split
    · exact (evaluate_run (arrive_run e) e true _ _ _).after ⟨rfl, rfl, le_rfl, rfl⟩
    · exact .refl w

theorem effectCommitted_run (e : Env) (p : Proposal) (w : Work) : RunFrame w (effectCommitted e p w) := by
  have committed := commitMark_run e p.changeTag w
  unfold effectCommitted
  dsimp only
  refine RunFrame.trans (RunFrame.trans ?_ (requirementRules_run e _)) (endProposal_run _ p.tag)
  split
  · exact committed.trans (updOrder_run _ _ fun _ => rfl)
  · exact committed

theorem countDeferral_run (i g : Nat) (w : Work) : RunFrame w (countDeferral i g w) := by
  refine RunFrame.trans (b := w.updOrder i fun o => { o with deferrals := o.deferrals + 1 }) ?_
    ⟨rfl, rfl, (List.length_map _).le, rfl⟩
  exact updOrder_run w i fun _ => rfl

end Sys2Proof.Machine
end

section
/-! SUPPORT. The capacities of the order queue, the proposal list and the completion log (`Work.RunRoom`): through the results of
proposals and the settling of what an event owes, through every request, through the sheet unit, and through every command. -/

namespace Sys2Proof.Machine

/-! ## The capacities -/

theorem RunFrame.live_tags {w w' : Work} (h : RunFrame w w') : w'.seq.live.map Order.tag = w.seq.live.map Order.tag := by
  simp only [Sequencer.live, List.map_append, h.sequence, h.held]

theorem Work.RunRoom.frame {w w' : Work} (h : w.RunRoom) (g : RunFrame w w') : w'.RunRoom where
  orders := by
    have lengths := congrArg List.length g.live_tags
    rw [List.length_map, List.length_map] at lengths
    exact lengths.trans_le h.orders
  proposals := g.proposals.trans h.proposals
  log := g.log ▸ h.log

/-- Another queue of no more orders. -/
theorem Work.RunRoom.requeue {w : Work} (h : w.RunRoom) {q : Sequencer} (hq : q.live.length ≤ w.seq.live.length) :
    Work.RunRoom { w with seq := q } := ⟨hq.trans h.orders, h.proposals, h.log⟩

theorem foldl_runRoom {α : Type} {f : Work → α → Work} (hf : ∀ w x, w.RunRoom → (f w x).RunRoom) (l : List α)
    {w : Work} (h : w.RunRoom) : (l.foldl f w).RunRoom := List.foldlRecOn l f h fun w hw x _ => hf w x hw

/-- The orders without the one found are fewer. -/
theorem others_length_lt {l : List Order} {tag : Nat} {o : Order} (h : l.find? (fun x => x.tag == tag) = some o) :
    (l.filter fun x => x.tag != tag).length < l.length :=
  List.length_filter_lt_length_iff_exists.mpr
    ⟨o, List.mem_of_find?_eq_some h, by simpa using List.find?_some h⟩

/-! ## Results of proposals, and settling (R106, R113 to R126) -/

/-- A refused order leaves the sequence for the held list (R106). -/
theorem holdOrder_runRoom (j : Nat) {w : Work} (h : w.RunRoom) : (holdOrder j w).RunRoom := by
  unfold holdOrder
  split
  · exact h
  · next o ho =>
    refine h.requeue ?_
    have fewer := others_length_lt ho
    simp only [Sequencer.live, List.length_append, List.length_singleton]
    omega

theorem refusalHold_runRoom (e : Env) (g j : Nat) {w : Work} (h : w.RunRoom) : (refusalHold e g j w).RunRoom := by
  have held := (holdOrder_runRoom j h).frame (removeEnd_run e (w.seq.find j) _)
  unfold refusalHold
  dsimp only
  split
  · exact held.frame (replan_run e g _ _)
  · exact held.frame ((removeChange_run (announce_run e) _ g).trans (extendChain_run e _))

theorem effectRefused_runRoom (e : Env) (p : Proposal) {w : Work} (h : w.RunRoom) : (effectRefused e p w).RunRoom := by
  unfold effectRefused
  extract_lets w1 w2 w3
  have ended : w3.RunRoom :=
    ((h.frame (withdrawYounger_run p.changeTag w)).frame (w' := w2) ⟨rfl, rfl, le_rfl, rfl⟩).frame (endProposal_run w2 p.tag)
  split
  · exact refusalHold_runRoom e _ _ ended
  · exact ended

theorem stall_runRoom (e : Env) (p : Proposal) (n : Nat) {w : Work} (h : w.RunRoom) : (stall e p n w).RunRoom := by
  unfold stall
  split
  · exact h
  · refine effectRefused_runRoom e p (h.frame ?_)
    exact (((updProposal_run w p.tag _).trans (removeUntaken_run p.tag _)).trans (raiseAlarm_run _ _ _ _)).trans
      (postResult_run e p .refused n true _)

theorem effectDeferred_runRoom (e : Env) (p : Proposal) {w : Work} (h : w.RunRoom) : (effectDeferred e p w).RunRoom := by
  unfold effectDeferred
  split
  · exact h.frame (endProposal_run w p.tag)
  · next i _ _ =>
    have counted := h.frame ((withdrawYounger_run p.changeTag w).trans (countDeferral_run i p.changeTag _))
    dsimp only
    split
    · exact stall_runRoom e p _ counted
    · exact counted.frame ((updProposal_run _ p.tag _).trans (moveAndAnnounce_run e i 1 _))

theorem takeEffect_runRoom {e : Env} {w w' : Work} (h : w.RunRoom) (ht : takeEffect e w = some w') : w'.RunRoom := by
  unfold takeEffect at ht
  repeat' split at ht
  · cases ht
  · exact Option.some.inj ht ▸ h.frame (effectCommitted_run e _ w)
  · exact Option.some.inj ht ▸ effectDeferred_runRoom e _ h
  · exact Option.some.inj ht ▸ effectRefused_runRoom e _ h
  all_goals cases ht

theorem guardMark_runRoom (e : Env) {w : Work} (g : Nat) (h : w.RunRoom) : (guardMark e w g).RunRoom := by
  unfold guardMark
  split
  · exact h
  · split
    · exact h
    · next i _ _ =>
      split
      · have counted := h.frame ((moveAndAnnounce_run e i 1 w).trans (countDeferral_run i g _))
        dsimp only
        split
        · split
          · exact stall_runRoom e _ _ counted
          · exact counted
        · exact counted
      · exact h

theorem retryWaiting_run (e : Env) (w : Work) : RunFrame w (retryWaiting e w) := by
  unfold retryWaiting
  split
  · exact issue_run e _ _ w
  · exact .refl w

/-- A first issue takes one more entry of a proposal list that has room (R113, R114). -/
theorem firstIssue_runRoom (e : Env) (m : Mark) {w : Work} (h : w.RunRoom) (room : w.prop.list.length < 4) :
    (firstIssue e m w).RunRoom := by
  unfold firstIssue
  split
  · exact h
  · refine Work.RunRoom.frame ?_ (issue_run e _ _ _)
    exact ⟨h.orders, List.length_append.trans_le room, h.log⟩

theorem dueMark_room {e : Env} {w : Work} {m : Mark} (h : dueMark e w = some m) : w.prop.list.length < 4 := by
  unfold dueMark at h
  split at h
  · next due => exact due.2.1
  · cases h

theorem dueTest_runRoom (e : Env) {w : Work} (h : w.RunRoom) : (dueTest e w).RunRoom := by
  have guarded : (guardAll e { w with owed := { w.owed with due := false } }).RunRoom :=
    foldl_runRoom (fun _ g hw => guardMark_runRoom e g hw) _ ⟨h.orders, h.proposals, h.log⟩
  have retried := guarded.frame (retryWaiting_run e _)
  have owed : ∀ {w : Work}, w.RunRoom → w.oweDue.RunRoom := fun h => ⟨h.orders, h.proposals, h.log⟩
  rcases dueTest_cases e w _ rfl with ⟨_, hd⟩ | ⟨_, _, hd⟩ | ⟨m, _, hm, hd⟩ <;> rw [hd]
  · exact owed retried
  · exact retried
  · exact owed (firstIssue_runRoom e m retried (dueMark_room hm))

theorem settleRound_runRoom {e : Env} {w w' : Work} (h : w.RunRoom) (hs : settleRound e w = some w') : w'.RunRoom := by
  unfold settleRound at hs
  split at hs
  · next ht =>
    cases hs
    exact takeEffect_runRoom h ht
  · split at hs
    · cases hs
      exact h.frame (formResult_run e _ w)
    · split at hs
      · cases hs
        split
        · exact h.frame (extendChain_run e w)
        · exact ⟨h.orders, h.proposals, h.log⟩
      · split at hs
        · cases hs
          exact dueTest_runRoom e h
        · cases hs

theorem settleLoop_runRoom (e : Env) : ∀ (n : Nat) {w : Work}, w.RunRoom → (settleLoop e n w).RunRoom
  | 0, _, h => h
  | n + 1, w, h => by
    unfold settleLoop
    split
    · next hs => exact settleLoop_runRoom e n (settleRound_runRoom h hs)
    · exact h

/-- Settling keeps the capacities. -/
theorem settle_runRoom (e : Env) {w : Work} (h : w.RunRoom) : (settle e w).RunRoom := settleLoop_runRoom e _ h

theorem proposalTest_runRoom (e : Env) {w : Work} (h : w.RunRoom) : (proposalTest e w).RunRoom :=
  settle_runRoom e ⟨h.orders, h.proposals, h.log⟩

/-! ## Bridges (R11, R12) -/

theorem raiseWhere_run (c : Bool) (e : Env) (k : AlarmKind) (x : Subject) (w : Work) :
    RunFrame w (raiseWhere c e k x w) := by
  unfold raiseWhere
  split
  · exact raiseAlarm_run e k x w
  · exact .refl w

theorem setFill_run (e : Env) (k : Bridge) (v : Int) (always : Bool) (w : Work) :
    RunFrame w (setFill e k v always w).2 := by
  rw [setFill_work]
  exact (((raiseWhere_run _ _ _ _ w).trans (raiseWhere_run _ _ _ _ _)).trans (raiseWhere_run _ _ _ _ _)).trans
    (raiseWhere_run _ _ _ _ _)

/-- Fills set one after another. -/
theorem foldl_fills_run {f : Env × Work → Bridge → Env × Work} (hf : ∀ x k, RunFrame x.2 (f x k).2) (l : List Bridge)
    (e : Env) (w : Work) : RunFrame w (l.foldl f (e, w)).2 :=
  List.foldlRecOn (motive := fun x => RunFrame w x.2) l f (.refl w) fun x hx k _ => hx.trans (hf x k)

theorem acceptTable_run (e : Env) (t : LineTable) (w : Work) : RunFrame w (acceptTable e t w).2 := by
  unfold acceptTable
  exact foldl_fills_run (f := refitFill) (fun x k => setFill_run x.1 k _ true x.2) allBridges _ w

theorem advanceFills_run (e : Env) (c : Encoder) (n : Nat) (w : Work) : RunFrame w (advanceFills e c n w).2 := by
  unfold advanceFills
  exact foldl_fills_run (f := shiftFills c n) (fun x k => setFill_run x.1 k _ false x.2) allBridges _ w

/-! ## Requests -/

section
variable (p : Port) (e : Env) {w : Work} (body : List Byte) (h : w.RunRoom)
include h

theorem applyStatus_runRoom : (applyStatus p e w body).work.RunRoom := by
  unfold applyStatus
  split <;> exact h

theorem applyPeek_runRoom : (applyPeek p e w body).work.RunRoom := by
  unfold applyPeek
  split <;> exact h

theorem applyTake_runRoom : (applyTake p e w body).work.RunRoom := by
  unfold applyTake
  repeat' split
  all_goals exact h.frame ⟨rfl, rfl, le_rfl, rfl⟩

theorem applyDone_runRoom : (applyDone p e w body).work.RunRoom := by
  unfold applyDone
  split
  · exact h
  · split
    · exact h
    · exact h.frame ((noticeGivenUp_run e _ w).trans (finishTaken_run e p _ _))

theorem applyFloor_runRoom : (applyFloor p e w body).work.RunRoom := by
  unfold applyFloor
  split
  · exact h
  · split
    · exact h
    · exact h.frame (afterFloor_run _ p _ w)

theorem applyLineTable_runRoom : (applyLineTable e w body).work.RunRoom := by
  unfold applyLineTable
  split
  · exact h
  · split
    · exact h
    · split
      · exact h
      · exact h.frame (acceptTable_run e _ w)

theorem applyStationSet_runRoom : (applyStationSet e w body).work.RunRoom := by
  unfold applyStationSet stageAndApply
  repeat' split
  all_goals exact ⟨h.orders, h.proposals, h.log⟩

theorem applyRecipeSet_runRoom : (applyRecipeSet e w body).work.RunRoom := by
  unfold applyRecipeSet
  repeat' split
  all_goals exact h

theorem applyProfileSet_runRoom : (applyProfileSet e w body).work.RunRoom := by
  unfold applyProfileSet
  repeat' split
  all_goals exact h

theorem applyClassSet_runRoom : (applyClassSet e w body).work.RunRoom := by
  unfold applyClassSet
  repeat' split
  all_goals exact h

theorem applyRelaySet_runRoom : (applyRelaySet e w body).work.RunRoom := by
  unfold applyRelaySet
  repeat' split
  all_goals exact h

theorem applyAlarmEnable_runRoom : (applyAlarmEnable e w body).work.RunRoom := by
  unfold applyAlarmEnable
  repeat' split
  all_goals exact h

theorem applyAlarmClear_runRoom : (applyAlarmClear e w body).work.RunRoom := by
  unfold applyAlarmClear
  repeat' split
  all_goals exact ⟨h.orders, h.proposals, h.log⟩

omit h in
theorem openAll_run (w : Work) : RunFrame w (openAll e w).2 := by
  unfold openAll
  dsimp only
  exact foldl_run (fun w _ => reoffer_run _ w) allPorts w

theorem applyOpen_runRoom : (applyOpen e w body).work.RunRoom := by
  unfold applyOpen
  split
  · split
    · exact h
    · split
      · exact h
      · dsimp only
        split
        · exact h
        · dsimp only [answerOk]
          exact h.frame (openAll_run _ w)
  · exact h

omit h in
/-- The first order of a run stays where it is in the sequence (R108). -/
theorem startRun_run (f : Nat) (m : Mark) (w : Work) : RunFrame w (startRun e f m w).2 := by
  have ordered : RunFrame w (w.updOrder f fun o =>
      { o with startPos := some m.start, startTag := some m.tag, planned := o.plannedNow }) := updOrder_run w f fun _ => rfl
  have begun : RunFrame w (w.beginRun f m) := ordered.trans ⟨rfl, rfl, le_rfl, rfl⟩
  have passed := evaluate_run (arrive_run { e with run := .running }) { e with run := .running } true [m.entry]
    (some m.entry) (w.beginRun f m)
  unfold startRun
  dsimp only
  exact ((begun.trans passed).trans (requirementRules_run _ _)).trans (extendChain_run _ _)

theorem startWith_runRoom (f g gap : Nat) : (startWith e w f g gap).work.RunRoom := by
  have handed := handIn_run e (.change 0 f .committed false) (firstChange e g gap) 0 w
  unfold startWith
  dsimp only
  split
  · next hx =>
    rw [hx] at handed
    exact h.frame handed
  · next m hx =>
    rw [hx] at handed
    dsimp only
    exact h.frame ((handed.trans (announceExtent_run e m _)).trans (startRun_run e f m _))

theorem applyStart_runRoom : (applyStart e w body).work.RunRoom := by
  unfold applyStart
  split
  · exact h
  · split
    · exact h
    · split
      · exact h
      · split
        · split
          · exact startWith_runRoom e h _ _ _
          · exact h
        · exact h

omit h in
theorem insertBefore_length (n : Order) (x : Nat) : ∀ l : List Order, (insertBefore n x l).length = l.length + 1
  | [] => rfl
  | o :: l => by
    unfold insertBefore
    split
    · rfl
    · exact congrArg (· + 1) (insertBefore_length n x l)

/-- An order enters a queue that has room for it (R99). -/
theorem enterOrder_runRoom (g : OrderSpec) (place : OrderPlace) (room : w.seq.live.length < 32) :
    (w.enterOrder g place).RunRoom := by
  refine ⟨?_, h.proposals, h.log⟩
  simp only [Sequencer.live, List.length_append] at room
  cases place with
  | tail =>
    simp only [Work.enterOrder, Sequencer.live, List.length_append, List.length_singleton]
    omega
  | before x =>
    simp only [Work.enterOrder, Sequencer.live, List.length_append, insertBefore_length]
    omega

omit h in
theorem addCode_room {g : OrderSpec} {place : OrderPlace} (ok : addCode w g place = .ok) : w.seq.live.length < 32 := by
  unfold addCode at ok
  split at ok
  · cases ok
  · split at ok
    · cases ok
    · next room => exact Nat.lt_of_not_le room

theorem applyOrderAdd_runRoom : (applyOrderAdd e w body).work.RunRoom := by
  unfold applyOrderAdd
  split
  · exact h
  · next g place _ =>
    split
    · exact h
    · split
      · next ok =>
        have entered := enterOrder_runRoom h g place (addCode_room ok)
        unfold addOrder
        dsimp only
        split
        · exact entered.frame (extendChain_run e _)
        · exact entered.frame (replan_run e _ _ _)
      · exact h

theorem dropOrder_runRoom (tag : Nat) : (w.dropOrder tag).RunRoom := by
  refine h.requeue ?_
  simp only [Sequencer.live, List.length_append]
  exact Nat.add_le_add (List.length_filter_le _ _) (List.length_filter_le _ _)

theorem withdrawOrder_runRoom (o : Order) : (withdrawOrder e o w).RunRoom := by
  unfold withdrawOrder
  split
  · exact (dropOrder_runRoom h o.tag).frame (extendChain_run e _)
  · next m _ =>
    split
    · have left := h.frame ((removeEnd_run e (some o) w).trans (removeLater_run e m.tag _))
      exact (dropOrder_runRoom left o.tag).frame (leadTo_run e m.tag _ _)
    · have left := h.frame (removeChange_run (announce_run e) w m.tag)
      exact (dropOrder_runRoom left o.tag).frame (extendChain_run e _)

theorem applyOrderWithdraw_runRoom : (applyOrderWithdraw e w body).work.RunRoom := by
  unfold applyOrderWithdraw
  split
  · exact h
  · split
    · exact h
    · split
      · exact withdrawOrder_runRoom e h _
      · exact h

/-- A held order goes back to the sequence (R101). -/
theorem release_runRoom {o : Order} {tag : Nat} (ho : w.seq.held.find? (fun x => x.tag == tag) = some o) :
    (w.release o).RunRoom := by
  refine h.requeue ?_
  have same : o.tag = tag := by simpa using List.find?_some ho
  have fewer := others_length_lt ho
  simp only [Sequencer.live, List.length_append, List.length_singleton, same]
  omega

theorem applyOrderRelease_runRoom : (applyOrderRelease e w body).work.RunRoom := by
  unfold applyOrderRelease
  split
  · exact h
  · split
    · exact h
    · exact h
    · next ho => exact (release_runRoom h ho).frame (extendChain_run e _)

theorem applyLineReset_runRoom : (applyLineReset e w body).work.RunRoom := by
  unfold applyLineReset
  split
  · exact h
  · exact ⟨Nat.zero_le 32, Nat.zero_le 4, h.log⟩

theorem applyLogTake_runRoom : (applyLogTake e w body).work.RunRoom := by
  have log := h.log
  unfold applyLogTake
  split
  · exact h
  · split
    · exact h
    · next hl =>
      rw [hl, List.length_cons] at log
      exact ⟨h.orders, h.proposals, Nat.le_of_succ_le log⟩

theorem applyStandSet_runRoom : (applyStandSet e w body).work.RunRoom := by
  unfold applyStandSet
  split
  · exact h
  · split
    · split
      · refine h.frame (RunFrame.trans ?_ (evalFire_run _ false _ _))
        refine RunFrame.trans ?_ (updStand_run _ _ _)
        split
        · exact evalLevel_run _ _ false w
        · exact .refl w
      · exact h
    · exact h

omit h in
/-- A level evaluated and the fire conditions after it, round a stand rewritten. -/
theorem evaluated_run (k : Stand) (fresh : Bool) (f : StandRec → StandRec) (w : Work) :
    RunFrame w (evalFire e false k ((evalLevel e k fresh (w.updStand k f)).updStand k StandRec.rephase)) :=
  (((updStand_run w k f).trans (evalLevel_run e k fresh _)).trans (updStand_run _ k _)).trans (evalFire_run e false k _)

theorem applyReelLoad_runRoom : (applyReelLoad p e w body).work.RunRoom := by
  unfold applyReelLoad
  split
  · dsimp only
    split
    · exact h
    · split
      · unfold loadReel
        dsimp only
        split
        · exact h
        · split
          · exact h.frame (evaluated_run _ _ true _ w)
          · exact h.frame ((updStand_run w _ _).trans (evalFire_run _ true _ _))
      · exact h
  · exact h

omit h in
theorem removeReady_run (k : Stand) (w : Work) : RunFrame w (removeReady e k w) := by
  have removed := (updStand_run w k fun r => { r with ready := none }.rephase).trans (evalFire_run e false k _)
  unfold removeReady
  dsimp only
  split
  · exact removed.trans (raiseAlarm_run _ _ _ _)
  · exact removed

theorem applyReelRemove_runRoom : (applyReelRemove e w body).work.RunRoom := by
  unfold applyReelRemove
  split
  · split
    · unfold removeReel
      dsimp only
      split
      · exact h
      · split
        · split
          · exact h
          · exact h.frame (removeReady_run e _ w)
        · split
          · exact h
          · split
            · exact h
            · exact h.frame (evaluated_run e _ false _ w)
    · exact h
  · exact h

theorem applyDiameter_runRoom : (applyDiameter p e w body).work.RunRoom := by
  unfold applyDiameter
  split
  · split
    · unfold setDiameter
      split
      · exact h.frame (evaluated_run _ _ false _ w)
      · exact h
      · exact h
    · exact h
  · exact h

theorem applyJoint_runRoom : (applyJoint e w body).work.RunRoom := by
  unfold applyJoint
  split
  · unfold reportJoint
    dsimp only
    split
    · exact h.frame ((updStand_run w _ _).trans (enterJoint_run e _ _ _ _))
    · exact h.frame (makeJoint_run e _ _ _ w)
  · exact h

theorem applySpliceFail_runRoom : (applySpliceFail e w body).work.RunRoom := by
  unfold applySpliceFail
  split
  · split
    · exact h.frame (failSplice_run e _ w)
    · exact h
  · exact h

theorem applyStandEnable_runRoom : (applyStandEnable e w body).work.RunRoom := by
  unfold applyStandEnable
  split
  · split
    · exact h.frame ((updStand_run w _ _).trans (evalFire_run e _ _ _))
    · exact h
  · exact h

theorem afterFill_runRoom : (afterFill e w).RunRoom :=
  proposalTest_runRoom e (h.frame ((evaluateAll_run e w).trans (evalFires_run e _)))

theorem applyBridgeSet_runRoom : (applyBridgeSet e w body).work.RunRoom := by
  unfold applyBridgeSet
  split
  · split
    · exact h
    · dsimp only
      exact afterFill_runRoom _ (h.frame (setFill_run e _ _ true w))
  · exact h

omit h in
theorem finishProposal_run (tag : Nat) (w : Work) : RunFrame w (finishProposal e p tag w) :=
  (finishTaken_run e p (Notice.isProposal tag) w).trans ⟨rfl, rfl, le_rfl, rfl⟩

theorem applyRespond_runRoom : (applyRespond p e w body).work.RunRoom := by
  unfold applyRespond
  split
  · split
    · unfold recordResponse
      dsimp only
      split
      · exact h.frame (finishTaken_run e p _ w)
      · split
        · exact h.frame ((updProposal_run w _ _).trans (finishProposal_run p e _ _))
        · exact h.frame (finishProposal_run p e _ w)
    · exact h
  · exact h

theorem applySetupDone_runRoom : (applySetupDone e w body).work.RunRoom := by
  unfold applySetupDone
  repeat' split
  all_goals exact h.frame ⟨rfl, rfl, le_rfl, rfl⟩

omit h in
theorem reportEscape_run (i : StationIx) (x : GateSplit) (w : Work) : RunFrame w (reportEscape e i x w) := by
  unfold reportEscape
  split
  · exact raiseAlarm_run _ _ _ _
  · exact .refl w

theorem recordDefect_runRoom (i : StationIx) (st : Station) (a c cause : Nat) :
    (recordDefect e w i st a c cause).work.RunRoom := by
  have told := h.frame (reportEscape_run e i (defectSplit e st a c) w)
  unfold recordDefect
  dsimp only
  split
  · exact told
  · exact told.frame (enterDefect_run e _ _ _ _ _)

theorem applyDefect_runRoom : (applyDefect e w body).work.RunRoom := by
  unfold applyDefect
  split
  · exact h
  · split
    · split
      · exact h
      · split
        · exact h
        · split
          · exact h
          · exact recordDefect_runRoom e h _ _ _ _ _
    · exact h

end

/-- Every request keeps the capacities. -/
theorem request_runRoom (p : Port) (r : Request) (e : Env) {w : Work} (body : List Byte) (h : w.RunRoom) :
    (r.meaning p e w body).work.RunRoom := by
  cases r with
  | status => exact applyStatus_runRoom p e body h
  | read => exact h
  | peek => exact applyPeek_runRoom p e body h
  | take => exact applyTake_runRoom p e body h
  | done => exact applyDone_runRoom p e body h
  | floor => exact applyFloor_runRoom p e body h
  | lineTable => exact applyLineTable_runRoom e body h
  | stationSet => exact applyStationSet_runRoom e body h
  | recipeSet => exact applyRecipeSet_runRoom e body h
  | profileSet => exact applyProfileSet_runRoom e body h
  | classSet => exact applyClassSet_runRoom e body h
  | relaySet => exact applyRelaySet_runRoom e body h
  | alarmEnable => exact applyAlarmEnable_runRoom e body h
  | alarmClear => exact applyAlarmClear_runRoom e body h
  | openPart => exact applyOpen_runRoom e body h
  | start => exact applyStart_runRoom e body h
  | orderAdd => exact applyOrderAdd_runRoom e body h
  | orderWithdraw => exact applyOrderWithdraw_runRoom e body h
  | orderRelease => exact applyOrderRelease_runRoom e body h
  | lineReset => exact applyLineReset_runRoom e body h
  | logTake => exact applyLogTake_runRoom e body h
  | standSet => exact applyStandSet_runRoom e body h
  | reelLoad => exact applyReelLoad_runRoom p e body h
  | reelRemove => exact applyReelRemove_runRoom e body h
  | diameter => exact applyDiameter_runRoom p e body h
  | joint => exact applyJoint_runRoom e body h
  | spliceFail => exact applySpliceFail_runRoom e body h
  | standEnable => exact applyStandEnable_runRoom e body h
  | bridgeSet => exact applyBridgeSet_runRoom e body h
  | respond => exact applyRespond_runRoom p e body h
  | setupDone => exact applySetupDone_runRoom e body h
  | defect => exact applyDefect_runRoom e body h

/-- A request applied at the head of its port's queue keeps the capacities. -/
theorem applyHead_runRoom (p : Port) (r : Request) {s : State} (h : s.work.RunRoom) :
    (applyHead p r (r.meaning p) s).work.RunRoom := by
  unfold applyHead
  split
  · exact h
  · split
    · exact settle_runRoom _ (request_runRoom p r _ _ h)
    · exact h

/-! ## The sheet unit (R133 to R139) -/

/-- A full log gives up its oldest record for a new one (R139). -/
theorem writeLog_length (r : Completion) (u : SheetUnit) (h : u.log.length ≤ 16) : (writeLog r u).log.length ≤ 16 := by
  unfold writeLog
  split
  · next room =>
    rw [List.length_append]
    exact room
  · simp only [List.length_append, List.length_drop, List.length_singleton]
    omega

theorem closeStack_run (e : Env) (j : Nat) (w : Work) : RunFrame w (closeStack e j w) := by
  unfold closeStack
  split
  · exact .refl w
  · exact (updTallies_run w j _).trans (post_run e _ none _)

/-- A completed order leaves the queue, and its record is written to the log (R137, R139). -/
theorem completeOrder_runRoom (e : Env) (j : Nat) {w : Work} (h : w.RunRoom) : (completeOrder e j w).RunRoom := by
  unfold completeOrder
  split
  · exact h
  · extract_lets w1 o1 w2 w3
    have closed : w1.RunRoom := by
      unfold w1
      split
      · exact h.frame (closeStack_run e j w)
      · exact h
    have logged : w2.RunRoom := ⟨closed.orders, closed.proposals, writeLog_length _ _ closed.log⟩
    refine (logged.frame (post_run e (.order j) none w2)).requeue ?_
    simp only [Sequencer.live, List.length_append]
    exact Nat.add_le_add_right (List.length_filter_le _ _) _

theorem completionTest_runRoom (e : Env) (j : Nat) {w : Work} (h : w.RunRoom) : (completionTest e j w).RunRoom := by
  unfold completionTest
  split
  · exact h
  · split
    · exact completeOrder_runRoom e j h
    · exact h

theorem departure_runRoom (e : Env) (x : Sheet) {w : Work} (h : w.RunRoom) : (departure e x w).RunRoom := by
  unfold departure
  extract_lets sheet w1 y w2
  have left : w1.RunRoom := ⟨h.orders, h.proposals, h.log⟩
  have stacked : y.RunRoom := left.frame (updTallies_run w1 _ _)
  have departed : w2.RunRoom := by
    unfold w2
    split
    · exact left
    · split
      · split
        · exact stacked.frame (closeStack_run e _ y)
        · exact stacked
      · exact stacked
  exact completionTest_runRoom e _ departed

theorem gatePassage_run (e : Env) (x : Sheet) (w : Work) : RunFrame w (gatePassage e x w) := by
  unfold gatePassage
  extract_lets sheet w1 w2
  have passed : RunFrame w w2 := by
    unfold w2
    split
    · exact (pulse_run e 6 w1).after ⟨rfl, rfl, le_rfl, rfl⟩
    · exact ⟨rfl, rfl, le_rfl, rfl⟩
  exact (passed.trans (updTallies_run w2 _ _)).trans (announce_run e _)

theorem gateAndStacker_runRoom (e : Env) {w : Work} (x : Sheet) (h : w.RunRoom) : (gateAndStacker e w x).RunRoom := by
  unfold gateAndStacker
  extract_lets w1
  have passed : w1.RunRoom := by
    unfold w1
    split
    · split
      · exact h.frame (gatePassage_run e _ w)
      · exact h
    · exact h
  split
  · split
    · exact departure_runRoom e _ passed
    · exact passed
  · exact passed

theorem sheetAdvance_runRoom (e : Env) {w : Work} (h : w.RunRoom) : (sheetAdvance e w).RunRoom :=
  (foldl_runRoom (fun _ x hw => gateAndStacker_runRoom e x hw) w.sheet.sheets h).frame (cutTest_run e none _)

/-! ## Commands -/

/-- The check of every held position rewrites the orders and the proposals where they stand (R18). -/
theorem checkFar_run (b : Word) (w : Work) : RunFrame w (w.checkFar b) := by
  have tags : ∀ l : List Order, (l.map (Order.checkFar b)).map Order.tag = l.map Order.tag := fun l => by
    rw [List.map_map]
    rfl
  exact ⟨tags _, tags _, (List.length_map _).le, rfl⟩

theorem advanceBlocks_runRoom (e : Env) (c : Encoder) {w : Work} (h : w.RunRoom) : (advanceBlocks e c w).RunRoom := by
  unfold advanceBlocks
  extract_lets w1 w2 w3 w4
  have checked : w1.RunRoom := by
    unfold w1
    split
    · exact h.frame (checkFar_run e.b w)
    · exact h
  have passed : w2.RunRoom := checked.frame (evaluateAll_run e w1)
  have extended : w3.RunRoom := by
    unfold w3
    split
    · exact passed.frame (extendChain_run e w2)
    · exact passed
  have tested : w4.RunRoom := proposalTest_runRoom e (extended.frame (standAdvance_run e c w3))
  split
  · exact settle_runRoom e (sheetAdvance_runRoom e tested)
  · exact tested

theorem count_runRoom (e : Env) (c : Encoder) (edge : Edge) {w : Work} (h : w.RunRoom) :
    (count e c edge w).2.RunRoom := by
  unfold count
  dsimp only
  split
  · exact h
  · split
    · split
      · exact h
      · exact advanceBlocks_runRoom _ c (h.frame (advanceFills_run _ c _ w))
    · dsimp only
      split
      · exact h.frame (raiseAlarm_run _ _ _ _)
      · exact h
    · exact h
    · exact h

theorem confirmExpiry_run (e : Env) (k : Stand) (x : Snapshot) (w : Work) : RunFrame w (confirmExpiry e k x w) := by
  have joined := makeJoint_run e k x.estimate true w
  unfold confirmExpiry
  split
  · exact failSplice_run e k w
  · exact joined
  · exact joined.trans (updStand_run _ k _)

theorem frameArrival_run (e : Env) (p : Port) (bytes : List Byte) (w : Work) :
    RunFrame w (frameArrival e p bytes w).2 := by
  unfold frameArrival validArrival
  split
  · exact .refl w
  · dsimp only
    split
    · exact .refl w
    · exact .refl w
    · exact reoffer_run _ w

theorem portDown_run (e : Env) (p : Port) (w : Work) : RunFrame w (portDown e p w).2 := by
  unfold portDown
  dsimp only
  exact (emptyDesk_run _ p w).trans (giveUpAll_run _ _)

/-- Every command keeps the capacities. -/
theorem exec_runRoom {c : Instr} {s t : State} (h : s.work.RunRoom) (hx : exec c s = .next t) : t.work.RunRoom := by
  have request : ∀ p r, exec (Request.command p r) s = .next t → t.work.RunRoom := by
    intro p r hr
    rw [exec_command] at hr
    cases hr
    exact applyHead_runRoom p r h
  cases c with
  | powerOnReset x e1 e2 e3 =>
    cases hx
    obtain ⟨_, _, _, room, _⟩ := resetIsWellKept
    exact settle_runRoom _ (room.frame (foldl_run (fun w p => raiseAlarm_run _ _ _ w) _ _))
  | quadratureEdge c levels =>
    cases hx
    exact settle_runRoom _ (count_runRoom _ c _ h)
  | speedPeriodClose =>
    simp only [exec, execSpeedPeriodClose] at hx
    cases hx
    exact proposalTest_runRoom _ (h.frame (evalFires_run _ _))
  | cuePulseEnd k =>
    simp only [exec, execCuePulseEnd] at hx
    split at hx <;> cases hx <;> exact h.frame ⟨rfl, rfl, le_rfl, rfl⟩
  | confirmDeadlineExpiry k =>
    simp only [exec, execConfirmDeadlineExpiry] at hx
    split at hx <;> cases hx
    · exact settle_runRoom _ (h.frame (confirmExpiry_run _ k _ _))
    · exact h
    · exact h
  | lateReportWindowEnd k =>
    simp only [exec, execLateReportWindowEnd] at hx
    split at hx <;> cases hx <;> exact h.frame ⟨rfl, rfl, le_rfl, rfl⟩
  | proposalDeadlineExpiry g =>
    simp only [exec, execProposalDeadlineExpiry] at hx
    split at hx
    · cases hx
      exact h
    · split at hx <;> cases hx
      · exact settle_runRoom _ (h.frame (formResult_run _ _ _))
      · exact h
      · exact h
  | reofferTimerExpiry =>
    cases hx
    exact settle_runRoom _ (h.frame (reoffer_run _ _))
  | receivedFrame p g bytes =>
    simp only [exec, execReceivedFrame] at hx
    split at hx
    · cases hx
      exact h
    · split at hx <;> cases hx
      · exact h
      · exact settle_runRoom _ (h.frame (frameArrival_run _ p bytes _))
  | responseFrame p =>
    cases hx
    exact h
  | portTimeout p =>
    simp only [exec, execPortTimeout] at hx
    split at hx <;> cases hx
    · exact settle_runRoom _ (h.frame (portDown_run _ p _))
    · exact h
  | status p => exact request p .status hx
  | read p => exact request p .read hx
  | peek p => exact request p .peek hx
  | take p => exact request p .take hx
  | done p => exact request p .done hx
  | floor p => exact request p .floor hx
  | lineTable p => exact request p .lineTable hx
  | stationSet p => exact request p .stationSet hx
  | recipeSet p => exact request p .recipeSet hx
  | profileSet p => exact request p .profileSet hx
  | classSet p => exact request p .classSet hx
  | relaySet p => exact request p .relaySet hx
  | alarmEnable p => exact request p .alarmEnable hx
  | alarmClear p => exact request p .alarmClear hx
  | openPart p => exact request p .openPart hx
  | start p => exact request p .start hx
  | orderAdd p => exact request p .orderAdd hx
  | orderWithdraw p => exact request p .orderWithdraw hx
  | orderRelease p => exact request p .orderRelease hx
  | lineReset p => exact request p .lineReset hx
  | logTake p => exact request p .logTake hx
  | standSet p => exact request p .standSet hx
  | reelLoad p => exact request p .reelLoad hx
  | reelRemove p => exact request p .reelRemove hx
  | diameter p => exact request p .diameter hx
  | joint p => exact request p .joint hx
  | spliceFail p => exact request p .spliceFail hx
  | standEnable p => exact request p .standEnable hx
  | bridgeSet p => exact request p .bridgeSet hx
  | respond p => exact request p .respond hx
  | setupDone p => exact request p .setupDone hx
  | defect p => exact request p .defect hx

/-- Settles O56: a millisecond leaves the blocks alone, and every command keeps their capacities (`exec_runRoom`). -/
theorem runRoomKept : Obligations.RunRoomKept := by
  intro s t h hs
  unfold step at hs
  split at hs
  · cases hs
    exact h
  · next c rest _ => exact exec_runRoom (s := { s with pending := rest }) h hs

end Sys2Proof.Machine
end

section
/-! SUPPORT. START (R108): when it is refused, and the run that it starts with a track that has room. -/

namespace Sys2Proof.Machine

section
variable {e : Env} {w : Work} {body : List Byte} {gap : Nat} (hb : getOne 3 body = some gap)
include hb

theorem applyStart_range (h : 100000 < gap) : applyStart e w body = refuse .range e w := by
  simp only [applyStart, hb, if_pos h]

variable (hg : gap ≤ 100000)
include hg

/-- While running, without a valid station set, or with no QUEUED order in the sequence. -/
theorem applyStart_state
    (h : e.run = .running ∨ e.downstream .knife = none ∨ ¬∃ o ∈ w.seq.sequence, orderState w o = .queued) :
    applyStart e w body = refuse .state e w := by
  simp only [applyStart, hb, if_neg (Nat.not_lt.mpr hg)]
  split
  · rfl
  · next idle =>
    split
    · next g o rest knife seq =>
      split
      · next queued =>
        have queue : ∃ x ∈ w.seq.sequence, orderState w x = .queued := by simpa [seq] using queued
        rcases h with run | unset | none
        · exact absurd (by simp [run]) idle
        · cases knife.symm.trans unset
        · exact absurd queue none
      · rfl
    · rfl

/-- A START that passes its checks. -/
theorem applyStart_starts {g : Nat} {o : Order} {later : List Order} (idle : e.run = .idle)
    (knife : e.downstream .knife = some g) (queued : ∃ x ∈ w.seq.sequence, orderState w x = .queued)
    (seq : w.seq.sequence = o :: later) : applyStart e w body = startWith e w o.tag g gap := by
  have any : (o :: later).any (fun x => orderState w x == .queued) = true := by simpa [seq] using queued
  have runs : ¬e.run ≠ .idle := not_not.mpr idle
  simp only [applyStart, hb, if_neg (Nat.not_lt.mpr hg), if_neg runs, knife, seq, if_pos any]

end

/-- An answer is the outcome, with the request's work settled. -/
theorem applyHead_answered {s : State} {p : Port} {q : Queued} {rest : List Queued} {r : Request} {body : List Byte}
    {f : Env → Work → List Byte → Answer} {c : Code} {b : List Byte} {e : Env} {w : Work}
    (h : HeadOf s p q rest r body) (hf : f (popped s.env p rest) s.work body = ⟨c, b, e, w⟩) :
    applyHead p r f s = appliedState s p q c b e (settle e w) := by
  rw [applyHead_of_head f h, hf]
  rfl

/-- The first change handed to a track with room, announced, and the run started with it (R108, steps 1 to 5). -/
theorem startWith_room {e : Env} {w : Work} (room : w.TrackRoom) (free : w.track.marks.length < 192) {f g gap : Nat}
    {c0 : Pos} (hc : firstChange e g gap = c0) {m : Mark} (hm : w.newMark (.change 0 f .committed false) c0 0 = m)
    {track : Track} (ht : w.track.put e (.change 0 f .committed false) c0 0 0 0 = track) :
    let e1 : Env := { e with run := .running }
    startWith e w f g gap =
      ⟨.ok, putPos c0 ++ putNat 2 m.tag, e1, extendChain e1 (requirementRules e1 (evaluate e1 (arrive e1) true [m.entry]
        (some m.entry) ((announceExtent e m { w with track := track }).beginRun f m)))⟩ := by
  have hand : handIn e (.change 0 f .committed false) c0 0 w = ({ w with track := track }, some m) := by
    subst hm ht
    exact handIn_room e _ c0 0 w free room.entries
  simp only [startWith, hc, hand, startRun]

/-- Settles O34: the refusals by `applyStart_range` and `applyStart_state`, and the run by `startWith_room`. -/
theorem startRequest : Obligations.StartRequest := by
  intro s p q rest body gap head hb hw room queued
  refine ⟨fun h => ?_, fun hg h => ?_, ?_⟩
  · exact congrArg Host.Outcome.next (applyHead_refused applyStart .range head hw (applyStart_range hb h))
  · exact congrArg Host.Outcome.next (applyHead_refused applyStart .state head hw (applyStart_state hb hg h))
  · intro g o later hg idle knife hq seq free e e1 c0 tag m w w1
    have answer : applyStart e s.work body = _ :=
      (applyStart_starts hb hg (e := e) idle knife hq seq).trans
        (startWith_room (e := e) room free (c0 := ⟨c0, false⟩) rfl (m := m) rfl (track := w.track) rfl)
    exact congrArg Host.Outcome.next (applyHead_answered head answer)

end Sys2Proof.Machine
end

section
/-! SUPPORT. ORDER_WITHDRAW and ORDER_RELEASE (R96, R100, R101): the answers, and the queue that a withdrawal leaves. -/

namespace Sys2Proof.Machine

/-- Between two events, with no running order, an extension of the chain only clears its two indications. -/
theorem extendChain_quiet (e : Env) {w : Work} (idle : w.seq.running = none) (owed : w.owed = ⟨false, false⟩) :
    extendChain e w = { w with seq := { w.seq with noPlace := false, trackRefused := false } } := by
  rw [extendChain_idle e w idle, owed]

/-! ## The checks of ORDER_WITHDRAW (R100) -/

section
variable {w : Work} {o : Order}

theorem isProposed_iff {x : Option Mark} :
    isProposed x = true ↔ ∃ m, x = some m ∧ m.changeState? = some .proposed := by
  simp [isProposed, Option.bind_eq_some_iff]

theorem startMark_bound_iff :
    (w.startMark o).any Mark.bound = true ↔ ∃ m, w.startMark o = some m ∧ m.bound = true := by
  simp [Option.any_eq_true]

/-- A committed or open order, and one whose start is committed, stays. -/
theorem withdrawCode_bound
    (h : orderState w o = .committed ∨ orderState w o = .opened ∨ ∃ m, w.startMark o = some m ∧ m.bound = true) :
    withdrawCode w o = .state := by
  unfold withdrawCode
  rcases h with h | h | h
  · rw [if_pos (.inl h)]
  · rw [if_pos (.inr h)]
  · rw [if_pos (startMark_bound_iff.mpr h), ite_self]

section
variable (free :
  ¬(orderState w o = .committed ∨ orderState w o = .opened ∨ ∃ m, w.startMark o = some m ∧ m.bound = true))
include free

theorem withdrawCode_free :
    withdrawCode w o = if isProposed (w.startMark o) || isProposed (w.endMark o) then .busy else .ok := by
  simp only [not_or] at free
  obtain ⟨uncommitted, unopened, unbound⟩ := free
  unfold withdrawCode
  rw [if_neg (not_or.mpr ⟨uncommitted, unopened⟩), if_neg (startMark_bound_iff.not.mpr unbound)]

theorem withdrawCode_proposed
    (h : ∃ m, (w.startMark o = some m ∨ w.endMark o = some m) ∧ m.changeState? = some .proposed) :
    withdrawCode w o = .busy := by
  obtain ⟨m, hm, proposed⟩ := h
  have either : (isProposed (w.startMark o) || isProposed (w.endMark o)) = true :=
    Bool.or_eq_true_iff.mpr (hm.imp (isProposed_iff.mpr ⟨m, ·, proposed⟩) (isProposed_iff.mpr ⟨m, ·, proposed⟩))
  rw [withdrawCode_free free, if_pos either]

theorem withdrawCode_ok
    (h : ¬∃ m, (w.startMark o = some m ∨ w.endMark o = some m) ∧ m.changeState? = some .proposed) :
    withdrawCode w o = .ok := by
  have neither : ¬(isProposed (w.startMark o) || isProposed (w.endMark o)) = true := by
    rw [Bool.or_eq_true, isProposed_iff, isProposed_iff]
    rintro (⟨m, hm, proposed⟩ | ⟨m, hm, proposed⟩)
    · exact h ⟨m, .inl hm, proposed⟩
    · exact h ⟨m, .inr hm, proposed⟩
  rw [withdrawCode_free free, if_neg neither]

end
end

/-! ## The answers -/

section
variable {e : Env} {w : Work} {body : List Byte} {tag : Nat} (hb : getOne 2 body = some tag)
include hb

theorem applyOrderWithdraw_unknown (h : w.seq.find tag = none) :
    applyOrderWithdraw e w body = refuse .unknown e w := by
  simp only [applyOrderWithdraw, hb, h]

theorem applyOrderWithdraw_refused {o : Order} {c : Code} (ho : w.seq.find tag = some o) (hc : withdrawCode w o = c)
    (fails : c ≠ .ok) : applyOrderWithdraw e w body = refuse c e w := by
  simp only [applyOrderWithdraw, hb, ho, hc, if_neg fails]

theorem applyOrderWithdraw_ok {o : Order} (ho : w.seq.find tag = some o) (hc : withdrawCode w o = .ok) :
    applyOrderWithdraw e w body = answerOk e (withdrawOrder e o w) := by
  simp only [applyOrderWithdraw, hb, ho, hc, if_true]

theorem applyOrderRelease_unknown (h : w.seq.find tag = none) :
    applyOrderRelease e w body = refuse .unknown e w := by
  simp only [applyOrderRelease, hb, h]

theorem applyOrderRelease_state (live : w.seq.find tag ≠ none) (h : ∀ o ∈ w.seq.held, o.tag ≠ tag) :
    applyOrderRelease e w body = refuse .state e w := by
  obtain ⟨o, ho⟩ := Option.ne_none_iff_exists'.mp live
  have free : (w.seq.held.find? fun x => x.tag == tag) = none :=
    List.find?_eq_none.mpr fun x hx => by simpa using h x hx
  simp only [applyOrderRelease, hb, ho, free]

theorem applyOrderRelease_ok {o : Order} (ho : (w.seq.held.find? fun x => x.tag == tag) = some o) :
    applyOrderRelease e w body = answerOk e (extendChain e (w.release o)) := by
  have live : (w.seq.find tag).isSome = true := by
    rw [Sequencer.find, List.find?_isSome]
    exact ⟨o, List.mem_append_right _ (List.mem_of_find?_eq_some ho),
      List.find?_some (p := fun x : Order => x.tag == tag) ho⟩
  obtain ⟨x, hx⟩ := Option.isSome_iff_exists.mp live
  simp only [applyOrderRelease, hb, hx, ho]

end

/-! ## The queue that a withdrawal leaves (R100, R104) -/

section
variable (e : Env) {w : Work} {o : Order}

theorem withdrawOrder_unled (h : w.startMark o = none) : withdrawOrder e o w = extendChain e (w.dropOrder o.tag) := by
  simp only [withdrawOrder, h]

theorem withdrawOrder_last {m : Mark} (h : w.startMark o = some m) (last : w.seq.successor o.tag = none) :
    withdrawOrder e o w = extendChain e ((removeChange (announce e) w m.tag).dropOrder o.tag) := by
  simp only [withdrawOrder, h, last]

theorem withdrawOrder_releads {m : Mark} {k : Order} (h : w.startMark o = some m) (next : w.seq.successor o.tag = some k) :
    withdrawOrder e o w =
      leadTo e m.tag k.tag ((removeLater e m.tag (removeEnd e (some o) w)).dropOrder o.tag) := by
  simp only [withdrawOrder, h, next]

variable (w o)

/-- Whatever becomes of its marks, the order is dropped, and no other order comes or goes. -/
theorem withdrawOrder_drops : ∃ x, RunFrame w x ∧ RunFrame (x.dropOrder o.tag) (withdrawOrder e o w) := by
  cases hm : w.startMark o with
  | none => exact ⟨w, .refl w, withdrawOrder_unled e hm ▸ extendChain_run e _⟩
  | some m =>
    cases hk : w.seq.successor o.tag with
    | none =>
      exact ⟨_, removeChange_run (announce_run e) w m.tag, withdrawOrder_last e hm hk ▸ extendChain_run e _⟩
    | some k =>
      exact ⟨_, (removeEnd_run e (some o) w).trans (removeLater_run e m.tag _),
        withdrawOrder_releads e hm hk ▸ leadTo_run e m.tag k.tag _⟩

theorem withdrawOrder_live (n : Nat) :
    (∃ x ∈ (withdrawOrder e o w).seq.live, x.tag = n) ↔ n ≠ o.tag ∧ ∃ x ∈ w.seq.live, x.tag = n := by
  have live : ∀ v : Work, (∃ x ∈ v.seq.live, x.tag = n) ↔ n ∈ v.seq.live.map Order.tag := fun v => List.mem_map.symm
  have dropped : ∀ v : Work, (v.dropOrder o.tag).seq.live = v.seq.live.filter fun x => x.tag != o.tag :=
    fun v => (List.filter_append _ _).symm
  obtain ⟨x, before, after⟩ := withdrawOrder_drops e w o
  rw [live, live, after.live_tags, ← before.live_tags, dropped, List.mem_map, List.mem_map]
  constructor
  · rintro ⟨y, hy, rfl⟩
    obtain ⟨hy, other⟩ := List.mem_filter.mp hy
    exact ⟨by simpa using other, y, hy, rfl⟩
  · rintro ⟨other, y, hy, rfl⟩
    exact ⟨y, List.mem_filter.mpr ⟨hy, by simpa using other⟩, rfl⟩

end

/-- Settles O36: the answers by the cases of the checks, the queue by `withdrawOrder_live`, and the chain by the three forms
of a withdrawal. -/
theorem withdrawAndRelease : Obligations.WithdrawAndRelease := by
  refine ⟨fun s p q rest body tag hb hw => ?_, fun e o w => ?_⟩
  · intro e w others dropped done quiet
    have owed : w.owed = ⟨false, false⟩ := hw.2.2
    refine ⟨fun head h => ?_, fun o head ho => ?_, fun head h => ?_, fun head live h => ?_, fun o head ho => ?_⟩
    · exact congrArg Host.Outcome.next (applyHead_refused _ .unknown head hw (applyOrderWithdraw_unknown hb h))
    · have named : o.tag = tag := by simpa using List.find?_some ho
      have drop : w.dropOrder o.tag = dropped := by rw [named]; rfl
      refine ⟨fun bound => ?_, fun free proposed => ?_, fun free open_ => ?_,
        fun free open_ unled => ⟨?_, fun idle => ?_⟩⟩
      · exact congrArg Host.Outcome.next (applyHead_refused _ .state head hw
          (applyOrderWithdraw_refused hb ho (withdrawCode_bound bound) (by decide)))
      · exact congrArg Host.Outcome.next (applyHead_refused _ .busy head hw
          (applyOrderWithdraw_refused hb ho (withdrawCode_proposed free proposed) (by decide)))
      · exact congrArg Host.Outcome.next (applyHead_answered head
          (applyOrderWithdraw_ok hb ho (withdrawCode_ok free open_)))
      · rw [withdrawOrder_unled e unled, drop]
      · have answer := applyOrderWithdraw_ok (e := e) hb ho (withdrawCode_ok free open_)
        rw [withdrawOrder_unled e unled, drop, extendChain_quiet e (w := dropped) idle owed] at answer
        exact congrArg Host.Outcome.next (applyHead_applied head answer hw)
    · exact congrArg Host.Outcome.next (applyHead_refused _ .unknown head hw (applyOrderRelease_unknown hb h))
    · exact congrArg Host.Outcome.next (applyHead_refused _ .state head hw (applyOrderRelease_state hb live h))
    · intro released
      have named : o.tag = tag := by simpa using List.find?_some ho
      have release : w.release o = released := by rw [Work.release, named]
      have answer := applyOrderRelease_ok (e := e) hb ho
      rw [release] at answer
      refine ⟨congrArg Host.Outcome.next (applyHead_answered head answer), fun idle => ?_⟩
      rw [extendChain_quiet e (w := released) idle owed] at answer
      exact congrArg Host.Outcome.next (applyHead_applied head answer hw)
  · exact ⟨withdrawOrder_live e w o, fun m => withdrawOrder_last e, fun m k => withdrawOrder_releads e⟩

end Sys2Proof.Machine
end

section
/-! SUPPORT. ORDER_ADD (R95, R96, R99, R104): the checks in their order, the place of the order in the sequence, and the marks
that a re-planned chain gives up and leads anew. -/

namespace Sys2Proof.Machine

/-! ## The checks after the order's fields (R99) -/

section
variable {w : Work} {g : OrderSpec} {place : OrderPlace} {x : Nat} {o : Order}

theorem addCode_tagInUse (h : w.seq.find g.tag ≠ none) : addCode w g place = .tagInUse := by
  unfold addCode
  rw [if_pos (Option.isSome_iff_ne_none.mpr h)]

section
variable (new : w.seq.find g.tag = none)
include new

theorem addCode_full (h : 32 ≤ w.seq.live.length) : addCode w g place = .full := by
  unfold addCode
  rw [if_neg (by simp [new])]
  exact if_pos h

variable (room : w.seq.live.length < 32)
include room

/-- A new order that the queue has room for is admitted or not by its place. -/
theorem addCode_room_eq :
    addCode w g place =
      match place with
      | .tail => .ok
      | .before x =>
        match w.seq.find x with
        | none => .unknown
        | some o => if admitsBefore w o then .ok else .state := by
  unfold addCode
  rw [if_neg (by simp [new])]
  exact if_neg (Nat.not_le.mpr room)

theorem addCode_unknown (h : w.seq.find x = none) : addCode w g (.before x) = .unknown := by
  simp only [addCode_room_eq new room, h]

theorem addCode_state (ho : w.seq.find x = some o) (h : admitsBefore w o = false) :
    addCode w g (.before x) = .state := by
  simp [addCode_room_eq new room, ho, h]

theorem addCode_ok (h : ∀ x, place = .before x → ∃ o, w.seq.find x = some o ∧ admitsBefore w o = true) :
    addCode w g place = .ok := by
  rw [addCode_room_eq new room]
  cases place with
  | tail => rfl
  | before x =>
    obtain ⟨o, ho, admits⟩ := h x rfl
    simp [ho, admits]

end

/-- No order is placed before one that is held, that has begun to run, or whose start mark is past PLANNED. -/
theorem admitsBefore_false
    (h : (∃ h ∈ w.seq.held, h.tag = o.tag) ∨ o.runningFlag = true ∨
      ∃ m, w.startMark o = some m ∧ m.changeState? ≠ some .planned) : admitsBefore w o = false := by
  unfold admitsBefore
  rcases h with ⟨y, hy, same⟩ | runs | ⟨m, hm, past⟩
  · have held : (w.seq.held.any fun h => h.tag == o.tag) = true := List.any_eq_true.mpr ⟨y, hy, by simpa using same⟩
    simp [held]
  · simp [runs]
  · simp [hm, past]

end

/-! ## The answers -/

section
variable {e : Env} {w : Work} {body : List Byte} {g : OrderSpec} {place : OrderPlace}
  (hb : getOrderAdd body = some (g, place))
include hb

theorem applyOrderAdd_range {n : Nat} (h : orderCheck e.table g = some n) :
    applyOrderAdd e w body = ⟨.range, putNat 1 n, e, w⟩ := by
  simp only [applyOrderAdd, hb, h]

variable (fields : orderCheck e.table g = none)
include fields

theorem applyOrderAdd_refused {c : Code} (hc : addCode w g place = c) (fails : c ≠ .ok) :
    applyOrderAdd e w body = refuse c e w := by
  simp only [applyOrderAdd, hb, fields, hc, if_neg fails]

theorem applyOrderAdd_ok (hc : addCode w g place = .ok) :
    applyOrderAdd e w body = ⟨.ok, putNat 3 g.required, e, addOrder e g place w⟩ := by
  simp only [applyOrderAdd, hb, fields, hc, if_true]

end

/-! ## The place of the order (R99) -/

theorem insertBefore_append (n : Order) {x : Nat} {o : Order} (after : List Order) (ho : o.tag = x) :
    ∀ {before : List Order}, (∀ y ∈ before, y.tag ≠ x) →
      insertBefore n x (before ++ o :: after) = before ++ n :: o :: after
  | [], _ => if_pos ho
  | y :: before, h => by
    have ih := insertBefore_append n after ho fun z hz => h z (List.mem_cons_of_mem y hz)
    rw [List.cons_append, insertBefore, if_neg (h y (by simp)), ih, List.cons_append]

theorem addOrder_tail (e : Env) (g : OrderSpec) (w : Work) :
    addOrder e g .tail w =
      extendChain e { w with seq := { w.seq with sequence := w.seq.sequence ++ [Order.fresh g] } } := by
  simp only [addOrder, takenOver, Work.enterOrder]

/-- Between two events, with no running order, a change of the sequence extends nothing. -/
theorem extendChain_sequence (e : Env) {w : Work} (idle : w.seq.running = none) (owed : w.owed = ⟨false, false⟩)
    (l : List Order) :
    extendChain e { w with seq := { w.seq with sequence := l } } =
      { w with seq := { w.seq with sequence := l, noPlace := false, trackRefused := false } } :=
  extendChain_quiet e (w := { w with seq := { w.seq with sequence := l } }) idle owed

/-- Whatever becomes of the chain, the orders are those of the queue that the order enters. -/
theorem addOrder_run (e : Env) (g : OrderSpec) (place : OrderPlace) (w : Work) :
    RunFrame (w.enterOrder g place) (addOrder e g place w) := by
  unfold addOrder
  split
  · exact extendChain_run e _
  · exact replan_run e _ _ _

section
variable (e : Env) (g : OrderSpec) {w : Work} {before after : List Order} {o : Order}
  (hs : w.seq.sequence = before ++ o :: after) (hn : ∀ y ∈ before, y.tag ≠ o.tag)
include hs hn

theorem find_before : w.seq.find o.tag = some o :=
  List.find?_eq_some_iff_append.mpr ⟨by simp, before, after ++ w.seq.held, by simp [Sequencer.live, hs],
    fun y hy => by simpa using hn y hy⟩

theorem enterOrder_before :
    w.enterOrder g (.before o.tag) =
      { w with seq := { w.seq with sequence := before ++ Order.fresh g :: o :: after } } := by
  simp only [Work.enterOrder, hs, insertBefore_append (Order.fresh g) after rfl hn]

/-- An order placed before another takes over the start mark of that one. -/
theorem takenOver_before : takenOver w (.before o.tag) = w.startMark o := by
  simp only [takenOver, find_before hs hn, Option.bind_some]

theorem addOrder_extends (h : w.startMark o = none) :
    addOrder e g (.before o.tag) w =
      extendChain e { w with seq := { w.seq with sequence := before ++ Order.fresh g :: o :: after } } := by
  simp only [addOrder, takenOver_before hs hn, h, enterOrder_before g hs hn]

theorem addOrder_replans {m : Mark} (h : w.startMark o = some m) :
    addOrder e g (.before o.tag) w =
      replan e m.tag g.tag { w with seq := { w.seq with sequence := before ++ Order.fresh g :: o :: after } } := by
  simp only [addOrder, takenOver_before hs hn, h, enterOrder_before g hs hn]

end

/-! ## The marks that a re-planned chain gives up (R104) -/

theorem Mark.Stays.uncommitted {m m' : Mark} (h : m.Stays m') : m'.uncommitted = m.uncommitted := by
  unfold Mark.uncommitted Mark.changeState?
  rcases h.body with g | ⟨i, j, l, g, g'⟩
  · rw [g]
  · rw [g, g']
    rfl

theorem Mark.pair_of_uncommitted {m : Mark} (h : m.uncommitted = true) : ∃ i j, m.pair? = some (i, j) := by
  unfold Mark.uncommitted Mark.changeState? at h
  unfold Mark.pair?
  split at h
  · exact ⟨_, _, rfl⟩
  · cases h

/-- No mark with a tag is bound to happen: a mark that has it is PLANNED or PROPOSED. -/
def Track.FreeTag (t : Track) (g : Nat) : Prop := ∀ m ∈ t.marks, m.tag = g → m.uncommitted = true

theorem Track.Thinned.freeTag {t t' : Track} (h : t.Thinned t') {g : Nat} (free : t.FreeTag g) : t'.FreeTag g := by
  intro m' hm' hg
  obtain ⟨m, hm, stays⟩ := h.origin hm'
  rw [stays.uncommitted]
  exact free m hm (stays.tag ▸ hg)

section
variable {a : Work → Work} (ha : ∀ w, PlanFrame w (a w))
include ha

theorem removeChange_gone {w : Work} {g : Nat} (free : w.track.FreeTag g) :
    ∀ m ∈ (removeChange a w g).track.marks, m.tag ≠ g := by
  cases hm : w.track.find g with
  | none =>
    have unchanged : removeChange a w g = w := by simp only [removeChange, hm]
    rw [unchanged]
    intro m hm'
    simpa using List.find?_eq_none.mp hm m hm'
  | some m =>
    have open_ : m.uncommitted = true := free m (Track.find_mem hm) (Track.find_tag hm)
    obtain ⟨i, j, pair⟩ := Mark.pair_of_uncommitted open_
    rw [removeChange_eq a hm open_ pair]
    exact (ha _).track.gone Track.remove_gone

/-- Marks removed one after another are gone in the end. -/
theorem foldl_removeChange_gone : ∀ (tags : List Nat) {w : Work}, (∀ g ∈ tags, w.track.FreeTag g) →
    ∀ g ∈ tags, ∀ m ∈ (tags.foldl (removeChange a) w).track.marks, m.tag ≠ g
  | [], _, _ => fun _ h => absurd h List.not_mem_nil
  | h :: tags, w, free => by
    have head := removeChange_gone ha (free h List.mem_cons_self)
    have rest : ∀ g ∈ tags, (removeChange a w h).track.FreeTag g :=
      fun g hg => (removeChange_plan ha w h).track.freeTag (free g (List.mem_cons_of_mem h hg))
    rw [List.foldl_cons, List.forall_mem_cons]
    exact ⟨(foldl_plan _ (removeChange_plan ha) tags _).track.gone head, foldl_removeChange_gone tags rest⟩

theorem removeChanges_gone {tags : List Nat} {w : Work} (free : ∀ g ∈ tags, w.track.FreeTag g) {g : Nat}
    (hg : g ∈ tags) : (removeChanges a tags w).track.find g = none := by
  have withdrawn : PlanFrame w (tags.reverse.foldl (fun x g => withdrawFor g x) w) :=
    foldl_plan _ (fun w g => withdrawFor_plan g w) _ w
  refine List.find?_eq_none.mpr fun m hm => ?_
  simpa using foldl_removeChange_gone ha tags (fun g hg => withdrawn.track.freeTag (free g hg)) g hg m hm

end

/-- The marks from a mark on are uncommitted, where tags are distinct. -/
theorem marksFrom_free {w : Work} (room : w.TrackRoom) {g x : Nat} (h : x ∈ marksFrom w.track g) : w.track.FreeTag x := by
  obtain ⟨y, hy, rfl⟩ := List.mem_map.mp ((List.dropWhile_sublist _).subset h)
  obtain ⟨mem, open_⟩ := List.mem_filter.mp hy
  intro m hm same
  rw [room.eq_of_tag mem hm same]
  exact open_

theorem removeLater_gone (e : Env) {g x : Nat} {w : Work} (room : w.TrackRoom)
    (h : x ∈ (marksFrom w.track g).drop 1) : (removeLater e g w).track.find x = none :=
  removeChanges_gone (announce_plan e) (fun _ hy => marksFrom_free room (List.mem_of_mem_drop hy)) h

/-! ## The mark that a re-planned chain leads anew (R104) -/

/-- A mark rewritten under its tag is found under it. -/
theorem Track.find_update {t : Track} {g : Nat} {m : Mark} {f : Mark → Mark} (h : t.find g = some m)
    (hf : ∀ x, (f x).tag = x.tag) : (t.update g f).find g = some (f m) := by
  have same : ((fun x : Mark => x.tag == g) ∘ fun x : Mark => if x.tag = g then f x else x) = fun x : Mark => x.tag == g := by
    funext x
    simp only [Function.comp]
    split
    · rw [hf]
    · rfl
  change (t.marks.map _).find? (fun x : Mark => x.tag == g) = some (f m)
  rw [List.find?_map, same]
  exact (congrArg (Option.map _) h).trans (congrArg some (if_pos (Track.find_tag h)))

theorem relead_find (k : Nat) {w : Work} {g : Nat} {m : Mark} {i j : Nat} {st : ChangeState} {late : Bool}
    (hm : w.track.find g = some m) (hb : m.body = .change i j st late) :
    (relead g k w).track.find g = some { m with body := .change i k st late } := by
  rw [relead_eq k hm hb]
  exact Track.find_update (f := fun x : Mark => { x with body := .change i k st late }) hm fun _ => rfl

/-- Settles O35: the answers by the cases of the checks, the place by `enterOrder_before` and `addOrder_run`, and the chain by
the marks removed and led anew. -/
theorem orderAddRequest : Obligations.OrderAddRequest := by
  refine ⟨fun s p q rest body g place head hb hw => ?_, fun e g w => ⟨⟨?_, addOrder_tail e g w⟩, ?_⟩,
    fun e g k w room => ⟨fun x => removeLater_gone e room, fun m i j st late => relead_find k, rfl⟩⟩
  · intro placed
    have owed : s.work.owed = ⟨false, false⟩ := hw.2.2
    refine ⟨fun n fails => ?_, fun fields => ?_⟩
    · exact congrArg Host.Outcome.next (applyHead_applied head (applyOrderAdd_range hb fails) hw)
    have refused : ∀ {c}, addCode s.work g place = c → c ≠ .ok →
        exec (.orderAdd p) s = .next (refusedState s p q rest c) := fun hc fails =>
      congrArg Host.Outcome.next (applyHead_refused _ _ head hw
        (applyOrderAdd_refused (e := popped s.env p rest) hb fields hc fails))
    have answer := applyOrderAdd_ok (e := popped s.env p rest) (w := s.work) hb fields
    refine ⟨fun used => ?_, fun new full => ?_, fun new room => ⟨?_, ?_⟩, fun new room idle => ⟨?_, ?_⟩,
      fun new room admits => ?_⟩
    · exact refused (addCode_tagInUse used) (by decide)
    · exact refused (addCode_full new full) (by decide)
    · rintro x rfl unknown
      exact refused (addCode_unknown new room unknown) (by decide)
    · rintro x o rfl ho bars
      exact refused (addCode_state new room ho (admitsBefore_false bars)) (by decide)
    · rintro rfl
      have placed := answer (addCode_ok new room (by simp))
      rw [addOrder_tail, extendChain_sequence _ idle owed] at placed
      exact congrArg Host.Outcome.next (applyHead_applied head placed hw)
    · rintro x before o after rfl hs hn rfl admits unled
      have placed := answer (addCode_ok new room fun x hx => by
        cases hx
        exact ⟨o, find_before hs hn, admits⟩)
      have unmarked : s.work.startMark o = none := by simp [Work.startMark, unled]
      rw [addOrder_extends _ g hs hn unmarked, extendChain_sequence _ idle owed] at placed
      exact congrArg Host.Outcome.next (applyHead_applied head placed hw)
    · exact congrArg Host.Outcome.next (applyHead_answered head (answer (addCode_ok new room admits)))
  · rw [(addOrder_run e g .tail w).sequence]
    simp [Work.enterOrder, Order.tag, Order.fresh]
  · intro before o after hs hn w1
    refine ⟨?_, addOrder_extends e g hs hn, fun m => addOrder_replans e g hs hn⟩
    rw [(addOrder_run e g (.before o.tag) w).sequence, enterOrder_before g hs hn]
    simp [Order.tag, Order.fresh]

end Sys2Proof.Machine
end

section
/-! SUPPORT. TAKE and DONE (R149, R152, R153), and what settles where the records of one proposal are rewritten (R117,
R119). -/

namespace Sys2Proof.Machine

/-! ## A proposal's responses rewritten (R116, R117, R119) -/

section
variable {y z : Proposal} {r : Role}

theorem Proposal.setResponse_status (x : Partial) : (y.setResponse r x).status = y.status := by
  cases r <;> rfl

/-- A responder's response is the one recorded for it. -/
theorem Proposal.setResponse_response {old : Partial} (h : y.response r = some old) (x : Partial) :
    (y.setResponse r x).response r = some x := by
  cases r with
  | dry => rfl
  | wet => rfl
  | planner => cases h
  | view => cases h

theorem Proposal.giveUp_pending (hc : y.collecting = true) (hp : y.response r = some .pending) :
    y.giveUp r = y.setResponse r .notReady := by
  simp [Proposal.giveUp, hc, hp]

theorem Proposal.giveUp_other (h : y.collecting = false ∨ y.response r ≠ some .pending) : y.giveUp r = y := by
  unfold Proposal.giveUp
  refine if_neg fun asked => ?_
  obtain ⟨hc, hp⟩ := Bool.and_eq_true_iff.mp asked
  rcases h with h | h
  · exact Bool.false_ne_true (h.symm.trans hc)
  · exact h (beq_iff_eq.mp hp)

theorem Proposal.giveUp_status : (y.giveUp r).status = y.status := by
  unfold Proposal.giveUp
  split
  · exact Proposal.setResponse_status _
  · rfl

/-- Whether a result takes effect is a matter of the status alone (R120). -/
theorem Proposal.effective_congr (h : z.status = y.status) : z.effective = y.effective := by
  unfold Proposal.effective
  rw [h]

end

/-! ## What settles then -/

/-- The one entry of a list with a property is the first. -/
theorem find?_of_only {α : Type} {l : List α} {q : α → Bool} {y : α} (hy : y ∈ l) (hq : q y = true)
    (only : ∀ z ∈ l, q z = true → z = y) : l.find? q = some y := by
  obtain ⟨z, hz⟩ := Option.isSome_iff_exists.mp (List.find?_isSome.mpr ⟨y, hy, hq⟩)
  rw [hz, only z (List.mem_of_find?_eq_some hz) (List.find?_some hz)]

section
variable {e : Env} {w t : Work} {g : Nat} {f : Proposal → Proposal} (still : w.atRest)
  (same : ∀ z, (f z).status = z.status) (list : t.prop.list = w.prop.list.map fun z => if z.tag = g then f z else z)
include still same list

theorem rewritten_not_effective : ∀ p ∈ t.prop.list.head?, p.effective = false := by
  obtain ⟨-, head, -⟩ := still
  intro p hp
  rw [list, List.head?_map] at hp
  obtain ⟨z, hz, rfl⟩ := Option.map_eq_some_iff.mp hp
  rw [← head z hz]
  apply Proposal.effective_congr
  split
  · exact same z
  · rfl

/-- While the proposal rewritten still awaits a response, nothing is to be settled. -/
theorem atRest_rewritten (owed : t.owed = w.owed) (awaits : ∀ z ∈ w.prop.list, z.tag = g → (f z).complete = false) :
    t.atRest := by
  refine ⟨fun p hp => ?_, rewritten_not_effective still same list, owed.trans still.2.2⟩
  rw [list] at hp
  obtain ⟨z, hz, rfl⟩ := List.mem_map.mp hp
  split
  · next hg => exact awaits z hz hg
  · exact still.1 z hz

/-- The proposal rewritten is the one whose result is formed, where its responses are then complete (R119). -/
theorem settle_completed {y : Proposal} (hy : y ∈ w.prop.list) (hg : y.tag = g)
    (only : ∀ z ∈ w.prop.list, z.tag = g → z = y) (complete : (f y).complete = true) :
    settle e t = settleLoop e (Config.settleBound - 1) (formResult e (f y) t) := by
  have found : t.prop.list.find? Proposal.complete = some (f y) := by
    rw [list, List.find?_map, find?_of_only hy]
    · exact congrArg some (if_pos hg)
    · simpa [hg] using complete
    · intro z hz hc
      rw [Function.comp] at hc
      split at hc
      · next hzg => exact only z hz hzg
      · rw [still.1 z hz] at hc
        cases hc
  unfold settle Config.settleBound
  rw [settleLoop, settleRound_complete e t (f y) (rewritten_not_effective still same list) found]

end

/-- Whether the part is between two events is a matter of the proposals and of what is owed. -/
theorem Work.atRest.of_prop {w t : Work} (still : w.atRest) (prop : t.prop = w.prop) (owed : t.owed = w.owed) :
    t.atRest := by
  unfold Work.atRest
  rw [prop, owed]
  exact still

/-! ## A notice finished (R149, R153) -/

theorem reofferOne_prop (e : Env) (w : Work) (g : Nat) : (reofferOne e w g).prop = w.prop := by
  unfold reofferOne
  repeat' split
  · rfl
  · next h => exact (Work.unreturn_prop _ _).trans (tryDirected_prop h)
  all_goals rfl

theorem reoffer_prop (e : Env) (w : Work) : (reoffer e w).prop = w.prop :=
  List.foldlRecOn (motive := fun x => x.prop = w.prop) _ _ rfl fun x hx g _ => (reofferOne_prop e x g).trans hx

section
variable {e : Env} {p : Port} {w : Work}

theorem afterFloor_prop (n : Nat) : (afterFloor e p n w).prop = w.prop := by
  unfold afterFloor
  split
  · exact reoffer_prop e w
  · rfl

theorem afterFloor_alarms (n : Nat) : (afterFloor e p n w).alarms = w.alarms := by
  unfold afterFloor
  split
  · exact (reoffer_reoffered e w).alarms
  · rfl

theorem finishTaken_prop (which : Notice → Bool) : (finishTaken e p which w).prop = w.prop := afterFloor_prop _

theorem finishTaken_alarms (which : Notice → Bool) : (finishTaken e p which w).alarms = w.alarms := afterFloor_alarms _

/-- The first notice with a property leaves the taken stack. -/
theorem finishTaken_first {which : Notice → Bool} {before after : List Notice} {n : Notice}
    (ht : w.notices.desks[p].taken = before ++ n :: after) (hb : ∀ m ∈ before, which m = false) (hn : which n = true) :
    finishTaken e p which w =
      afterFloor e p (currentFloor e w p) (w.setDesk p ⟨w.notices.desks[p].offer, before ++ after⟩) := by
  have rest : w.notices.desks[p].taken.eraseP which = before ++ after := by
    rw [ht, List.eraseP_append_right _ fun m hm => by simp [hb m hm], List.eraseP_cons_of_pos hn]
  unfold finishTaken
  dsimp only
  rw [rest]

/-! ## TAKE -/

/-- A TAKE answers what is offered, and puts the notice on top of the taken stack. -/
theorem applyTake_offered {c : Code} {n : Notice} {b : List Byte} (h : offered e w p = (c, some n, b)) :
    applyTake p e w [] = ⟨c, b, e, w.takeNotice p n⟩ := by simp [applyTake, h]

theorem applyTake_refused {c : Code} (h : offered e w p = (c, none, [])) : applyTake p e w [] = refuse c e w := by
  simp [applyTake, h, refuse]

/-! ## DONE -/

section
variable {body : List Byte} {tag : Nat} (hb : getOne 2 body = some tag)
include hb

theorem applyDone_unknown (h : ∀ n ∈ w.notices.desks[p].taken, n.tag ≠ tag) :
    applyDone p e w body = refuse .unknown e w := by
  have none : w.notices.desks[p].taken.find? (fun n => n.tag == tag) = none :=
    List.find?_eq_none.mpr fun n hn => by simpa using h n hn
  simp only [applyDone, hb, none]

/-- A DONE finishes the notice of its tag, its responder given up first. -/
theorem applyDone_taken {before after : List Notice} {n : Notice}
    (ht : w.notices.desks[p].taken = before ++ n :: after) (h : ∀ m ∈ before, m.tag ≠ tag) (hn : n.tag = tag) :
    applyDone p e w body = answerOk e (afterFloor e p (currentFloor e w p)
      ((noticeGivenUp e n w).setDesk p ⟨w.notices.desks[p].offer, before ++ after⟩)) := by
  have found : w.notices.desks[p].taken.find? (fun m => m.tag == tag) = some n :=
    List.find?_eq_some_iff_append.mpr ⟨by simp [hn], before, after, ht, fun m hm => by simpa using h m hm⟩
  have notices := noticeGivenUp_notices e n w
  have floor : currentFloor e (noticeGivenUp e n w) p = currentFloor e w p := by
    unfold currentFloor
    rw [notices]
  have taken : (noticeGivenUp e n w).notices.desks[p].taken = before ++ n :: after := by rw [notices, ht]
  simp only [applyDone, hb, found]
  rw [finishTaken_first taken (fun m hm => by simpa using h m hm) (by simp [hn]), floor, notices]

end

theorem noticeGivenUp_other {n : Notice} (h : ∀ b x, n.body = .proposal b → n.delivery ≠ .directed (some x)) :
    noticeGivenUp e n w = w := by
  unfold noticeGivenUp
  split
  · next b x hb hd => exact absurd hd (h b x hb)
  · rfl

theorem noticeGivenUp_proposal {n : Notice} {b : ProposalBody} {x : Port} (hb : n.body = .proposal b)
    (hd : n.delivery = .directed (some x)) : noticeGivenUp e n w = w.giveUp e.links[x].role b.tag := by
  simp only [noticeGivenUp, hb, hd]

end

/-- The role of a port is that of the environment whose queue gave the request. -/
theorem popped_role (e : Env) (p x : Port) (rest : List Queued) : (popped e p rest).links[x].role = e.links[x].role := by
  unfold popped
  rw [Env.updLink_link]
  split
  · next h => rw [h]
  · rfl

/-- Settles O15: TAKE by `offered_most_urgent`, DONE by `applyDone_taken`, and the result that a responder given up
completes by `settle_completed`. -/
theorem takeAndDone : Obligations.TakeAndDone := by
  refine ⟨fun s p q rest head still => ⟨fun busy => ?_, fun room none => ?_, fun before n after room hp hb ha => ?_⟩,
    fun s p q rest body tag head hb still => ⟨fun unknown => ?_, fun before n after ht before_ hn => ?_⟩⟩
  · exact congrArg _ (applyHead_refused _ _ head still (applyTake_refused (offered_busy busy)))
  · exact congrArg _ (applyHead_refused _ _ head still (applyTake_refused (offered_empty room none)))
  · exact congrArg _ (applyHead_applied head (applyTake_offered (offered_most_urgent room hp hb ha)) still)
  · exact congrArg _ (applyHead_refused _ _ head still (applyDone_unknown hb unknown))
  · intro left
    have done := applyDone_taken (e := popped s.env p rest) hb ht before_ hn
    have prop : ∀ w, (left w).prop = w.prop := fun w => afterFloor_prop _
    have owed : ∀ w, (left w).owed = w.owed := fun w => (afterFloor_frame _ _ _ _).owed
    refine ⟨fun other => ?_, fun b x hbody hd => ?_⟩
    · rw [noticeGivenUp_other other] at done
      exact congrArg _ (applyHead_applied head done (still.of_prop (prop _) (owed _)))
    · intro up gave
      rw [noticeGivenUp_proposal hbody hd, popped_role] at done
      refine ⟨congrArg _ (applyHead_answered head done), fun y hy hg only complete => ?_⟩
      exact settle_completed (f := Proposal.giveUp _) still (fun _ => Proposal.giveUp_status) (congrArg _ (prop gave)) hy
        hg only complete

end Sys2Proof.Machine
end

section
/-! SUPPORT. PORT_TIMEOUT (R117, R159, R169): no notice reaches a port that is not OPEN, so its queues are empty once its
notices are given back; and where each of them goes. -/

namespace Sys2Proof.Machine

/-- What a port holds. -/
def Work.desk (w : Work) (p : Port) : Desk := w.notices.desks[p]

theorem Work.desk_congr {w w' : Work} (h : w'.notices.desks = w.notices.desks) (p : Port) : w'.desk p = w.desk p := by
  unfold Work.desk
  rw [h]

/-! ## A port that is not OPEN gets no notice (R151, R156) -/

/-- A walk stops at an OPEN port alone. -/
theorem walk_opened {e : Env} {w : Work} {priority : Nat} {q : Port} : ∀ {n : Nat} {lap : Bool} {first : Port},
    (walk e w priority n lap first).1 = some q → e.links[q].state = .opened
  | 0, _, _, h => by cases h
  | n + 1, lap, first, h => by
    unfold walk at h
    split at h
    · next taken =>
      cases h
      exact ((accepts_iff e w priority q).mp taken).1
    · split at h
      · exact walk_opened h
      · split at h
        · cases h
        · exact walk_opened h

theorem enterReturn_desks (n : Notice) (w : Work) : (enterReturn n w).1.notices.desks = w.notices.desks := by
  unfold enterReturn
  dsimp only
  repeat' split
  all_goals rfl

section
variable {e : Env} {p : Port} (closed : e.links[p].state ≠ .opened)
include closed

theorem setDesk_closed {q : Port} (h : e.links[q].state = .opened) (w : Work) (d : Desk) :
    (w.setDesk q d).desk p = w.desk p :=
  Work.setDesk_other w q p d fun hp => closed (hp ▸ h)

theorem tryDirected_closed_desk {n : Notice} {dest : Option Port} {w w' : Work} (h : tryDirected e n dest w = some w') :
    w'.desk p = w.desk p := by
  unfold tryDirected at h
  split at h
  · cases h
  · split at h
    · cases h
    · next hq =>
      rw [not_not] at hq
      split at h
      · cases h
        exact setDesk_closed closed hq w _
      · split at h
        · cases h
          exact setDesk_closed closed hq w _
        · cases h

theorem walkFrom_closed_desk (n : Notice) (start : Option Port) (lap : Bool) (first : Port) (w : Work) :
    (walkFrom e n start lap first w).1.desk p = w.desk p := by
  unfold walkFrom
  split
  · next q l h =>
    have found : (walk e w n.priority (walkBound e.ring) lap first).1 = some q := by rw [h]
    exact setDesk_closed closed (walk_opened found) w _
  · exact Work.desk_congr (enterReturn_desks _ w) p

theorem place_closed_desk (n : Notice) (w : Work) : (place e n w).1.desk p = w.desk p := by
  unfold place
  split
  · split
    · next h => exact tryDirected_closed_desk closed h
    · exact Work.desk_congr (enterReturn_desks n w) p
  · exact walkFrom_closed_desk closed n _ _ _ w

omit closed in
theorem recordDrop_desks (d : Notice) (w : Work) : (recordDrop e d w).1.notices.desks = w.notices.desks := by
  rw [recordDrop_work, noticeGivenUp_notices]

omit closed in
theorem afterPlace_desks (x : Work × Option Notice) : (afterPlace e x).1.notices.desks = x.1.notices.desks := by
  obtain ⟨w, d⟩ := x
  cases d with
  | none => rfl
  | some d => exact recordDrop_desks d w

theorem postOnce_closed_desk (b : NoticeBody) (src : Option Port) (w : Work) :
    (postOnce e b src w).1.desk p = w.desk p := by
  unfold postOnce
  dsimp only
  split
  · next h =>
    unfold coalesces at h
    split at h
    · next q =>
      exact setDesk_closed closed (of_decide_eq_true (Bool.and_eq_true_iff.mp h).1) _ _
    · cases h
  · rw [Work.desk_congr (afterPlace_desks _), place_closed_desk closed]
    rfl

theorem postChain_closed_desk : ∀ (n : Nat) (b : NoticeBody) (src : Option Port) (w : Work),
    (postChain e n b src w).desk p = w.desk p
  | 0, b, src, w => postOnce_closed_desk closed b src w
  | n + 1, b, src, w => by
    have once := postOnce_closed_desk closed b src w
    unfold postChain
    split
    · next h =>
      rw [h] at once
      exact once
    · next c h =>
      rw [h] at once
      exact (postChain_closed_desk n c none _).trans once

theorem finishPlace_closed_desk (x : Work × Option Notice) :
    (finishPlace e x).desk p = x.1.desk p := by
  have placed := Work.desk_congr (afterPlace_desks (e := e) x) p
  unfold finishPlace
  split
  · next h =>
    rw [h] at placed
    exact placed
  · next h =>
    rw [h] at placed
    exact (postChain_closed_desk closed _ _ none _).trans placed

theorem reofferOne_closed_desk (w : Work) (g : Nat) : (reofferOne e w g).desk p = w.desk p := by
  unfold reofferOne
  split
  · rfl
  · next n _ =>
    split
    · split
      · next h =>
        have kept := tryDirected_closed_desk closed h
        exact kept
      · rfl
    · next start _ _ =>
      split
      · next q l h =>
        have found : (walk e w n.priority (walkBound e.ring) false (firstInRing e.ring start)).1 = some q := by rw [h]
        exact setDesk_closed closed (walk_opened found) w _
      · rfl

theorem reoffer_closed_desk (w : Work) : (reoffer e w).desk p = w.desk p :=
  List.foldlRecOn (motive := fun x => x.desk p = w.desk p) _ _ rfl
    fun x hx g _ => (reofferOne_closed_desk closed x g).trans hx

theorem afterFloor_closed_desk (q : Port) (n : Nat) (w : Work) :
    (afterFloor e q n w).desk p = w.desk p := by
  unfold afterFloor
  split
  · exact reoffer_closed_desk closed w
  · rfl

/-! ## The notices of the port given back (R159) -/

theorem giveBack_closed_desk (w : Work) (n : Notice) :
    (giveBack e p w n).desk p =
      ⟨(w.desk p).offer.filter fun m => m.tag != n.tag, (w.desk p).taken.filter fun m => m.tag != n.tag⟩ := by
  have off : (w.undesk p n.tag).desk p = _ := Work.setDesk_self w p _
  unfold giveBack
  split
  · rw [finishPlace_closed_desk closed, Work.desk_congr (enterReturn_desks _ _), off]
    rfl
  · rw [finishPlace_closed_desk closed, walkFrom_closed_desk closed, off]
    rfl

/-- What the port still holds once some notices are given back: those whose tags are none of theirs. -/
theorem foldl_giveBack_closed_desk : ∀ (l : List Notice) (w : Work),
    (l.foldl (giveBack e p) w).desk p =
      ⟨(w.desk p).offer.filter fun m => l.all fun n => m.tag != n.tag,
        (w.desk p).taken.filter fun m => l.all fun n => m.tag != n.tag⟩
  | [], w => by simp
  | n :: l, w => by
    rw [List.foldl_cons, foldl_giveBack_closed_desk l, giveBack_closed_desk closed]
    simp only [List.filter_filter, List.all_cons, Bool.and_comm]

theorem emptyDesk_closed_desk (w : Work) : (emptyDesk e p w).desk p = ⟨[], []⟩ := by
  set d := w.desk p with hd
  have none_left : ∀ {l : List Notice}, (∀ m ∈ l, m ∈ d.taken ++ byUrgency d.offer) →
      l.filter (fun m => (d.taken ++ byUrgency d.offer).all fun n => m.tag != n.tag) = [] := fun h =>
    List.filter_eq_nil_iff.mpr fun m hm kept => by simpa using List.all_eq_true.mp kept m (h m hm)
  have emptied : emptyDesk e p w = afterFloor e p (currentFloor e w p)
      ((d.taken ++ byUrgency d.offer).foldl (giveBack e p) w) := rfl
  rw [emptied, afterFloor_closed_desk closed, foldl_giveBack_closed_desk closed, ← hd,
    none_left fun m hm => List.mem_append_right _ (mem_byUrgency.mpr hm),
    none_left fun m hm => List.mem_append_left _ hm]

end

/-! ## Where a notice given back goes -/

section
variable {e : Env}

theorem walkFrom_eq (n : Notice) (start : Option Port) (lap : Bool) (first : Port) (w : Work) :
    let r := walk e w n.priority (walkBound e.ring) lap first
    (∀ x, r.1 = some x →
      walkFrom e n start lap first w = (w.offerAt x { n with delivery := .relayed start r.2 }, none)) ∧
    (r.1 = none → walkFrom e n start lap first w = enterReturn { n with delivery := .relayed start r.2 } w) := by
  simp only [walkFrom]
  split
  · next hw => simp [hw]
  · next hw => simp [hw]

section
variable {x : Work × Option Notice}

theorem finishPlace_placed (h : x.2 = none) : finishPlace e x = x.1 := by
  obtain ⟨w, d⟩ := x
  subst h
  rfl

variable {d : Notice} (h : x.2 = some d)
include h

theorem afterPlace_dropped : afterPlace e x = recordDrop e d x.1 := by
  obtain ⟨w, _⟩ := x
  subst h
  rfl

theorem finishPlace_silent (hs : (recordDrop e d x.1).2 = none) : finishPlace e x = (recordDrop e d x.1).1 := by
  unfold finishPlace
  rw [afterPlace_dropped h]
  split
  · next hd => rw [hd]
  · next hd =>
    rw [hd] at hs
    cases hs

theorem finishPlace_told {b : NoticeBody} (hb : (recordDrop e d x.1).2 = some b) :
    finishPlace e x = post e b none (recordDrop e d x.1).1 := by
  unfold finishPlace
  rw [afterPlace_dropped h]
  split
  · next hd =>
    rw [hd] at hb
    cases hb
  · next hd =>
    rw [hd] at hb ⊢
    cases hb
    rfl

end

variable {p : Port} {n : Notice} (w : Work)

theorem giveBack_directed {dest : Option Port} (h : n.delivery = .directed dest) :
    giveBack e p w n = finishPlace e (enterReturn n (w.undesk p n.tag)) := by
  simp only [giveBack, h]

theorem giveBack_relayed {start : Option Port} {lap : Bool} (h : n.delivery = .relayed start lap) :
    giveBack e p w n = finishPlace e (walkFrom e n start lap (nextInRing e.ring p) (w.undesk p n.tag)) := by
  simp only [giveBack, h]

theorem undesk_eq (g : Nat) :
    w.undesk p g = w.setDesk p ⟨w.notices.desks[p].offer.filter fun m => m.tag ≠ g,
      w.notices.desks[p].taken.filter fun m => m.tag ≠ g⟩ := by
  have same : (fun m : Notice => m.tag != g) = fun m => decide (m.tag ≠ g) := funext fun m => by
    by_cases h : m.tag = g <;> simp [h]
  unfold Work.undesk
  dsimp only
  rw [same]

end

/-! ## The timeout (R169) -/

section
variable {p : Port} {s : State}

theorem execPortTimeout_not_open (h : s.env.links[p].state ≠ .opened) : exec (.portTimeout p) s = .next s := by
  simp only [exec, execPortTimeout]
  split
  · next hs _ => exact absurd hs h
  · rfl

theorem execPortTimeout_open {x : Nat} (h : s.env.links[p].state = .opened) (ht : s.env.links[p].timer = some x) :
    exec (.portTimeout p) s = .next (s.finish (portDown (s.env.reach x) p s.work)) := by
  simp only [exec, execPortTimeout, h, ht]

end

/-- With no proposal outstanding there is no response to give up. -/
theorem Work.calm.giveUpAll {w : Work} (h : w.calm) (r : Role) : w.giveUpAll r = w := by
  unfold Work.giveUpAll
  rw [h.1]
  exact congrArg (fun l => { w with prop := { w.prop with list := l } }) h.1.symm

/-- Settles O13: the emptied queues by `emptyDesk_closed_desk`, what settles by `emptyDesk_frame`, the responses by the
`Proposal.giveUp_` lemmas, and where a notice goes by the `giveBack_` and `finishPlace_` lemmas. -/
theorem portGoesDown : Obligations.PortGoesDown := by
  refine ⟨⟨fun p s => ⟨execPortTimeout_not_open, fun x hs ht => ?_⟩, fun y r =>
    ⟨fun hc hp => ?_, Proposal.giveUp_other⟩⟩, fun e p w => rfl, fun e p n w => ?_⟩
  · intro e w
    have closed : e.links[p].state ≠ .opened := by simp [e, Env.setLink]
    refine ⟨execPortTimeout_open hs ht, emptyDesk_closed_desk closed s.work, emptyDesk_frame e p s.work, fun calm => ?_⟩
    have after : w.calm := (emptyDesk_frame e p s.work).calm calm
    rw [after.giveUpAll, settle_atRest e w after.atRest]
  · rw [Proposal.giveUp_pending hc hp]
    exact Proposal.setResponse_response hp _
  · intro d left finished
    have off : w.undesk p n.tag = left := undesk_eq w n.tag
    have finishes : ∀ x, finished x (finishPlace e x) := fun x =>
      ⟨finishPlace_placed, fun y hy => ⟨finishPlace_silent hy, fun b => finishPlace_told hy⟩⟩
    refine ⟨fun dest hd => ?_, fun start lap hd => ?_⟩
    · rw [giveBack_directed w hd, off]
      exact finishes _
    · intro r walked
      rw [giveBack_relayed w hd, off]
      obtain ⟨found, none⟩ := walkFrom_eq (e := e) n start lap (nextInRing e.ring p) left
      exact ⟨fun x hx => (finishPlace_placed (by rw [found x hx])).trans (congrArg Prod.fst (found x hx)),
        fun hx => none hx ▸ finishes _⟩

end Sys2Proof.Machine
end

section
/-! SUPPORT. RESPOND (R116): its answers, and the notice that it finishes. -/

namespace Sys2Proof.Machine

/-! ## The PROPOSAL notice finished -/

section
variable {e : Env} {p : Port} {g : Nat} {w : Work}

theorem finishProposal_prop : (finishProposal e p g w).prop = w.prop := finishTaken_prop (w := w) _

theorem finishProposal_alarms : (finishProposal e p g w).alarms = w.alarms := finishTaken_alarms (w := w) _

theorem finishProposal_frame : NoticeFrame w (finishProposal e p g w) :=
  (finishTaken_frame e p _ w).trans (setDesk_frame _ p _)

/-- No untaken PROPOSAL notice of the issue is left at the port. -/
theorem finishProposal_untaken : ∀ m ∈ (finishProposal e p g w).notices.desks[p].offer, m.isProposal g = false := by
  intro m hm
  unfold finishProposal dropOffered at hm
  dsimp only at hm
  rw [Work.setDesk_self] at hm
  simpa using (List.mem_filter.mp hm).2

/-- A part between two events is so with the notice finished. -/
theorem Work.atRest.finishProposal (still : w.atRest) : (finishProposal e p g w).atRest :=
  still.of_prop finishProposal_prop finishProposal_frame.owed

theorem Work.atRest.finishTaken (still : w.atRest) (which : Notice → Bool) :
    (Machine.finishTaken e p which w).atRest :=
  still.of_prop (finishTaken_prop which) (finishTaken_frame e p which w).owed

end

/-- A record found under a tag. -/
theorem Work.proposal_spec {w : Work} {g : Nat} {y : Proposal} (h : w.proposal g = some y) :
    y ∈ w.prop.list ∧ y.tag = g :=
  ⟨List.mem_of_find?_eq_some h, by simpa using List.find?_some h⟩

theorem updProposal_frame (w : Work) (g : Nat) (f : Proposal → Proposal) : NoticeFrame w (w.updProposal g f) :=
  ⟨rfl, rfl, rfl, rfl, rfl, rfl, rfl, rfl, fun none => by simp [Work.updProposal, none]⟩

/-! ## The answers -/

section
variable {e : Env} {p : Port} {w : Work} {body : List Byte} {g n : Nat} (hb : exact (getNats [2, 1] body) = some [g, n])
include hb

theorem applyRespond_range (h : answerOf n = none) : applyRespond p e w body = refuse .range e w := by
  simp only [applyRespond, hb, h]

variable {x : Partial} (hx : answerOf n = some x)
include hx

theorem applyRespond_unknown (h : ∀ y, w.proposal g = some y → y.response e.links[p].role = none) :
    applyRespond p e w body = ⟨.unknown, [], e, finishTaken e p (Notice.isProposal g) w⟩ := by
  have none : w.responderOf e.links[p].role g = none := by
    unfold Work.responderOf
    split
    · next y hy => rw [h y hy]; rfl
    · rfl
  simp only [applyRespond, hb, hx, recordResponse, none]

variable {y : Proposal} (hy : w.proposal g = some y)
include hy

theorem applyRespond_responder {old : Partial} (ho : y.response e.links[p].role = some old) :
    applyRespond p e w body = if y.collecting && old == .pending then
      answerOk e (finishProposal e p g (w.updProposal g fun z => z.setResponse e.links[p].role x))
    else ⟨.state, [], e, finishProposal e p g w⟩ := by
  have responder : w.responderOf e.links[p].role g = some (y, old) := by
    simp only [Work.responderOf, hy, ho, Option.map_some]
  simp only [applyRespond, hb, hx, recordResponse, responder]

theorem applyRespond_state (hr : y.response e.links[p].role ≠ none)
    (h : y.collecting = false ∨ y.response e.links[p].role ≠ some .pending) :
    applyRespond p e w body = ⟨.state, [], e, finishProposal e p g w⟩ := by
  obtain ⟨old, ho⟩ := Option.ne_none_iff_exists'.mp hr
  rw [applyRespond_responder hb hx hy ho]
  refine if_neg fun awaited => ?_
  obtain ⟨hc, hp⟩ := Bool.and_eq_true_iff.mp awaited
  rcases h with h | h
  · exact Bool.false_ne_true (h.symm.trans hc)
  · exact h (ho.trans (congrArg some (beq_iff_eq.mp hp)))

theorem applyRespond_ok (hc : y.collecting = true) (hp : y.response e.links[p].role = some .pending) :
    applyRespond p e w body =
      answerOk e (finishProposal e p g (w.updProposal g fun z => z.setResponse e.links[p].role x)) := by
  rw [applyRespond_responder hb hx hy hp]
  exact if_pos (by simp [hc])

end

/-- Settles O41: the answers by the `applyRespond_` lemmas, the notice by the `finishProposal_` lemmas, and the result
formed by `settle_completed`. -/
theorem respondRequest : Obligations.RespondRequest := by
  intro s p q rest body tag n head hb still role answers
  set e := popped s.env p rest with he
  have here : e.links[p].role = role := popped_role s.env p p rest
  have concluded : ∀ {c : Code} {t : Work} {x : ProposalUnit}, applyRespond p e s.work body = ⟨c, [], e, t⟩ →
      t.atRest → t.prop = x → NoticeFrame s.work t → t.alarms = s.work.alarms → answers c x :=
    fun {c t x} hf at_rest prop frame alarms =>
      ⟨appliedState s p q c [] e t, congrArg Host.Outcome.next (applyHead_applied head hf at_rest), rfl, rfl, prop, frame,
        alarms⟩
  have unknown : ∀ {x}, answerOf n = some x → (∀ y, s.work.proposal tag = some y → y.response role = none) →
      answers .unknown s.work.prop := fun hx no_part =>
    concluded (applyRespond_unknown hb hx (here ▸ no_part)) (still.finishTaken _) (finishTaken_prop _)
      (finishTaken_frame _ _ _ _) (finishTaken_alarms _)
  refine ⟨fun range => congrArg _ (applyHead_refused _ _ head still (applyRespond_range hb range)), fun x hx =>
    ⟨fun gone => unknown hx fun y hy => ?_, fun y hy => ⟨fun no_part => unknown hx fun z hz => ?_, fun part late => ?_,
      ?_⟩⟩⟩
  · rw [gone] at hy
    cases hy
  · rw [hy] at hz
    exact Option.some.inj hz ▸ no_part
  · exact concluded (applyRespond_state hb hx hy (here ▸ part) (here ▸ late)) still.finishProposal finishProposal_prop
      finishProposal_frame finishProposal_alarms
  · obtain ⟨mem, named⟩ := Work.proposal_spec hy
    have recorded : ∀ (_ : y.collecting = true) (_ : y.response role = some .pending), applyRespond p e s.work body =
        answerOk e (finishProposal e p tag (s.work.updProposal tag fun z => z.setResponse role x)) :=
      fun hc hp => here ▸ applyRespond_ok hb hx hy hc (here ▸ hp)
    have status : ∀ z : Proposal, (z.setResponse role x).status = z.status := fun z => Proposal.setResponse_status x
    refine ⟨fun hc hp awaits => concluded (recorded hc hp) ?_ finishProposal_prop
      ((updProposal_frame _ _ _).trans finishProposal_frame) finishProposal_alarms, fun hc hp => ?_⟩
    · exact (atRest_rewritten (t := s.work.updProposal tag fun z => z.setResponse role x) still status rfl rfl
        awaits).finishProposal
    · intro e given
      refine ⟨congrArg _ (applyHead_answered head (recorded hc hp)), finishProposal_untaken, fun only complete => ?_⟩
      exact settle_completed still status (congrArg _ finishProposal_prop) mem named only complete

end Sys2Proof.Machine
end

section
/-! SUPPORT. The effects of results (R120 to R122, R124), and a withdrawal (R125): the records, the untaken notices and the
marks of the younger proposals. -/

namespace Sys2Proof.Machine

/-! ## Marks rewritten under a tag -/

section
variable {t : Track} {f : Mark → Mark} (hf : ∀ x, (f x).tag = x.tag)
include hf

/-- A mark is found where it was, rewritten if it is of the tag rewritten. -/
theorem Track.find_update_map (g k : Nat) :
    (t.update g f).find k = (t.find k).map fun x => if x.tag = g then f x else x := by
  have same : ((fun x : Mark => x.tag == k) ∘ fun x : Mark => if x.tag = g then f x else x) =
      fun x : Mark => x.tag == k := by
    funext x
    simp only [Function.comp]
    split
    · rw [hf]
    · rfl
  change (t.marks.map _).find? (fun x : Mark => x.tag == k) = _
  rw [List.find?_map, same]
  rfl

theorem Track.find_update_other {g k : Nat} (h : k ≠ g) : (t.update g f).find k = t.find k := by
  rw [Track.find_update_map hf]
  cases hm : t.find k with
  | none => rfl
  | some m => exact congrArg some (if_neg (Track.find_tag hm ▸ h))

end

/-- A PROPOSED mark becomes PLANNED again (R125). -/
def Mark.planAgain (m : Mark) : Mark := if m.changeState? = some .proposed then m.withState .planned else m

theorem Mark.planAgain_stays (m : Mark) : m.Stays m.planAgain := Mark.Stays.withdrawn m

theorem Mark.Stays.pair {m m' : Mark} (h : m.Stays m') : m'.pair? = m.pair? := by
  unfold Mark.pair?
  rcases h.body with hb | ⟨i, j, late, hb, hb'⟩
  · rw [hb]
  · rw [hb, hb']

theorem Mark.planAgain_not_proposed (m : Mark) : m.planAgain.changeState? ≠ some .proposed := by
  unfold Mark.planAgain
  split
  · next h => cases hb : m.body <;> simp [Mark.withState, Mark.changeState?, hb] at h ⊢
  · next h => exact h

/-- The pair of every mark stays where the marks of a tag are planned again. -/
theorem planAgain_pair (t : Track) (g k : Nat) :
    ((t.update g Mark.planAgain).find k).bind Mark.pair? = (t.find k).bind Mark.pair? := by
  rw [Track.find_update_map fun x => x.planAgain_stays.tag]
  cases t.find k with
  | none => rfl
  | some m =>
    simp only [Option.map_some, Option.bind_some]
    split
    · exact m.planAgain_stays.pair
    · rfl

/-! ## The untaken notices of an issue (R119, R125) -/

section
variable {g : Nat} {p : Port} {n : Notice} {w : Work}

theorem dropOffered_offer (q : Port) (h : n ∈ ((dropOffered q g w).desk p).offer) :
    n ∈ (w.desk p).offer ∧ (p = q → n.isProposal g = false) := by
  by_cases hq : p = q
  · subst hq
    have here : (dropOffered p g w).desk p = _ := Work.setDesk_self w p _
    rw [here] at h
    obtain ⟨mem, other⟩ := List.mem_filter.mp h
    exact ⟨mem, fun _ => by simpa using other⟩
  · have there : (dropOffered q g w).desk p = w.desk p := Work.setDesk_other w q p _ hq
    rw [there] at h
    exact ⟨h, fun here => absurd here hq⟩

theorem foldl_dropOffered_offer : ∀ {ports : List Port} {w : Work},
    n ∈ ((ports.foldl (fun x q => dropOffered q g x) w).desk p).offer →
      n ∈ (w.desk p).offer ∧ (p ∈ ports → n.isProposal g = false)
  | [], _, h => ⟨h, fun hp => absurd hp List.not_mem_nil⟩
  | q :: ports, w, h => by
    obtain ⟨mem, later⟩ := foldl_dropOffered_offer (ports := ports) h
    obtain ⟨mem, here⟩ := dropOffered_offer q mem
    exact ⟨mem, fun hp => (List.mem_cons.mp hp).elim here later⟩

/-- What a removal leaves untaken at a port was there, and is no PROPOSAL notice of the issue. -/
theorem removeUntaken_offer (h : n ∈ ((removeUntaken g w).desk p).offer) :
    n ∈ (w.desk p).offer ∧ n.isProposal g = false := by
  have desks : (removeUntaken g w).desk p = (allPorts.foldl (fun x q => dropOffered q g x) w).desk p := rfl
  rw [desks] at h
  obtain ⟨mem, none⟩ := foldl_dropOffered_offer h
  exact ⟨mem, none (mem_allPorts p)⟩

theorem removeUntaken_returned (h : n ∈ (removeUntaken g w).notices.returned) :
    n ∈ w.notices.returned ∧ n.isProposal g = false := by
  obtain ⟨mem, other⟩ := List.mem_filter.mp h
  exact ⟨mem, by simpa using other⟩

end

/-! ## One withdrawal (R125) -/

/-- What is left of a proposal withdrawn: none of its marks PROPOSED, and none of its notices untaken. -/
def Cleared (z : Proposal) (w : Work) : Prop :=
  (∀ m, w.track.find z.changeTag = some m → m.changeState? ≠ some .proposed) ∧
  (∀ p : Port, ∀ n ∈ (w.desk p).offer, n.isProposal z.tag = false) ∧
  ∀ n ∈ w.notices.returned, n.isProposal z.tag = false

/-- Two states of the blocks that differ at most as a withdrawal makes them differ: the orders, the stands, the sheets,
the cues and the pairs of the marks are the same, and what has been cleared stays so. -/
structure WithdrawFrame (w w' : Work) : Prop where
  seq : w'.seq = w.seq
  stands : w'.stands = w.stands
  sheet : w'.sheet = w.sheet
  cues : w'.cues = w.cues
  pairs : ∀ k, w'.pairOf k = w.pairOf k
  cleared : ∀ z, Cleared z w → Cleared z w'

theorem WithdrawFrame.refl (w : Work) : WithdrawFrame w w := ⟨rfl, rfl, rfl, rfl, fun _ => rfl, fun _ h => h⟩

theorem WithdrawFrame.trans {a b c : Work} (h : WithdrawFrame a b) (g : WithdrawFrame b c) : WithdrawFrame a c where
  seq := g.seq.trans h.seq
  stands := g.stands.trans h.stands
  sheet := g.sheet.trans h.sheet
  cues := g.cues.trans h.cues
  pairs k := (g.pairs k).trans (h.pairs k)
  cleared z x := g.cleared z (h.cleared z x)

theorem withdrawFor_none {g : Nat} {w : Work} (h : w.prop.list.find? (fun p => p.changeTag == g) = none) :
    withdrawFor g w = w := by
  simp only [withdrawFor, h]

/-- The blocks with the records of a mark off the list, and the untaken notices of one of them removed. -/
def withdrawnWork (g : Nat) (z : Proposal) (w : Work) : Work :=
  removeUntaken z.tag { w with prop := { w.prop with list := w.prop.list.filter fun x => x.changeTag != g } }

section
variable {g : Nat} {z : Proposal} {w : Work}

theorem withdrawnWork_frame :
    NoticeFrame { w with prop := { w.prop with list := w.prop.list.filter fun x => x.changeTag != g } }
      (withdrawnWork g z w) := removeUntaken_frame z.tag _

theorem withdrawnWork_offer {p : Port} {n : Notice} (h : n ∈ ((withdrawnWork g z w).desk p).offer) :
    n ∈ (w.desk p).offer ∧ n.isProposal z.tag = false := removeUntaken_offer h

theorem withdrawnWork_returned {n : Notice} (h : n ∈ (withdrawnWork g z w).notices.returned) :
    n ∈ w.notices.returned ∧ n.isProposal z.tag = false := removeUntaken_returned h

end

theorem withdrawFor_some {g : Nat} {w : Work} {z : Proposal}
    (h : w.prop.list.find? (fun p => p.changeTag == g) = some z) :
    withdrawFor g w =
      { withdrawnWork g z w with
        track := w.track.update g Mark.planAgain
        owed := { w.owed with due := true } } := by
  simp only [withdrawFor, h]
  rfl

theorem withdrawFor_list (g : Nat) (w : Work) :
    (withdrawFor g w).prop.list = w.prop.list.filter fun x => x.changeTag != g := by
  cases h : w.prop.list.find? (fun p => p.changeTag == g) with
  | none =>
    rw [withdrawFor_none h]
    exact (List.filter_eq_self.mpr fun x hx => by simpa using List.find?_eq_none.mp h x hx).symm
  | some z =>
    rw [withdrawFor_some h]
    rfl

/-- What a withdrawal of a record leaves untaken was there, and is no PROPOSAL notice of its issue. -/
theorem withdrawFor_untaken {g : Nat} {w : Work} {z : Proposal}
    (h : w.prop.list.find? (fun p => p.changeTag == g) = some z) :
    (∀ p : Port, ∀ n ∈ ((withdrawFor g w).desk p).offer, n ∈ (w.desk p).offer ∧ n.isProposal z.tag = false) ∧
    ∀ n ∈ (withdrawFor g w).notices.returned, n ∈ w.notices.returned ∧ n.isProposal z.tag = false := by
  have notices : (withdrawFor g w).notices = (withdrawnWork g z w).notices := by rw [withdrawFor_some h]
  have desk : ∀ p, (withdrawFor g w).desk p = (withdrawnWork g z w).desk p :=
    fun p => Work.desk_congr (congrArg NoticeUnit.desks notices) p
  refine ⟨fun p n hn => ?_, fun n hn => ?_⟩
  · rw [desk] at hn
    exact withdrawnWork_offer hn
  · rw [notices] at hn
    exact withdrawnWork_returned hn

theorem withdrawFor_track {g : Nat} {w : Work} {z : Proposal}
    (h : w.prop.list.find? (fun p => p.changeTag == g) = some z) :
    (withdrawFor g w).track = w.track.update g Mark.planAgain := by rw [withdrawFor_some h]

theorem withdrawFor_frame (g : Nat) (w : Work) : WithdrawFrame w (withdrawFor g w) := by
  cases h : w.prop.list.find? (fun p => p.changeTag == g) with
  | none =>
    rw [withdrawFor_none h]
    exact .refl w
  | some z =>
    have notices := withdrawnWork_frame (g := g) (z := z) (w := w)
    have blocks := withdrawFor_some h
    have track := withdrawFor_track h
    obtain ⟨offers, returned⟩ := withdrawFor_untaken h
    refine ⟨blocks ▸ notices.seq, blocks ▸ notices.stands, blocks ▸ notices.sheet, blocks ▸ notices.cues, fun k => ?_,
      fun x ⟨marks, clearOffers, clearReturned⟩ => ⟨fun m hm => ?_, fun p n hn => clearOffers p n (offers p n hn).1,
        fun n hn => clearReturned n (returned n hn).1⟩⟩
    · unfold Work.pairOf
      rw [track]
      exact planAgain_pair w.track g k
    · rw [track, Track.find_update_map fun x => x.planAgain_stays.tag] at hm
      obtain ⟨m', hm', rfl⟩ := Option.map_eq_some_iff.mp hm
      split
      · exact m'.planAgain_not_proposed
      · exact marks m' hm'

theorem withdrawFor_cleared {g : Nat} {w : Work} {z : Proposal}
    (h : w.prop.list.find? (fun p => p.changeTag == g) = some z) : Cleared z (withdrawFor g w) := by
  have named : z.changeTag = g := by simpa using List.find?_some h
  obtain ⟨offers, returned⟩ := withdrawFor_untaken h
  refine ⟨fun m hm => ?_, fun p n hn => (offers p n hn).2, fun n hn => (returned n hn).2⟩
  rw [withdrawFor_track h, Track.find_update_map fun x => x.planAgain_stays.tag] at hm
  obtain ⟨m', hm', rfl⟩ := Option.map_eq_some_iff.mp hm
  rw [if_pos ((Track.find_tag hm').trans named)]
  exact m'.planAgain_not_proposed

theorem withdrawFor_find_other {g k : Nat} (hk : k ≠ g) (w : Work) :
    (withdrawFor g w).track.find k = w.track.find k := by
  cases h : w.prop.list.find? (fun p => p.changeTag == g) with
  | none => rw [withdrawFor_none h]
  | some z =>
    rw [withdrawFor_some h]
    exact Track.find_update_other (fun x => x.planAgain_stays.tag) hk

/-! ## The younger records withdrawn (R125) -/

theorem foldl_withdraw_frame (l : List Nat) (w : Work) : WithdrawFrame w (l.foldl (fun x g => withdrawFor g x) w) :=
  List.foldlRecOn (motive := WithdrawFrame w) l _ (.refl w) fun x hx g _ => hx.trans (withdrawFor_frame g x)

theorem foldl_withdraw_find {k : Nat} {l : List Nat} (hk : k ∉ l) (w : Work) :
    (l.foldl (fun x g => withdrawFor g x) w).track.find k = w.track.find k :=
  List.foldlRecOn (motive := fun x => x.track.find k = w.track.find k) l _ rfl fun x hx _ hg =>
    (withdrawFor_find_other (ne_of_mem_of_not_mem hg hk).symm x).trans hx

theorem foldl_withdraw_list : ∀ (l : List Nat) (w : Work),
    (l.foldl (fun x g => withdrawFor g x) w).prop.list = w.prop.list.filter fun z => !l.contains z.changeTag
  | [], w => by simp
  | g :: l, w => by
    rw [List.foldl_cons, foldl_withdraw_list l, withdrawFor_list, List.filter_filter]
    refine List.filter_congr fun z _ => ?_
    simp only [List.contains_cons, Bool.not_or, bne, Bool.and_comm]

/-- Records withdrawn one after another are all cleared in the end, where each has a mark of its own. -/
theorem foldl_withdraw_cleared : ∀ (l : List Nat) {w : Work}, (w.prop.list.map Proposal.changeTag).Nodup →
    ∀ z ∈ w.prop.list, z.changeTag ∈ l → Cleared z (l.foldl (fun x g => withdrawFor g x) w)
  | [], _, _, _, _, hl => absurd hl List.not_mem_nil
  | g :: l, w, own, z, hz, hl => by
    rw [List.foldl_cons]
    by_cases first : z.changeTag = g
    · have found : w.prop.list.find? (fun p => p.changeTag == g) = some z := by
        refine find?_of_only hz (by simp [first]) fun x hx named => ?_
        exact List.inj_on_of_nodup_map own hx hz ((beq_iff_eq.mp named).trans first.symm)
      exact (foldl_withdraw_frame l _).cleared z (withdrawFor_cleared found)
    · have rest := withdrawFor_list g w
      refine foldl_withdraw_cleared l ?_ z ?_ ((List.mem_cons.mp hl).resolve_left first)
      · rw [rest]
        exact own.sublist (List.filter_sublist.map _)
      · rw [rest]
        exact List.mem_filter.mpr ⟨hz, by simpa using first⟩

theorem withdrawYounger_frame (g : Nat) (w : Work) : WithdrawFrame w (withdrawYounger g w) := foldl_withdraw_frame _ w

section
variable {w : Work} {y : Proposal} {rest : List Proposal} (hl : w.prop.list = y :: rest)
include hl

/-- After the first record all the others are younger. -/
theorem withdrawYounger_first :
    withdrawYounger y.changeTag w = (rest.map Proposal.changeTag).reverse.foldl (fun x g => withdrawFor g x) w := by
  unfold withdrawYounger
  rw [hl]
  simp

variable (own : ((y :: rest).map Proposal.changeTag).Nodup)
include own

theorem withdrawYounger_list : (withdrawYounger y.changeTag w).prop.list = [y] := by
  obtain ⟨apart, -⟩ := List.nodup_cons.mp own
  rw [withdrawYounger_first hl, foldl_withdraw_list, hl, List.filter_cons_of_pos (by simpa using apart)]
  refine congrArg _ (List.filter_eq_nil_iff.mpr fun z hz => ?_)
  simpa using ⟨z, hz, rfl⟩

theorem withdrawYounger_find : (withdrawYounger y.changeTag w).track.find y.changeTag = w.track.find y.changeTag := by
  obtain ⟨apart, -⟩ := List.nodup_cons.mp own
  rw [withdrawYounger_first hl]
  exact foldl_withdraw_find (by simpa using apart) w

theorem withdrawYounger_cleared : ∀ z ∈ rest, Cleared z (withdrawYounger y.changeTag w) := by
  intro z hz
  rw [withdrawYounger_first hl]
  refine foldl_withdraw_cleared _ (hl ▸ own) z (hl ▸ List.mem_cons_of_mem y hz) ?_
  simpa using ⟨z, hz, rfl⟩

end

/-! ## A result takes effect (R120) -/

theorem takeEffect_none_iff {e : Env} {w : Work} :
    takeEffect e w = none ↔ ∀ y ∈ w.prop.list.head?, ∀ r stalled, y.status = .decided r stalled → r = .widened := by
  unfold takeEffect
  split
  · next h => simp [h]
  · next y rest h =>
    rw [h]
    simp only [List.head?_cons, Option.mem_def, Option.some.injEq, forall_eq']
    cases y.status with
    | collecting deadline => simp
    | decided r stalled => cases r <;> simp
    | waiting retry => simp

section
variable {e : Env} {w : Work} {y : Proposal} {rest : List Proposal} {stalled : Bool} (hl : w.prop.list = y :: rest)
include hl

theorem takeEffect_committed (h : y.status = .decided .committed stalled) :
    takeEffect e w = some (effectCommitted e y w) := by simp only [takeEffect, hl, h]

theorem takeEffect_deferred (h : y.status = .decided .deferred stalled) :
    takeEffect e w = some (effectDeferred e y w) := by simp only [takeEffect, hl, h]

theorem takeEffect_refused (h : y.status = .decided .refused stalled) :
    takeEffect e w = some (effectRefused e y w) := by simp only [takeEffect, hl, h]

end

/-! ## The effects (R121, R122, R124) -/

/-- The first mark with a tag. -/
theorem Track.find_first {t : Track} {m : Mark} {before after : List Mark} (hm : t.marks = before ++ m :: after)
    (hb : ∀ x ∈ before, x.tag ≠ m.tag) : t.find m.tag = some m :=
  List.find?_eq_some_iff_append.mpr ⟨by simp, before, after, hm, fun x hx => by simpa using hb x hx⟩

/-- The marks before the first one with a tag. -/
theorem Track.takeWhile_first {t : Track} {m : Mark} {before after : List Mark} (hm : t.marks = before ++ m :: after)
    (hb : ∀ x ∈ before, x.tag ≠ m.tag) : (t.marks.takeWhile fun x => x.tag != m.tag) = before := by
  rw [hm, List.takeWhile_append_of_pos fun x hx => by simpa using hb x hx]
  simp

/-- The track commits a PROPOSED mark with every CHANGE before it committed (R38). -/
theorem acceptsCommit_first {t : Track} {m : Mark} {before after : List Mark} (hm : t.marks = before ++ m :: after)
    (hb : ∀ x ∈ before, x.tag ≠ m.tag) (hc : ∀ x ∈ before, x.uncommitted = false)
    (hs : m.changeState? = some .proposed) : acceptsCommit t m = true := by
  unfold acceptsCommit
  rw [Track.takeWhile_first hm hb]
  simpa [hs] using hc

theorem commitMark_accepted (e : Env) {w : Work} {m : Mark} (hm : w.track.find m.tag = some m)
    (h : acceptsCommit w.track m = true) :
    commitMark e m.tag w = evaluate e (arrive e) true [m.entry] (some m.entry)
      { w with track := w.track.update m.tag fun x => x.withState .committed } := by
  simp only [commitMark, hm, h, if_true]

/-- The blocks with the younger records withdrawn, the mark planned again, and the record off the list (R124). -/
def refusedWork (y : Proposal) (w : Work) : Work :=
  Work.endProposal { withdrawYounger y.changeTag w with
    track := (withdrawYounger y.changeTag w).track.update y.changeTag Mark.planAgain } y.tag

section
variable {e : Env} {w : Work} {y : Proposal} {i j : Nat} (hp : w.pairOf y.changeTag = some (i, j))
include hp

theorem effectCommitted_pair :
    effectCommitted e y w = (requirementRules e ((commitMark e y.changeTag w).updOrder i fun o =>
      { o with endCommitted := true })).endProposal y.tag := by
  simp only [effectCommitted, hp]

theorem effectDeferred_within (h : y.deferrals + 1 ≤ e.table.deferralLimit) :
    effectDeferred e y w = moveAndAnnounce e i 1
      ((countDeferral i y.changeTag (withdrawYounger y.changeTag w)).updProposal y.tag fun z =>
        { z with status := .waiting (Pos.at ((Pos.at e.b).plus e.table.retryDistance).val) }) := by
  simp only [effectDeferred, hp]
  exact if_neg (not_lt.mpr h)

theorem effectDeferred_beyond (h : e.table.deferralLimit < y.deferrals + 1) :
    effectDeferred e y w =
      stall e y (y.deferrals + 1) (countDeferral i y.changeTag (withdrawYounger y.changeTag w)) := by
  simp only [effectDeferred, hp]
  exact if_pos h

theorem effectRefused_pair : effectRefused e y w = refusalHold e y.changeTag j (refusedWork y w) := by
  have pair : (refusedWork y w).pairOf y.changeTag = some (i, j) :=
    (planAgain_pair _ _ _).trans (((withdrawYounger_frame _ w).pairs _).trans hp)
  unfold effectRefused
  dsimp only
  split
  · next h =>
    cases pair.symm.trans h
    rfl
  · next h => cases pair.symm.trans h

/-- A refusal by the limit raises CHANGE_STALLED, and a second RESULT notice says so (R122, R126). -/
theorem stall_pair (n : Nat) :
    stall e y n w = effectRefused e y (post e (.result ⟨y.tag, y.changeTag, i, j, .refused, n, true⟩) none
      (raiseAlarm e .changeStalled (.order j)
        (removeUntaken y.tag (w.updProposal y.tag fun z => { z with status := .decided .refused true })))) := by
  have pair : (raiseAlarm e .changeStalled (.order j) (removeUntaken y.tag (w.updProposal y.tag fun z =>
      { z with status := .decided .refused true }))).pairOf y.changeTag = some (i, j) := by
    unfold Work.pairOf
    rw [raiseAlarm_track, removeUntaken_track]
    exact hp
  rw [← postResult_pair pair]
  simp only [stall, hp]

end

/-- The retry position, so far ahead of the datum (R122). -/
theorem retry_pos (b : Word) (n : Nat) : Pos.at ((Pos.at b).plus n).val = ⟨b + BitVec.ofNat 32 n, false⟩ := by
  simp [Pos.at, Pos.plus]

/-- Settles O43: which results take effect by the `takeEffect_` lemmas, what they do by the `effect` lemmas and
`stall_pair`, and a withdrawal by the `withdrawYounger_` lemmas. -/
theorem proposalEffects : Obligations.ProposalEffects := by
  refine ⟨fun e w => takeEffect_none_iff, ?committed, fun e y rest stalled w i j hl hs hp => ?deferred,
    fun e y n w i j hp => ⟨raiseAlarm_hasAlarm e _ _ _, stall_pair hp n⟩,
    fun e y rest stalled w hl hs => takeEffect_refused hl hs, fun e y w i j hp => effectRefused_pair hp,
    fun y rest w hl own => ?withdrawal⟩
  case committed =>
    intro e y rest stalled w m i j before after hl hs hm hb hg proposed pair
    have apart : ∀ x ∈ before, x.tag ≠ m.tag := fun x hx => (hb x hx).1
    have found := Track.find_first hm apart
    have accepted := acceptsCommit_first hm apart (fun x hx => (hb x hx).2) proposed
    have named : w.pairOf y.changeTag = some (i, j) := by simp only [Work.pairOf, ← hg, found, Option.bind_some, pair]
    rw [takeEffect_committed hl hs, effectCommitted_pair named, ← hg, commitMark_accepted e found accepted]
    rfl
  case deferred =>
    intro w1 w2 retry
    rw [takeEffect_deferred hl hs]
    refine ⟨fun within => ?_, fun beyond => congrArg some (effectDeferred_beyond hp beyond)⟩
    rw [effectDeferred_within hp within, retry_pos]
    rfl
  case withdrawal =>
    obtain ⟨seq, stands, sheet, cues, -, -⟩ := withdrawYounger_frame y.changeTag w
    exact ⟨withdrawYounger_list hl own, seq, stands, sheet, cues, withdrawYounger_find hl own,
      withdrawYounger_cleared hl own⟩

end Sys2Proof.Machine
end

section
/-! SUPPORT. The issue of proposals (R112 to R115), the guard and the retry (R122, R126), and the due test (R113). -/

namespace Sys2Proof.Machine

/-! ## When a proposal falls due (R113) -/

theorem isDue_iff {e : Env} {w : Work} {n : Mark} :
    isDue e w n = true ↔ ∃ i j, n.pair? = some (i, j) ∧ e.ahead n.start ≤ dueDistance e w.seq i j := by
  unfold isDue
  split
  · next i j h => simp [h]
  · next h => simp [h]

/-- The first mark with a property. -/
theorem plannedChanges_head_iff {t : Track} {m : Mark} :
    t.plannedChanges.head? = some m ↔ ∃ before after, t.marks = before ++ m :: after ∧ m.changeState? = some .planned ∧
      ∀ x ∈ before, x.changeState? ≠ some .planned := by
  unfold Track.plannedChanges
  rw [List.head?_filter, List.find?_eq_some_iff_append]
  simp only [beq_iff_eq, Bool.not_eq_true', beq_eq_false_iff_ne, ne_eq]
  exact ⟨fun ⟨planned, before, after, marks, first⟩ => ⟨before, after, marks, planned, first⟩,
    fun ⟨before, after, marks, planned, first⟩ => ⟨planned, before, after, marks, first⟩⟩

/-- A record that does not wait for its retry position. -/
def Proposal.notWaiting (y : Proposal) : Bool :=
  match y.status with
  | .waiting _ => false
  | _ => true

theorem Proposal.notWaiting_iff {y : Proposal} : y.notWaiting = true ↔ ∀ r, y.status ≠ .waiting r := by
  unfold Proposal.notWaiting
  split
  · next r h => simp [h]
  · next h => simpa using h

theorem dueMark_eq (e : Env) (w : Work) :
    dueMark e w =
      if e.run = .running ∧ w.prop.list.length < 4 ∧ w.prop.list.all Proposal.notWaiting = true ∧
          w.track.plannedChanges.any (isDue e w) = true then
        w.track.plannedChanges.head?
      else none := rfl

theorem dueMark_iff {e : Env} {w : Work} {m : Mark} :
    dueMark e w = some m ↔ e.run = .running ∧ w.prop.list.length < 4 ∧
      (∀ y ∈ w.prop.list, ∀ r, y.status ≠ .waiting r) ∧
      (∃ before after, w.track.marks = before ++ m :: after ∧ m.changeState? = some .planned ∧
        ∀ x ∈ before, x.changeState? ≠ some .planned) ∧
      ∃ n ∈ w.track.marks, n.changeState? = some .planned ∧
        ∃ i j, n.pair? = some (i, j) ∧ e.ahead n.start ≤ dueDistance e w.seq i j := by
  have near : w.track.plannedChanges.any (isDue e w) = true ↔ ∃ n ∈ w.track.marks, n.changeState? = some .planned ∧
      ∃ i j, n.pair? = some (i, j) ∧ e.ahead n.start ≤ dueDistance e w.seq i j := by
    simp only [List.any_eq_true, Track.plannedChanges, List.mem_filter, beq_iff_eq, isDue_iff, and_assoc]
  rw [← near, ← plannedChanges_head_iff, dueMark_eq, Option.ite_none_right_eq_some]
  simp only [List.all_eq_true, Proposal.notWaiting_iff, ne_eq, and_assoc, and_comm (a := _ = some m)]

/-! ## The retry (R122) -/

/-- A WAITING record whose retry position has passed the datum. -/
def Proposal.retries (e : Env) (y : Proposal) : Bool :=
  match y.status with
  | .waiting r => e.passed r 0
  | _ => false

theorem Proposal.retries_iff {e : Env} {y : Proposal} :
    y.retries e = true ↔ ∃ r, y.status = .waiting r ∧ e.ahead r ≤ 0 := by
  unfold Proposal.retries
  split
  · next r h => simp [h, Env.passed]
  · next h => simpa using fun r hr => absurd hr (h r)

theorem retryWaiting_eq (e : Env) (w : Work) :
    retryWaiting e w = match w.prop.list.find? (Proposal.retries e) with
      | some p => issue e p.tag p.scope w
      | none => w := rfl

section
variable {e : Env} {w : Work}

/-- The first record that retries is issued again. -/
theorem retryWaiting_passed {before after : List Proposal} {y : Proposal} {r : Pos}
    (hl : w.prop.list = before ++ y :: after) (hs : y.status = .waiting r) (hr : e.ahead r ≤ 0)
    (hb : ∀ z ∈ before, ∀ r', z.status = .waiting r' → 0 < e.ahead r') :
    retryWaiting e w = issue e y.tag y.scope w := by
  have found : w.prop.list.find? (Proposal.retries e) = some y := by
    refine List.find?_eq_some_iff_append.mpr ⟨Proposal.retries_iff.mpr ⟨r, hs, hr⟩, before, after, hl, fun z hz => ?_⟩
    rw [Bool.not_eq_true', Bool.eq_false_iff]
    intro retries
    obtain ⟨r', hs', hr'⟩ := Proposal.retries_iff.mp retries
    exact absurd (hb z hz r' hs') (not_lt.mpr hr')
  rw [retryWaiting_eq, found]

theorem retryWaiting_none (h : ∀ y ∈ w.prop.list, ∀ r, y.status = .waiting r → 0 < e.ahead r) :
    retryWaiting e w = w := by
  have none : w.prop.list.find? (Proposal.retries e) = none := by
    refine List.find?_eq_none.mpr fun y hy retries => ?_
    obtain ⟨r, hs, hr⟩ := Proposal.retries_iff.mp retries
    exact absurd (h y hy r hs) (not_lt.mpr hr)
  rw [retryWaiting_eq, none]

end

/-! ## The due test (R113) -/

theorem unsettled_iff {w : Work} :
    unsettled w = true ↔ (∃ y ∈ w.prop.list, y.complete = true) ∨ ∃ y ∈ w.prop.list.head?, y.effective = true := by
  simp only [unsettled, Bool.or_eq_true, List.any_eq_true, Option.any_eq_true, Option.mem_def]

section
variable {e : Env} {w w1 : Work} (h1 : w1 = retryWaiting e (guardAll e { w with owed := { w.owed with due := false } }))
include h1

theorem dueTest_unsettled (h : unsettled w1 = true) : dueTest e w = w1.oweDue := by
  rcases dueTest_cases e w w1 h1 with ⟨-, h2⟩ | ⟨h2, -, -⟩ | ⟨m, h2, -, -⟩
  · exact h2
  · exact absurd (h.symm.trans h2) Bool.true_eq_false_eq_False
  · exact absurd (h.symm.trans h2) Bool.true_eq_false_eq_False

variable (h : ¬unsettled w1 = true)
include h

theorem dueTest_not_due (hm : dueMark e w1 = none) : dueTest e w = w1 := by
  rcases dueTest_cases e w w1 h1 with ⟨h2, -⟩ | ⟨-, -, h2⟩ | ⟨m, -, h2, -⟩
  · exact absurd h2 h
  · exact h2
  · cases hm.symm.trans h2

theorem dueTest_due {m : Mark} (hm : dueMark e w1 = some m) : dueTest e w = (firstIssue e m w1).oweDue := by
  rcases dueTest_cases e w w1 h1 with ⟨h2, -⟩ | ⟨-, h2, -⟩ | ⟨m', -, h2, h3⟩
  · exact absurd h2 h
  · cases hm.symm.trans h2
  · cases hm.symm.trans h2
    exact h3

end

/-! ## The guard (R126) -/

/-- An uncommitted mark within the guard distance. -/
def Mark.Guarded (e : Env) (m : Mark) : Prop := m.uncommitted = true ∧ e.ahead m.start < e.table.guardDistance

theorem Mark.guarded_iff {e : Env} {m : Mark} :
    (m.uncommitted && decide (e.ahead m.start < (e.table.guardDistance : Int))) = true ↔ m.Guarded e := by
  rw [Bool.and_eq_true, decide_eq_true_iff, Mark.Guarded]

section
variable {e : Env} {w : Work} {g : Nat} {m : Mark} {i j : Nat} (hm : w.track.find g = some m)
  (hp : m.pair? = some (i, j))
include hm hp

theorem guardMark_outside (h : ¬m.Guarded e) : guardMark e w g = w := by
  simp only [guardMark, hm, hp]
  exact if_neg (Mark.guarded_iff.not.mpr h)

variable (h : m.Guarded e) {w1 : Work} (h1 : countDeferral i g (moveAndAnnounce e i 1 w) = w1)
include h h1

theorem guardMark_within (hl : ∀ z ∈ w1.prop.list, z.changeTag = g → z.deferrals ≤ e.table.deferralLimit) :
    guardMark e w g = w1 := by
  simp only [guardMark, hm, hp, Mark.guarded_iff.mpr h, if_true, h1]
  split
  · next p found =>
    exact if_neg (not_lt.mpr (hl p (List.mem_of_find?_eq_some found) (by simpa using List.find?_some found)))
  · rfl

theorem guardMark_beyond {before after : List Proposal} {y : Proposal} (hl : w1.prop.list = before ++ y :: after)
    (hb : ∀ z ∈ before, z.changeTag ≠ g) (hy : y.changeTag = g) (hd : e.table.deferralLimit < y.deferrals) :
    guardMark e w g = stall e y y.deferrals w1 := by
  have found : (w1.prop.list.find? fun x => x.changeTag == g) = some y :=
    List.find?_eq_some_iff_append.mpr ⟨by simp [hy], before, after, hl, fun z hz => by simpa using hb z hz⟩
  simp only [guardMark, hm, hp, Mark.guarded_iff.mpr h, if_true, h1, found, hd]

end

/-! ## A PROPOSAL notice posted while the return list has room (R115, R147) -/

/-- Notices have been added to the offer queues, and at most one to the return list. -/
structure Grown (w w' : Work) : Prop where
  offers : ∀ p : Port, ∀ n ∈ (w.desk p).offer, n ∈ (w'.desk p).offer
  returned : ∀ n ∈ w.notices.returned, n ∈ w'.notices.returned
  one : w'.notices.returned.length ≤ w.notices.returned.length + 1

theorem Grown.refl (w : Work) : Grown w w := ⟨fun _ _ h => h, fun _ h => h, Nat.le_succ _⟩

theorem offerAt_desk (w : Work) (p : Port) (n : Notice) : (w.offerAt p n).desk p =
    { w.desk p with offer := (w.desk p).offer ++ [n] } := Work.setDesk_self w p _

theorem offerAt_grown (w : Work) (p : Port) (n : Notice) : Grown w (w.offerAt p n) := by
  refine ⟨fun q m hm => ?_, fun _ h => h, Nat.le_succ _⟩
  by_cases hq : q = p
  · subst hq
    rw [offerAt_desk]
    exact List.mem_append_left _ hm
  · have other : (w.offerAt p n).desk q = w.desk q := Work.setDesk_other w p q _ hq
    rw [other]
    exact hm

/-- The notice that a posting makes of a PROPOSAL's body. -/
def proposalNotice (e : Env) (b : ProposalBody) (source : Option Port) (w : Work) : Notice :=
  ⟨assignTag (w.notices.all.map Notice.tag) w.notices.nextTag, e.classes[NoticeClass.proposal.index].priority,
    deliveryOf e .proposal source, .proposal b, w.notices.postCount⟩

/-- The blocks with the tag of a posting taken. -/
def tagTaken (w : Work) : Work :=
  { w with notices := { w.notices with
      postCount := w.notices.postCount + 1
      nextTag := succTag (assignTag (w.notices.all.map Notice.tag) w.notices.nextTag) } }

/-- A PROPOSAL notice directed to a port goes to its offer queue or to the return list, since it is coalesced with none
(R66). -/
theorem place_proposal (e : Env) (w : Work) {n : Notice} {b : ProposalBody} (hb : n.body = .proposal b)
    {dest : Option Port} (hd : n.delivery = .directed dest) :
    place e n w = enterReturn n w ∨ ∃ p, dest = some p ∧ place e n w = (w.offerAt p n, none) := by
  have apart : ∀ offer : List Notice, ∀ m ∈ offer, ¬n.SameStation m := fun _ m _ ⟨x, _, hx, _⟩ => by
    rw [hb] at hx
    cases hx
  cases dest with
  | none => exact .inl (place_returned hd rfl)
  | some p =>
    by_cases hs : e.links[p].state = .opened
    · rcases Nat.lt_or_ge w.notices.desks[p].offer.length 16 with free | full
      · exact .inr ⟨p, rfl, place_placed hd (tryDirected_room hs (apart _) free)⟩
      · exact .inl (place_returned hd (tryDirected_full hs (apart _) full))
    · exact .inl (place_returned hd (tryDirected_closed hs))

section
variable {w : Work} (room : w.notices.returned.length < 8)
include room

theorem enterReturn_grown (n : Notice) : Grown w (enterReturn n w).1 := by
  rw [enterReturn_room room]
  exact ⟨fun _ _ h => h, fun m h => List.mem_append_left _ h, by simp⟩

theorem enterReturn_mem (n : Notice) : n ∈ (enterReturn n w).1.notices.returned := by
  rw [enterReturn_room room]
  simp

theorem place_grown (e : Env) {n : Notice} {b : ProposalBody} (hb : n.body = .proposal b) :
    Grown w (place e n w).1 := by
  cases hd : n.delivery with
  | directed dest =>
    rcases place_proposal e w hb hd with h | ⟨p, -, h⟩
    · exact h ▸ enterReturn_grown room n
    · exact h ▸ offerAt_grown w p n
  | relayed start lap =>
    obtain ⟨found, none⟩ := place_relayed (e := e) w hd
    cases hx : (walk e w n.priority (walkBound e.ring) lap (firstInRing e.ring start)).1 with
    | some p => exact found p hx ▸ offerAt_grown w p _
    | none => exact none hx ▸ enterReturn_grown room _

theorem place_held {e : Env} {n : Notice} {b : ProposalBody} {p : Port} (hb : n.body = .proposal b)
    (hd : n.delivery = .directed (some p)) :
    n ∈ ((place e n w).1.desk p).offer ∨ n ∈ (place e n w).1.notices.returned := by
  rcases place_proposal e w hb hd with h | ⟨q, same, h⟩
  · rw [h]
    exact .inr (enterReturn_mem room n)
  · cases same
    rw [h, offerAt_desk]
    exact .inl (by simp)

theorem post_proposal (e : Env) (b : ProposalBody) (source : Option Port) :
    post e (.proposal b) source w = (place e (proposalNotice e b source w) (tagTaken w)).1 := by
  have apart : coalesces e w source (.proposal b) = false := by
    unfold coalesces
    split <;> simp [stationMatch]
  have kept : (place e (proposalNotice e b source w) (tagTaken w)).2 = none := (place_kept (w := tagTaken w) room e _).2
  have once : postOnce e (.proposal b) source w = ((place e (proposalNotice e b source w) (tagTaken w)).1, none) := by
    have placed : postOnce e (.proposal b) source w =
        afterPlace e (place e (proposalNotice e b source w) (tagTaken w)) := by
      unfold postOnce
      rw [apart]
      rfl
    rw [placed, ← Prod.mk.eta (p := place e _ _), kept]
    rfl
  unfold post Config.dropBound
  rw [postChain, once]

theorem post_proposal_grown (e : Env) (b : ProposalBody) (source : Option Port) :
    Grown w (post e (.proposal b) source w) := by
  rw [post_proposal room]
  obtain ⟨offers, returned, one⟩ := place_grown (w := tagTaken w) room e (n := proposalNotice e b source w) rfl
  exact ⟨offers, returned, one⟩

end

/-! ## The responders of an issue (R115) -/

theorem postProposal_frame (e : Env) (tag g : Nat) (sc : Scope) (w : Work) (r : Role) :
    NoticeFrame w (postProposal e tag g sc w r) := by
  unfold postProposal
  split
  · split
    · exact post_frame _ _ _ _
    · exact .refl w
  · exact .refl w

/-- The PROPOSAL notice of an issue, at its OPEN port or on the return list. -/
def HoldsProposal (w : Work) (b : ProposalBody) (p : Port) : Prop :=
  ∃ n, (n ∈ (w.desk p).offer ∨ n ∈ w.notices.returned) ∧ n.body = .proposal b ∧ n.delivery = .directed (some p)

theorem Grown.asked {w w' : Work} (h : Grown w w') {b : ProposalBody} {p : Port} : HoldsProposal w b p → HoldsProposal w' b p :=
  fun ⟨n, held, rest⟩ => ⟨n, held.imp (h.offers p n) (h.returned n), rest⟩

section
variable {w : Work} (room : w.notices.returned.length < 8)
include room

theorem postProposal_prop (e : Env) (tag g : Nat) (sc : Scope) (r : Role) :
    (postProposal e tag g sc w r).prop = w.prop := by
  unfold postProposal
  split
  · split
    · exact post_prop room _ _ _
    · rfl
  · rfl

theorem postProposal_grown (e : Env) (tag g : Nat) (sc : Scope) (r : Role) : Grown w (postProposal e tag g sc w r) := by
  unfold postProposal
  split
  · split
    · exact post_proposal_grown room _ _ _
    · exact .refl w
  · exact .refl w

theorem postProposal_asked {e : Env} {tag g : Nat} {sc : Scope} {r : Role} {p : Port} {m : Mark} {i j : Nat}
    (hr : responds sc r = true) (hp : e.openPortOfRole r = some p)
    (hc : e.classes[NoticeClass.proposal.index].delivery = .bySource) (hm : w.track.find g = some m)
    (hij : m.pair? = some (i, j)) : HoldsProposal (postProposal e tag g sc w r) ⟨tag, g, sc, i, j, m.start.val⟩ p := by
  have pair : w.pairOf g = some (i, j) := by simp only [Work.pairOf, hm, Option.bind_some, hij]
  have posted : postProposal e tag g sc w r = post e (.proposal ⟨tag, g, sc, i, j, m.start.val⟩) (some p) w := by
    simp only [postProposal, hr, if_true, hp, hm, pair]
  have directed : (proposalNotice e ⟨tag, g, sc, i, j, m.start.val⟩ (some p) w).delivery = .directed (some p) := by
    simp only [proposalNotice, deliveryOf, hc]
  rw [posted, post_proposal room]
  exact ⟨_, place_held (w := tagTaken w) room rfl directed, rfl, directed⟩

end

/-! ## An issue (R114, R115) -/

/-- The record that an issue makes of a record (R114, R115). -/
def issuedRecord (e : Env) (w : Work) (sc : Scope) (y : Proposal) : Proposal :=
  { y with
    tag := assignTag (w.prop.list.map Proposal.tag) w.prop.nextTag
    scope := sc
    status := .collecting (e.now + e.table.responseTimeout)
    internal := firstInternal sc
    dry := firstResponse e sc .dry
    wet := firstResponse e sc .wet }

theorem firstResponse_eq (e : Env) (sc : Scope) (r : Role) :
    firstResponse e sc r =
      if responds sc r = false then none else if e.openPortOfRole r = none then some .notReady else some .pending := by
  unfold firstResponse
  cases responds sc r <;> cases e.openPortOfRole r <;> rfl

theorem firstInternal_eq (sc : Scope) : firstInternal sc = if sc = .knife then none else some .pending := by
  cases sc <;> rfl

/-- The proposals with a record issued under its new tag. -/
def issuedUnit (e : Env) (w : Work) (old : Nat) (sc : Scope) (y : Proposal) : ProposalUnit :=
  ⟨w.prop.list.map fun z => (if z.tag = old then issuedRecord e w sc y else z),
    succTag (assignTag (w.prop.list.map Proposal.tag) w.prop.nextTag)⟩

section
variable {e : Env} {w : Work} {old : Nat} {sc : Scope} {y : Proposal}

/-- The first of the two notices leaves room on the return list for the second. -/
theorem issue_room (room : w.notices.returned.length < 7) : (postProposal e (issuedRecord e w sc y).tag y.changeTag sc
    { w with prop := issuedUnit e w old sc y } .dry).notices.returned.length < 8 := by
  have one := (postProposal_grown (w := { w with prop := issuedUnit e w old sc y }) (room.trans (by decide)) e
    (issuedRecord e w sc y).tag y.changeTag sc .dry).one
  exact lt_of_le_of_lt one (Nat.succ_lt_succ room)

variable (hy : w.proposal old = some y)
include hy

/-- An issue writes its record, then posts to the DRY port, then to the WET port. -/
theorem issue_eq :
    issue e old sc w =
      postProposal e (issuedRecord e w sc y).tag y.changeTag sc
        (postProposal e (issuedRecord e w sc y).tag y.changeTag sc { w with prop := issuedUnit e w old sc y } .dry)
        .wet := by
  simp only [issue, hy]
  rfl

theorem issue_frame : NoticeFrame { w with prop := issuedUnit e w old sc y } (issue e old sc w) := by
  rw [issue_eq hy]
  exact (postProposal_frame _ _ _ _ _ _).trans (postProposal_frame _ _ _ _ _ _)

variable (room : w.notices.returned.length < 7)
include room

theorem issue_prop : (issue e old sc w).prop = issuedUnit e w old sc y := by
  rw [issue_eq hy, postProposal_prop (issue_room room),
    postProposal_prop (w := { w with prop := issuedUnit e w old sc y }) (room.trans (by decide))]

/-- Every responder that holds an OPEN port is asked (R115). -/
theorem issue_asked {r : Role} {p : Port} {m : Mark} {i j : Nat} (hr : responds sc r = true)
    (hp : e.openPortOfRole r = some p) (hc : e.classes[NoticeClass.proposal.index].delivery = .bySource)
    (hm : w.track.find y.changeTag = some m) (hij : m.pair? = some (i, j)) :
    HoldsProposal (issue e old sc w) ⟨(issuedRecord e w sc y).tag, y.changeTag, sc, i, j, m.start.val⟩ p := by
  have second := issue_room (e := e) (old := old) (sc := sc) (y := y) room
  rw [issue_eq hy]
  cases r with
  | dry =>
    refine (postProposal_grown second _ _ _ _ _).asked ?_
    exact postProposal_asked (w := { w with prop := issuedUnit e w old sc y }) (room.trans (by decide)) hr hp hc hm hij
  | wet => exact postProposal_asked second hr hp hc (by rw [postProposal_track]; exact hm) hij
  | planner => cases sc <;> cases hr
  | view => cases sc <;> cases hr

end

/-! ## A first issue (R114) -/

/-- The track accepts the first PLANNED mark as PROPOSED (R38). -/
theorem proposeMark_first {t : Track} {m : Mark} {before after : List Mark} (hm : t.marks = before ++ m :: after)
    (hb : ∀ x ∈ before, x.tag ≠ m.tag ∧ x.changeState? ≠ some .planned) :
    proposeMark m.tag t =
      t.update m.tag fun x => if x.changeState? = some .planned then x.withState .proposed else x := by
  unfold proposeMark
  rw [Track.takeWhile_first hm fun x hx => (hb x hx).1]
  exact if_pos (List.all_eq_true.mpr fun x hx => by simpa using (hb x hx).2)

/-- Settles O44: when a proposal falls due by `dueMark_iff`, the order of the due test by the `dueTest_` and
`retryWaiting_` lemmas, the guard by the `guardMark_` lemmas, and an issue by the `issue_` lemmas. -/
theorem proposalIssue : Obligations.ProposalIssue := by
  refine ⟨fun e w m => dueMark_iff, fun e w => ?due, fun e w g m i j hm hp => ?guard, ?issue, ?first⟩
  case due =>
    intro guarded w1 pending
    have settles : unsettled w1 = true ↔ pending := unsettled_iff
    exact ⟨fun before y after r => retryWaiting_passed, retryWaiting_none,
      fun h => dueTest_unsettled (w1 := w1) rfl (settles.mpr h),
      fun h => dueTest_not_due (w1 := w1) rfl (settles.not.mpr h),
      fun m h => dueTest_due (w1 := w1) rfl (settles.not.mpr h)⟩
  case guard =>
    intro close moved w1
    exact ⟨guardMark_outside hm hp, fun h => guardMark_within hm hp h rfl,
      fun before y after h => guardMark_beyond hm hp h rfl⟩
  case issue =>
    intro e old sc w y hy room t tag asked first fresh
    have asks : ∀ r, asked r = responds sc r := fun r => by cases sc <;> cases r <;> rfl
    have responses : ∀ r, firstResponse e sc r = first r := fun r => by
      simp only [first, asks, firstResponse_eq]
    have record : issuedRecord e w sc y = fresh := by
      simp only [issuedRecord, responses, firstInternal_eq]
      rfl
    have unit : t.prop = _ := issue_prop hy room
    refine ⟨?_, ?_, fun r p m i j hr hp hc hm hij => ?_⟩
    · rw [unit, issuedUnit, record]
    · rw [unit]
      exact issue_frame hy
    · exact issue_asked hy room ((asks r).symm.trans hr) hp hc hm hij
  case first =>
    intro e m w i j before after hp hm hb proposed
    simp only [firstIssue, hp]
    rw [proposeMark_first hm hb]

end Sys2Proof.Machine
end

section
/-! SUPPORT. LOG_TAKE and the completion log (R139, R140): its answers, and a record written to a log with room and to a full
one. -/

namespace Sys2Proof.Machine

section
variable {e : Env} {w : Work}

theorem applyLogTake_empty (h : w.sheet.log = []) : applyLogTake e w [] = refuse .empty e w := by
  simp [applyLogTake, h]

/-- The oldest record, then how many remain; the flag goes with the last record (R140). -/
theorem applyLogTake_oldest {r : Completion} {later : List Completion} (h : w.sheet.log = r :: later) :
    applyLogTake e w [] = ⟨.ok, putCompletion r ++ putNat 1 later.length, e,
      { w with sheet :=
        { w.sheet with
          log := later, logOverwrite := if later = [] then false else w.sheet.logOverwrite } }⟩ := by
  cases later <;> simp [applyLogTake, h, SheetUnit.takeLog]

end

/-- A LOG_TAKE is queued as waited for, whatever its frame asks (R140). -/
theorem enqueue_logTake (l : Link) (f : Frame) :
    (l.enqueue .logTake f).inbound = l.inbound ++ [⟨.logTake, f.tag, false, f.body⟩] := by
  simp [Link.enqueue, Request.isRead]

section
variable (r : Completion) {u : SheetUnit}

theorem writeLog_room (h : u.log.length < 16) : writeLog r u = { u with log := u.log ++ [r] } := if_pos h

theorem writeLog_full (h : 16 ≤ u.log.length) :
    writeLog r u = { u with log := u.log.tail ++ [r], logOverwrite := true } := by
  unfold writeLog
  rw [if_neg (show ¬u.log.length < Config.logLimit from h.not_gt), List.drop_one]

end

/-- Settles O38: the answers by `applyLogTake_empty` and `applyLogTake_oldest`, the log by `writeLog_room` and
`writeLog_full`. -/
theorem logTakeRequest : Obligations.LogTakeRequest := by
  refine ⟨fun s p q rest head still => ⟨fun h => ?_, fun r later h => ?_⟩, enqueue_logTake,
    fun r u => ⟨writeLog_room r, writeLog_full r⟩⟩
  · exact congrArg Host.Outcome.next (applyHead_refused applyLogTake .empty head still (applyLogTake_empty h))
  · exact congrArg Host.Outcome.next
      (applyHead_applied head (applyLogTake_oldest h) (still.of_prop rfl rfl))

end Sys2Proof.Machine
end

section
/-! SUPPORT. Orders found again after one is rewritten, a pulse as a frame, and what an announcement leaves alone (R37, R142): the
sheet unit, the cue lines, and of every order the tallies that its cuts and sheets make (R134). -/

namespace Sys2Proof.Machine

/-! ## An order found after one is rewritten -/

theorem Sequencer.find_tag {q : Sequencer} {g : Nat} {o : Order} (h : q.find g = some o) : o.tag = g := by
  simpa using List.find?_some h

section
variable {q : Sequencer} {f : Order → Order} (hf : ∀ o, (f o).tag = o.tag)
include hf

/-- An order is found where it was, rewritten if it is of the tag rewritten. -/
theorem Sequencer.find_update (g k : Nat) :
    (q.update g f).find k = (q.find k).map fun o => if o.tag = g then f o else o := by
  have same : ((fun o : Order => o.tag == k) ∘ fun o : Order => if o.tag = g then f o else o) =
      fun o : Order => o.tag == k := by
    funext o
    simp only [Function.comp]
    split
    · rw [hf]
    · rfl
  have live : (q.update g f).live = q.live.map fun o => if o.tag = g then f o else o := List.map_append.symm
  rw [Sequencer.find, live, List.find?_map, same]
  rfl

theorem Sequencer.find_update_self (g : Nat) : (q.update g f).find g = (q.find g).map f := by
  rw [Sequencer.find_update hf]
  exact Option.map_congr fun o ho => if_pos (Sequencer.find_tag ho)

theorem Sequencer.find_update_other {g k : Nat} (h : k ≠ g) : (q.update g f).find k = q.find k := by
  rw [Sequencer.find_update hf]
  refine (Option.map_congr (g := id) fun o ho => ?_).trans Option.map_id_apply
  exact if_neg (Sequencer.find_tag ho ▸ h)

end

theorem Sequencer.update_id (q : Sequencer) (g : Nat) : q.update g id = q := by
  simp [Sequencer.update]

section
variable (w : Work) (f : Tallies → Tallies)

/-- The order with rewritten tallies. -/
theorem Work.updTallies_find_self (g : Nat) :
    (w.updTallies g f).seq.find g = (w.seq.find g).map fun o => { o with tallies := f o.tallies } :=
  Sequencer.find_update_self (f := fun o => { o with tallies := f o.tallies }) (fun _ => rfl) g

theorem Work.updTallies_find_other {g k : Nat} (h : k ≠ g) : (w.updTallies g f).seq.find k = w.seq.find k :=
  Sequencer.find_update_other (f := fun o => { o with tallies := f o.tallies }) (fun _ => rfl) h

theorem Work.updTallies_updTallies (g : Nat) (f' : Tallies → Tallies) :
    (w.updTallies g f).updTallies g f' = w.updTallies g (f' ∘ f) :=
  congrArg (fun q => { w with seq := q })
    (Sequencer.update_update (f := fun o => { o with tallies := f o.tallies }) w.seq g fun _ => rfl)

theorem Work.updTallies_id (g : Nat) : w.updTallies g id = w :=
  congrArg (fun q => { w with seq := q }) (Sequencer.update_id w.seq g)

end

/-! ## A pulse (R67) -/

/-- A pulse raises its line, and otherwise posts and raises at most the alarm of an overlap. -/
theorem pulse_frame (e : Env) (c : CueLine) (w : Work) : NoticeFrame (w.raiseCue e c) (pulse e c w) := by
  by_cases h : w.cues[c] = none
  · rw [pulse_low h]
    exact .refl _
  · rw [pulse_high h]
    exact raiseAlarm_frame _ _ _ _

@[simp] theorem pulse_seq (e : Env) (c : CueLine) (w : Work) : (pulse e c w).seq = w.seq := (pulse_frame e c w).seq

@[simp] theorem pulse_sheet (e : Env) (c : CueLine) (w : Work) : (pulse e c w).sheet = w.sheet := (pulse_frame e c w).sheet

theorem pulse_cue (e : Env) (c : CueLine) (w : Work) : (pulse e c w).cues[c] = some (e.now + pulseWidth e) := by
  rw [pulse_cues]
  exact Vector.getElem_set_self _

/-! ## The frame of an announcement -/

/-- The tallies of an order without what a recompute writes in them: the forecast, and whether ORDER_SHORT has been raised. -/
def Tallies.counts (t : Tallies) : Tallies := { t with forecast := 0, short := false }

theorem Tallies.eq_of_counts {t u : Tallies} (h : u.counts = t.counts) :
    u = { t with forecast := u.forecast, short := u.short } := by
  cases t
  cases u
  simp_all [Tallies.counts]

/-- What the live order with a tag has counted. -/
def Work.counts (w : Work) (g : Nat) : Option Tallies := (w.seq.find g).map fun o => o.tallies.counts

/-- Two states of the blocks with the same sheets, schedule, log and cues, in which every order has counted the same. -/
structure CountFrame (w w' : Work) : Prop where
  sheet : w'.sheet = w.sheet
  cues : w'.cues = w.cues
  counts : ∀ g, w'.counts g = w.counts g

theorem CountFrame.refl (w : Work) : CountFrame w w := ⟨rfl, rfl, fun _ => rfl⟩

theorem CountFrame.trans {a b c : Work} (h : CountFrame a b) (g : CountFrame b c) : CountFrame a c :=
  ⟨g.sheet.trans h.sheet, g.cues.trans h.cues, fun k => (g.counts k).trans (h.counts k)⟩

/-- A change of neither the sheets, the cues nor the orders. -/
theorem CountFrame.of_eq {w w' : Work} (sheet : w'.sheet = w.sheet) (cues : w'.cues = w.cues)
    (find : ∀ g, w'.seq.find g = w.seq.find g) : CountFrame w w' :=
  ⟨sheet, cues, fun g => congrArg (Option.map _) (find g)⟩

theorem NoticeFrame.count {w w' : Work} (h : NoticeFrame w w') : CountFrame w w' :=
  .of_eq h.sheet h.cues fun g => by rw [h.seq]

theorem WithdrawFrame.count {w w' : Work} (h : WithdrawFrame w w') : CountFrame w w' :=
  .of_eq h.sheet h.cues fun g => by rw [h.seq]

/-- An order is rewritten with what it has counted. -/
theorem updOrder_count (w : Work) (g : Nat) {f : Order → Order} (ht : ∀ o, (f o).tag = o.tag)
    (hc : ∀ o, (f o).tallies.counts = o.tallies.counts) : CountFrame w (w.updOrder g f) := by
  refine ⟨rfl, rfl, fun k => ?_⟩
  rw [Work.counts, Work.updOrder_seq, Sequencer.find_update ht, Option.map_map]
  refine Option.map_congr fun o _ => ?_
  simp only [Function.comp]
  split
  · exact hc o
  · rfl

theorem updTallies_count (w : Work) (g : Nat) (f : Tallies → Tallies) (h : ∀ t, (f t).counts = t.counts) :
    CountFrame w (w.updTallies g f) :=
  updOrder_count w g (fun _ => rfl) fun o => h o.tallies

theorem foldl_count {α : Type} {f : Work → α → Work} (h : ∀ w x, CountFrame w (f w x)) (l : List α) (w : Work) :
    CountFrame w (l.foldl f w) :=
  List.foldlRecOn (motive := CountFrame w) l f (.refl w) fun x hx a _ => hx.trans (h x a)

theorem iterate_count {f : Work → Work} (h : ∀ w, CountFrame w (f w)) : ∀ (n : Nat) (w : Work), CountFrame w (f^[n] w)
  | 0, w => .refl w
  | n + 1, w => (h w).trans (iterate_count h n (f w))

/-! ## Announcements (R37, R39, R107, R142) -/

theorem unlink_count (w : Work) (i j : Nat) : CountFrame w (w.unlink i j) := by
  refine CountFrame.trans ?_ (updOrder_count _ j (fun _ => rfl) fun _ => rfl)
  exact updOrder_count w i (fun _ => rfl) fun _ => rfl

theorem moveTo_count {e : Env} {g i j : Nat} {p : Placed} {w w' : Work} (h : moveTo e g i j p w = some w') :
    CountFrame w w' := by
  obtain ⟨t, _, rfl⟩ := Option.map_eq_some_iff.mp h
  have moved : CountFrame w { w with track := t, owed := { w.owed with due := true } } := .of_eq rfl rfl fun _ => rfl
  refine CountFrame.trans ?_ (updOrder_count _ j (fun _ => rfl) fun _ => rfl)
  exact moved.trans (updOrder_count _ i (fun _ => rfl) fun _ => rfl)

theorem placeMarks_count (e : Env) : ∀ (tags : List Nat) (n : Nat) (w : Work), CountFrame w (placeMarks e tags n w).work
  | [], _, w => .refl w
  | g :: rest, n, w => by
    rcases placeMarks_cases e g rest n w with h | h | ⟨i, j, p, w', moved, h⟩ <;> rw [h]
    · exact placeMarks_count e rest n w
    · exact .of_eq rfl rfl fun _ => rfl
    · exact (moveTo_count moved).trans (placeMarks_count e rest (n + 1) w')

theorem deficitTaken_count (e : Env) (g : Nat) (x : Work × MoveAnswer) : CountFrame x.1 (deficitTaken e g x) := by
  have raised := updTallies_count x.1 g (fun t => { t with short := true }) fun _ => rfl
  unfold deficitTaken raiseShort
  split
  · split
    · exact .refl _
    · split
      · exact .refl _
      · exact raised.trans (raiseAlarm_frame _ _ _ _).count
  · exact .refl _

section
variable {a : Work → Work} (ha : ∀ w, CountFrame w (a w))
include ha

theorem removeChange_count (w : Work) (g : Nat) : CountFrame w (removeChange a w g) := by
  unfold removeChange
  split
  · exact .refl w
  · split
    · exact .refl w
    · split
      · refine CountFrame.trans ?_ (ha _)
        exact ((withdrawFor_frame g w).count.trans (unlink_count _ _ _)).trans (.of_eq rfl rfl fun _ => rfl)
      · exact .refl w

theorem removeChanges_count (tags : List Nat) (w : Work) : CountFrame w (removeChanges a tags w) :=
  (foldl_withdraw_frame tags.reverse w).count.trans (foldl_count (removeChange_count ha) tags _)

theorem placeAll_count (e : Env) (tags : List Nat) (w : Work) : CountFrame w (placeAll e a tags w) :=
  ((placeMarks_count e tags 0 w).trans (removeChanges_count ha _ _)).trans (iterate_count ha _ _)

theorem moveOrder_count (e : Env) (i c : Nat) (w : Work) : CountFrame w (moveOrder e a i c w).1 := by
  have planned := updOrder_count w i (f := fun x => { x with added := x.added + c, planned := x.planned + c })
    (fun _ => rfl) fun _ => rfl
  unfold moveOrder
  split
  · exact .refl w
  · split
    · exact updOrder_count w i (fun _ => rfl) fun _ => rfl
    · split
      · exact planned.trans (placeAll_count ha e _ _)
      · exact planned.trans (placeAll_count ha e _ _)
      · exact .refl w

theorem recomputePass_count (e : Env) : ∀ (tags : List Nat) (w : Work), CountFrame w (recomputePass e a tags w)
  | [], w => .refl w
  | g :: rest, w => by
    have noted := fun f => updTallies_count w g (fun t => { t with forecast := f }) fun _ => rfl
    rcases recomputePass_cases e a g rest w with h | ⟨f, h⟩ | ⟨f, c, h⟩ <;> rw [h]
    · exact recomputePass_count e rest w
    · exact (noted f).trans (recomputePass_count e rest _)
    · exact (((noted f).trans (moveOrder_count ha e g c _)).trans (deficitTaken_count e g _)).trans
        (recomputePass_count e rest _)

end

/-- A recompute leaves the sheets, the cues and the counts of every order (R142). -/
theorem recompute_count (e : Env) (w : Work) : CountFrame w (recompute e w) := by
  have within : ∀ (n : Nat) (w : Work), CountFrame w (recomputeWithin e n w) := fun n => by
    induction n with
    | zero => exact .refl
    | succ n ih => exact fun w => recomputePass_count ih e _ w
  exact within _ w

end Sys2Proof.Machine
end

section
/-! SUPPORT. The cause of a cut (R131) and its record (R129), the flips of an announcement (R132), and a gate passage with what it
counts (R133, R134). -/

namespace Sys2Proof.Machine

/-! ## The cause of a cut (R131) -/

section
variable {e : Env} {x : Extent} {m : Mark}

theorem hits_iff : hits e x m = true ↔ ∃ y, markExtent e m = some y ∧ x.overlaps y = true := by
  cases h : markExtent e m <;> simp [hits, h]

theorem hits_eq_false_iff : hits e x m = false ↔ ∀ y, markExtent e m = some y → x.overlaps y = false := by
  cases h : markExtent e m <;> simp [hits, h]

/-- A mark that covers board is of a kind that gives a cause. -/
theorem causeOf_isSome_of_hits (h : hits e x m = true) : (causeOf m).isSome = true := by
  obtain ⟨_, body, _, _, _, _, _⟩ := m
  cases body with
  | change _ _ _ _ => cases h
  | joint _ _ => rfl
  | defect _ _ => rfl
  | mismatch _ _ => rfl

variable {w : Work}

theorem entryCause_eq_none_iff : entryCause e w x = none ↔ ∀ m ∈ w.track.marks, hits e x m = false := by
  unfold entryCause
  constructor
  · intro h m hm
    cases hf : w.track.marks.find? (hits e x) with
    | none => exact Bool.eq_false_of_not_eq_true (List.find?_eq_none.mp hf m hm)
    | some n =>
      have named := causeOf_isSome_of_hits (List.find?_some hf)
      simp [hf] at h
      simp [h] at named
  · intro h
    rw [List.find?_eq_none.mpr fun m hm => by simp [h m hm]]
    rfl

/-- The cause is that of the first mark in track order that overlaps the cut. -/
theorem entryCause_first {before after : List Mark} (hm : w.track.marks = before ++ m :: after)
    (hb : ∀ n ∈ before, hits e x n = false) (h : hits e x m = true) : entryCause e w x = causeOf m := by
  have found : w.track.marks.find? (hits e x) = some m :=
    List.find?_eq_some_iff_append.mpr ⟨h, before, after, hm, fun n hn => by simp [hb n hn]⟩
  rw [entryCause, found]
  rfl

end

/-! ## A cut (R129) -/

/-- The start of the next cut of a schedule. -/
def Schedule.nextStart (c : Schedule) : Pos := c.start.plus ((c.cuts * c.length : Nat) : Int)

/-- The record of the next cut of a schedule. -/
def cutRecord (e : Env) (c : Schedule) (w : Work) : Sheet :=
  ⟨c.order, c.cuts + 1, c.nextStart, c.length, c.outs, entryCause e w (between e c.nextStart c.nextEnd), false⟩

section
variable (e : Env) (c : Schedule) (w : Work)

theorem makeCut_sheet : (makeCut e c w).sheet =
    { w.sheet with schedule := some { c with cuts := c.cuts + 1 }, sheets := w.sheet.sheets ++ [cutRecord e c w] } := by
  simp [makeCut, cutRecord, entryCause, Schedule.nextStart]

theorem makeCut_seq : (makeCut e c w).seq = (w.updTallies c.order fun t => { t with cuts := t.cuts + 1 }).seq := by
  simp [makeCut, Work.updTallies]

theorem makeCut_cues : (makeCut e c w).cues = w.cues.set (5 : CueLine) (some (e.now + pulseWidth e)) := pulse_cues e 5 w

theorem makeCut_stands : (makeCut e c w).stands = w.stands := pulse_stands e 5 w

theorem makeCut_station : (makeCut e c w).station = w.station := pulse_station e 5 w

end

/-! ## Flips (R132) -/

/-- A record that an announcement of a mark flips: GOOD, not past the gate, and overlapped by the mark. -/
def Sheet.Flips (e : Env) (m : Mark) (x : Sheet) : Prop :=
  x.gatePassed = false ∧ x.cause = none ∧ hits e (x.extent e) m = true

section
variable {e : Env} {m : Mark} {x : Sheet}

theorem flipSheet_flips (h : x.Flips e m) : flipSheet e m x = { x with cause := causeOf m } := by
  obtain ⟨gate, good, hit⟩ := h
  simp [flipSheet, gate, good, hit]

theorem flipSheet_stays (h : ¬x.Flips e m) : flipSheet e m x = x := by
  refine if_neg fun c => h ?_
  simpa [Sheet.Flips, and_assoc] using c

end

theorem announceExtent_sheet (e : Env) (m : Mark) (w : Work) :
    (announceExtent e m w).sheet = { w.sheet with sheets := w.sheet.sheets.map (flipSheet e m) } :=
  (recompute_count e _).sheet

/-! ## A gate passage (R133) -/

/-- The flag of a record set, with CUE6 high for a REJECT: what a gate passage does before it counts the cut. -/
def passedGate (e : Env) (x : Sheet) (w : Work) : Work :=
  let w1 : Work := { w with sheet := { w.sheet with sheets := w.sheet.sheets.map x.passGate } }
  if x.cause.isSome then pulse e 6 w1 else w1

theorem Sheet.passGate_eq (x y : Sheet) :
    x.passGate y = if y.order = x.order ∧ y.cut = x.cut then { y with gatePassed := true } else y := by
  simp [Sheet.passGate, Sheet.isCut]

section
variable (e : Env) (x : Sheet) (w : Work)

theorem passedGate_seq : (passedGate e x w).seq = w.seq := by
  unfold passedGate
  split
  · rw [pulse_seq]
  · rfl

theorem passedGate_sheet :
    (passedGate e x w).sheet = { w.sheet with sheets := w.sheet.sheets.map x.passGate } := by
  unfold passedGate
  split
  · rw [pulse_sheet]
  · rfl

variable {x}

theorem passedGate_cues_good (h : x.cause = none) : (passedGate e x w).cues = w.cues := by
  simp [passedGate, h]

theorem passedGate_cues_reject (h : x.cause ≠ none) :
    (passedGate e x w).cues = w.cues.set (6 : CueLine) (some (e.now + pulseWidth e)) := by
  simp only [passedGate, Option.isSome_iff_ne_none.mpr h, if_true, pulse_cues]

variable (x)

/-- A gate passage counts the cut, and starts a recompute that leaves what is counted (R142). -/
theorem gatePassage_frame :
    CountFrame ((passedGate e x w).updTallies x.order fun t => t.atGate x.cause) (gatePassage e x w) :=
  recompute_count e _

end

theorem CountFrame.tallies {w w' : Work} (h : CountFrame w w') {g : Nat} {o : Order} (ho : w.seq.find g = some o) :
    ∃ o', w'.seq.find g = some o' ∧
      o'.tallies = { o.tallies with forecast := o'.tallies.forecast, short := o'.tallies.short } := by
  have counts := h.counts g
  simp only [Work.counts, ho, Option.map_some] at counts
  obtain ⟨o', ho', same⟩ := Option.map_eq_some_iff.mp counts
  exact ⟨o', ho', Tallies.eq_of_counts same⟩

/-! ## The tallies of a gate passage (R134) -/

/-- The first entry under a code counts the cut. -/
theorem bumpCause_first {code n : Nat} {later : List (Nat × Nat)} : ∀ {earlier : List (Nat × Nat)},
    (∀ x ∈ earlier, x.1 ≠ code) →
      bumpCause code (earlier ++ (code, n) :: later) = earlier ++ (code, n + 1) :: later
  | [], _ => by simp [bumpCause]
  | (c, k) :: earlier, h => by
    obtain ⟨hc, h⟩ := List.forall_mem_cons.mp h
    simp [bumpCause, show c ≠ code from hc, bumpCause_first h]

/-- A causes list has an entry under a code, the first of which counts, or none. -/
theorem causes_cases (code : Nat) (l : List (Nat × Nat)) :
    (∃ earlier n later, l = earlier ++ (code, n) :: later ∧ ∀ x ∈ earlier, x.1 ≠ code) ∨ ∀ x ∈ l, x.1 ≠ code := by
  cases h : l.find? fun x => x.1 == code with
  | none => exact .inr fun x hx => by simpa using List.find?_eq_none.mp h x hx
  | some y =>
    obtain ⟨hy, earlier, later, hl, he⟩ := List.find?_eq_some_iff_append.mp h
    obtain ⟨c, n⟩ := y
    obtain rfl : c = code := by simpa using hy
    exact .inl ⟨earlier, n, later, hl, fun x hx => by simpa using he x hx⟩

section
variable {t : Tallies} {code : Nat}

theorem addCause_listed {earlier later : List (Nat × Nat)} {n : Nat} (h : t.causes = earlier ++ (code, n) :: later)
    (he : ∀ x ∈ earlier, x.1 ≠ code) :
    t.addCause code = { t with causes := earlier ++ (code, n + 1) :: later } := by
  have listed : t.causes.any (fun p => p.1 == code) = true := by simp [h]
  rw [Tallies.addCause, if_pos listed, h, bumpCause_first he]

variable (h : ∀ x ∈ t.causes, x.1 ≠ code)
include h

theorem unlisted : ¬t.causes.any (fun p => p.1 == code) = true := by
  simpa using fun n hn => h (code, n) hn rfl

theorem addCause_new (room : t.causes.length < 8) : t.addCause code = { t with causes := t.causes ++ [(code, 1)] } := by
  rw [Tallies.addCause, if_neg (unlisted h)]
  exact if_pos room

theorem addCause_other (full : 8 ≤ t.causes.length) :
    t.addCause code = { t with otherCauses := t.otherCauses + 1 } := by
  rw [Tallies.addCause, if_neg (unlisted h)]
  exact if_neg full.not_gt

end

/-- A DEFECT counts once among the causes and the others, and the causes list keeps within 8. -/
theorem addCause_total (t : Tallies) (code : Nat) (h : t.causes.length ≤ 8) :
    ∃ causes others, t.addCause code = { t with causes := causes, otherCauses := others } ∧ causes.length ≤ 8 ∧
      (causes.map Prod.snd).sum + others = (t.causes.map Prod.snd).sum + t.otherCauses + 1 := by
  rcases causes_cases code t.causes with ⟨earlier, n, later, hl, he⟩ | none
  · refine ⟨_, _, addCause_listed hl he, by simpa [hl] using h, ?_⟩
    simp only [hl, List.map_append, List.map_cons, List.sum_append, List.sum_cons]
    omega
  · rcases Nat.lt_or_ge t.causes.length 8 with room | full
    · refine ⟨_, _, addCause_new none room, by simpa using room, ?_⟩
      simp only [List.map_append, List.map_cons, List.map_nil, List.sum_append, List.sum_cons, List.sum_nil]
      omega
    · exact ⟨_, _, addCause_other none full, h, (Nat.add_assoc _ _ _).symm⟩

/-- A gate passage counts the cut once: as good, or under the kind of its cause and, for a DEFECT, under its code. -/
theorem atGate_total (t : Tallies) (cause : Option Cause) (h : t.causes.length ≤ 8) :
    let u := t.atGate cause
    u.good + u.rejectJoint + u.rejectDefect + u.rejectMismatch =
      t.good + t.rejectJoint + t.rejectDefect + t.rejectMismatch + 1 ∧
    (u.causes.map Prod.snd).sum + u.otherCauses + t.rejectDefect =
      (t.causes.map Prod.snd).sum + t.otherCauses + u.rejectDefect ∧
    u.causes.length ≤ 8 ∧ u.cuts = t.cuts ∧ (u.good = t.good + 1 ↔ cause = none) := by
  cases cause with
  | none =>
    intro u
    exact ⟨by simp only [u, Tallies.atGate]; omega, rfl, h, rfl, iff_of_true rfl rfl⟩
  | some x =>
    obtain ⟨kind, code, mark⟩ := x
    cases kind with
    | joint | mismatch =>
      intro u
      exact ⟨by simp only [u, Tallies.atGate]; omega, rfl, h, rfl, by simp [u, Tallies.atGate]⟩
    | defect =>
      intro u
      obtain ⟨causes, others, counted, within, total⟩ :=
        addCause_total { t with rejectDefect := t.rejectDefect + 1 } code h
      have hu : u = { t with rejectDefect := t.rejectDefect + 1, causes := causes, otherCauses := others } := counted
      rw [hu]
      dsimp only at total ⊢
      exact ⟨by omega, by omega, within, rfl, by simp⟩

/-- Settles O50: a cut by the `makeCut_` lemmas with its cause by `entryCause_first`, the flips by `flipSheet_flips`, a gate
passage by `passedGate` and `gatePassage_frame`, and the tallies by `atGate_total` and the `addCause_` lemmas. -/
theorem cutsAndTallies : Obligations.CutsAndTallies := by
  unfold Obligations.CutsAndTallies
  intro causeBy
  have named : causeBy = causeOf := by
    funext m
    obtain ⟨_, body, _, _, _, _, _⟩ := m
    cases body <;> rfl
  refine ⟨fun e c w => ?cut, fun e m w => ?flips, fun e x w => ?gate, atGate_total,
    fun t source mark => ⟨rfl, rfl, rfl, ?causes⟩⟩
  case cut =>
    intro t start finish clear
    have clears : ∀ m, clear m ↔ hits e (between e start finish) m = false := fun m => hits_eq_false_iff.symm
    have sheet : t.sheet = _ := makeCut_sheet e c w
    have cues : t.cues = _ := makeCut_cues e c w
    refine ⟨by rw [sheet], by rw [cues]; exact Vector.getElem_set_self _, makeCut_track e c w, makeCut_stands e c w,
      makeCut_seq e c w, entryCause e w (between e start finish), by rw [sheet]; rfl, ?_, ?_⟩
    · simp only [clears]
      exact entryCause_eq_none_iff
    · intro before m after hm hb hit
      rw [named]
      simp only [clears, Bool.not_eq_false] at hb hit
      exact entryCause_first hm hb hit
  case flips =>
    intro flips
    have same : ∀ x, flips x ↔ x.Flips e m := fun x => and_congr_right fun _ => and_congr_right fun _ => hits_iff.symm
    refine ⟨flipSheet e m, announceExtent_sheet e m w, fun x => ?_⟩
    rw [same, named]
    exact ⟨flipSheet_flips, flipSheet_stays⟩
  case gate =>
    intro t passes
    have flag : x.passGate = passes := funext x.passGate_eq
    have frame := gatePassage_frame e x w
    refine ⟨?_, fun good => frame.cues.trans (passedGate_cues_good e w good),
      fun reject => frame.cues.trans (passedGate_cues_reject e w reject), fun o ho => ?_⟩
    · rw [← flag]
      exact frame.sheet.trans (passedGate_sheet e x w)
    · refine frame.tallies (o := { o with tallies := o.tallies.atGate x.cause }) ?_
      rw [Work.updTallies_find_self, passedGate_seq, ho]
      rfl
  case causes =>
    intro u v
    exact ⟨fun earlier n later hl he => addCause_listed (t := u) hl he,
      fun none => ⟨addCause_new (t := u) none, addCause_other (t := u) none⟩⟩

end Sys2Proof.Machine
end

section
/-! SUPPORT. The cuts of a schedule (R129) and the switch from one order to the next (R128), step by step; a departure at the
stacker (R136), and completion (R137, R138). -/

namespace Sys2Proof.Machine

/-! ## The cuts of a schedule (R129) -/

/-- A position plus one length, then another, is the position plus both: the indication stays where both are 0. -/
theorem Pos.plus_plus (p : Pos) (m n : Nat) : (p.plus m).plus n = p.plus (m + n : Nat) := by
  simp only [Pos.plus, Nat.cast_add, BitVec.ofInt_add, BitVec.add_assoc, Pos.mk.injEq, true_and]
  rw [Bool.eq_iff_iff]
  simp only [Bool.and_eq_true, beq_iff_eq, and_assoc]
  refine and_congr_right fun _ => ?_
  omega

theorem Schedule.nextEnd_eq (c : Schedule) : c.nextEnd = c.nextStart.plus c.length := by
  rw [Schedule.nextStart, Pos.plus_plus, ← Nat.succ_mul]
  rfl

/-- Two states of the blocks between which cuts of a schedule have been made, all ending at or before a limit where one is
given. -/
structure CutsMade (e : Env) (limit : Option Pos) (c : Schedule) (w w' : Work) : Prop where
  cuts : ∃ n, w'.sheet.schedule = some { c with cuts := c.cuts + n } ∧
    w'.seq = (w.updTallies c.order fun t => { t with cuts := t.cuts + n }).seq
  sheets : ∃ made, w'.sheet.sheets = w.sheet.sheets ++ made ∧ ∀ z ∈ made, z.gatePassed = false ∧ z.order = c.order ∧
    ∀ t, limit = some t → e.ahead (z.start.plus z.length) ≤ e.ahead t
  cue : w.cues[(5 : CueLine)] = some (e.now + pulseWidth e) → w'.cues[(5 : CueLine)] = some (e.now + pulseWidth e)
  station : w'.station = w.station

section
variable {e : Env} {limit : Option Pos} {c : Schedule} {w w' : Work}

theorem CutsMade.none (h : w.sheet.schedule = some c) : CutsMade e limit c w w where
  cuts := ⟨0, h, (congrArg Work.seq (w.updTallies_id c.order)).symm⟩
  sheets := ⟨[], (List.append_nil _).symm, fun _ hz => nomatch hz⟩
  cue := id
  station := rfl

theorem cutDue_limit (h : cutDue e w limit c = true) : ∀ t, limit = some t → e.ahead c.nextEnd ≤ e.ahead t := by
  rintro t rfl
  simp only [cutDue, Bool.and_eq_true, decide_eq_true_eq] at h
  exact h.2

/-- One cut, and then those that follow it. -/
theorem CutsMade.next (due : cutDue e w limit c = true)
    (h : CutsMade e limit { c with cuts := c.cuts + 1 } (makeCut e c w) w') : CutsMade e limit c w w' := by
  obtain ⟨n, schedule, seq⟩ := h.cuts
  obtain ⟨made, sheets, hmade⟩ := h.sheets
  refine ⟨⟨n + 1, ?_, ?_⟩, ⟨cutRecord e c w :: made, ?_, ?_⟩, fun _ => h.cue ?_, h.station.trans (makeCut_station e c w)⟩
  · simpa [Nat.add_assoc, Nat.add_comm 1] using schedule
  · have both := congrArg Work.seq (w.updTallies_updTallies (fun t => { t with cuts := t.cuts + 1 }) c.order
      fun t => { t with cuts := t.cuts + n })
    rw [seq, Work.updTallies, Work.updOrder_seq, makeCut_seq]
    refine both.trans ?_
    simp only [Function.comp_def, Nat.add_assoc, Nat.add_comm 1]
  · rw [sheets, makeCut_sheet]
    simp
  · refine List.forall_mem_cons.mpr ⟨⟨rfl, rfl, ?_⟩, hmade⟩
    change ∀ t, limit = some t → e.ahead (c.nextStart.plus c.length) ≤ e.ahead t
    rw [← Schedule.nextEnd_eq]
    exact cutDue_limit due
  · rw [makeCut_cues]
    exact Vector.getElem_set_self _

theorem makeCuts_made : ∀ (n : Nat) {c : Schedule} {w : Work}, w.sheet.schedule = some c →
    CutsMade e limit c w (makeCuts e limit n w)
  | 0, _, _, h => .none h
  | n + 1, c, w, h => by
    unfold makeCuts
    simp only [h]
    split
    · next due =>
      exact .next due (makeCuts_made n (by rw [makeCut_sheet]))
    · exact .none h

theorem cutTest_made (h : w.sheet.schedule = some c) : CutsMade e limit c w (cutTest e limit w) := by
  simp only [cutTest, h]
  exact makeCuts_made _ h

theorem CutsMade.find_other (h : CutsMade e limit c w w') {g : Nat} (hg : g ≠ c.order) :
    w'.seq.find g = w.seq.find g := by
  obtain ⟨n, _, seq⟩ := h.cuts
  rw [seq]
  exact w.updTallies_find_other _ hg

theorem CutsMade.find_self (h : CutsMade e limit c w w') : ∃ n, w'.seq.find c.order =
    (w.seq.find c.order).map fun o => { o with tallies := { o.tallies with cuts := o.tallies.cuts + n } } := by
  obtain ⟨n, _, seq⟩ := h.cuts
  exact ⟨n, by rw [seq]; exact w.updTallies_find_self _ c.order⟩

end

/-! ## The steps of the switch (R128) -/

/-- Whether the schedule is of an order. -/
def Work.cutting (i : Nat) (w : Work) : Bool := w.sheet.schedule.any fun c => c.order == i

/-- The due cuts of the ending order, its end, and the end of its schedule, where it is being cut. -/
def endCuts (e : Env) (t : Pos) (i : Nat) (w : Work) : Work :=
  if w.cutting i then
    let x := (cutTest e (some t) w).updTallies i fun y => { y with endPos := some t }
    { x with sheet := { x.sheet with schedule := none } }
  else w

/-- A late change noted in the orders of its pair. -/
def noteLate (i j : Nat) (late : Bool) (w : Work) : Work :=
  if late then
    let x := w.updTallies j fun y => { y with lateChange := true }
    if i = 0 then x else x.updTallies i fun y => { y with lateChange := true }
  else w

/-- The pulse that cuts the first board of a run. -/
def firstPulse (e : Env) (i : Nat) (w : Work) : Work := if i = 0 then pulse e 5 w else w

/-- What the switch has done when the next order begins. -/
def beforeBegin (e : Env) (t : Pos) (i j : Nat) (late : Bool) (w : Work) : Work :=
  firstPulse e i (noteLate i j late (endCuts e t i w))

/-- The start of the beginning order, and its schedule. -/
def Work.beginSchedule (t : Pos) (j : Nat) (g : OrderSpec) (w : Work) : Work :=
  let x := w.updTallies j fun y => { y with startAtKnife := some t }
  { x with sheet := { x.sheet with schedule := some ⟨j, t, g.length, g.outs, 0⟩ } }

theorem switchSchedule_eq {e : Env} {t : Pos} {i j : Nat} {late : Bool} {w : Work} {o : Order}
    (h : (beforeBegin e t i j late w).seq.find j = some o) :
    switchSchedule e t i j late w = cutTest e none ((beforeBegin e t i j late w).beginSchedule t j o.given) := by
  have steps : switchSchedule e t i j late w =
      let x := beforeBegin e t i j late w
      match x.seq.find j with
      | none => { x with sheet := { x.sheet with schedule := none } }
      | some o => cutTest e none (x.beginSchedule t j o.given) := rfl
  rw [steps]
  simp only [h]

theorem Work.cutting_iff {i : Nat} {w : Work} :
    w.cutting i = true ↔ ∃ c, w.sheet.schedule = some c ∧ c.order = i := by
  cases h : w.sheet.schedule <;> simp [Work.cutting, h]

/-- What the end of the cuts of an order makes of the blocks: its own tallies, and the sheets cut by its end. -/
structure EndsCuts (e : Env) (t : Pos) (i : Nat) (w w' : Work) : Prop where
  sheets : ∃ made, w'.sheet.sheets = w.sheet.sheets ++ made ∧ ∀ z ∈ made, z.gatePassed = false ∧ z.order = i ∧
    e.ahead (z.start.plus z.length) ≤ e.ahead t
  others : ∀ k, k ≠ i → w'.seq.find k = w.seq.find k
  own : ∃ n, w'.seq.find i = (w.seq.find i).map fun y =>
    { y with
      tallies :=
        { y.tallies with
          cuts := y.tallies.cuts + n, endPos := if w.cutting i then some t else y.tallies.endPos } }
  station : w'.station = w.station

theorem endCuts_ends (e : Env) (t : Pos) (i : Nat) (w : Work) : EndsCuts e t i w (endCuts e t i w) := by
  unfold endCuts
  by_cases h : w.cutting i = true
  · obtain ⟨c, hc, rfl⟩ := Work.cutting_iff.mp h
    rw [if_pos h]
    have cut : CutsMade e (some t) c w (cutTest e (some t) w) := cutTest_made hc
    obtain ⟨made, sheets, hmade⟩ := cut.sheets
    refine ⟨⟨made, sheets, fun z hz => ?_⟩, fun k hk => ?_, ?_, cut.station⟩
    · obtain ⟨gate, order, limit⟩ := hmade z hz
      exact ⟨gate, order, limit t rfl⟩
    · exact (Work.updTallies_find_other _ (fun y => { y with endPos := some t }) hk).trans (cut.find_other hk)
    · obtain ⟨n, found⟩ := cut.find_self
      refine ⟨n, (Work.updTallies_find_self _ (fun y => { y with endPos := some t }) _).trans ?_⟩
      rw [found, Option.map_map]
      simp only [h, if_true]
      rfl
  · rw [if_neg h]
    refine ⟨⟨[], (List.append_nil _).symm, fun _ hz => nomatch hz⟩, fun _ _ => rfl, ⟨0, ?_⟩, rfl⟩
    simp only [h]
    exact Option.map_id_apply.symm

section
variable {i j : Nat} (late : Bool) (w : Work)

theorem noteLate_sheet : (noteLate i j late w).sheet = w.sheet := by
  unfold noteLate
  dsimp only
  repeat' split
  all_goals rfl

theorem noteLate_station : (noteLate i j late w).station = w.station := by
  unfold noteLate
  dsimp only
  repeat' split
  all_goals rfl

variable {w} (hij : i ≠ j) {o : Order}
include hij

theorem noteLate_begins (ho : w.seq.find j = some o) :
    (noteLate i j late w).seq.find j =
      some { o with tallies := { o.tallies with lateChange := late || o.tallies.lateChange } } := by
  have noted : (w.updTallies j fun y => { y with lateChange := true }).seq.find j =
      some { o with tallies := { o.tallies with lateChange := true } } := by
    rw [Work.updTallies_find_self, ho]
    rfl
  unfold noteLate
  cases late with
  | false => exact ho
  | true =>
    simp only [if_true, Bool.true_or]
    split
    · exact noted
    · exact (Work.updTallies_find_other _ _ hij.symm).trans noted

theorem noteLate_ends (ho : w.seq.find i = some o) : ∃ o', (noteLate i j late w).seq.find i = some o' ∧
    o'.tallies.endPos = o.tallies.endPos ∧ (i ≠ 0 → o'.tallies.lateChange = (late || o.tallies.lateChange)) := by
  have other : (w.updTallies j fun y => { y with lateChange := true }).seq.find i = some o :=
    (Work.updTallies_find_other _ _ hij).trans ho
  unfold noteLate
  cases late with
  | false => exact ⟨o, ho, rfl, fun _ => rfl⟩
  | true =>
    simp only [if_true, Bool.true_or]
    split
    · next hi => exact ⟨o, other, rfl, fun h => absurd hi h⟩
    · refine ⟨{ o with tallies := { o.tallies with lateChange := true } }, ?_, rfl, fun _ => rfl⟩
      rw [Work.updTallies_find_self, other]
      rfl

end

section
variable (e : Env) (i : Nat) (w : Work)

theorem firstPulse_seq : (firstPulse e i w).seq = w.seq := by
  unfold firstPulse
  split <;> simp

theorem firstPulse_sheet : (firstPulse e i w).sheet = w.sheet := by
  unfold firstPulse
  split <;> simp

theorem firstPulse_station : (firstPulse e i w).station = w.station := by
  unfold firstPulse
  split
  · exact pulse_station e 5 w
  · rfl

end

section
variable (e : Env) (t : Pos) {i j : Nat} (late : Bool) (w : Work)

theorem beforeBegin_sheet : (beforeBegin e t i j late w).sheet = (endCuts e t i w).sheet :=
  (firstPulse_sheet e i _).trans (noteLate_sheet late _)

theorem beforeBegin_station : (beforeBegin e t i j late w).station = w.station :=
  (firstPulse_station e i _).trans ((noteLate_station late _).trans (endCuts_ends e t i w).station)

theorem beforeBegin_cue (h : i = 0) :
    (beforeBegin e t i j late w).cues[(5 : CueLine)] = some (e.now + pulseWidth e) := by
  rw [beforeBegin, firstPulse, if_pos h]
  exact pulse_cue e 5 _

variable {w} (hij : i ≠ j) {o : Order}
include hij

theorem beforeBegin_begins (ho : w.seq.find j = some o) : (beforeBegin e t i j late w).seq.find j =
    some { o with tallies := { o.tallies with lateChange := late || o.tallies.lateChange } } := by
  rw [beforeBegin, firstPulse_seq]
  exact noteLate_begins late hij (((endCuts_ends e t i w).others j hij.symm).trans ho)

theorem beforeBegin_ends (ho : w.seq.find i = some o) : ∃ o', (beforeBegin e t i j late w).seq.find i = some o' ∧
    o'.tallies.endPos = (if w.cutting i then some t else o.tallies.endPos) ∧
    (i ≠ 0 → o'.tallies.lateChange = (late || o.tallies.lateChange)) := by
  obtain ⟨n, own⟩ := (endCuts_ends e t i w).own
  rw [beforeBegin, firstPulse_seq]
  exact noteLate_ends late hij (own.trans (congrArg (Option.map _) ho))

/-- The switch ends with the cuts of the new schedule. -/
theorem switchSchedule_made (ho : w.seq.find j = some o) : CutsMade e none ⟨j, t, o.given.length, o.given.outs, 0⟩
    ((beforeBegin e t i j late w).beginSchedule t j o.given) (switchSchedule e t i j late w) := by
  rw [switchSchedule_eq (beforeBegin_begins e t late hij ho)]
  exact cutTest_made rfl

/-- The beginning order after the switch. -/
theorem switchSchedule_begins (ho : w.seq.find j = some o) : ∃ o',
    (switchSchedule e t i j late w).seq.find j = some o' ∧ o'.given = o.given ∧ o'.tallies.startAtKnife = some t ∧
      o'.tallies.lateChange = (late || o.tallies.lateChange) := by
  obtain ⟨n, own⟩ := (switchSchedule_made e t late hij ho).find_self
  have started := (Work.updTallies_find_self (beforeBegin e t i j late w) (fun y => { y with startAtKnife := some t })
    j).trans (congrArg (Option.map _) (beforeBegin_begins e t late hij ho))
  exact ⟨_, own.trans (congrArg (Option.map _) started), rfl, rfl, rfl⟩

/-- The ending order after the switch. -/
theorem switchSchedule_ends {y : Order} (ho : w.seq.find j = some o) (hy : w.seq.find i = some y) : ∃ y',
    (switchSchedule e t i j late w).seq.find i = some y' ∧
      y'.tallies.endPos = (if w.cutting i then some t else y.tallies.endPos) ∧
      (i ≠ 0 → y'.tallies.lateChange = (late || y.tallies.lateChange)) := by
  obtain ⟨y', found, tallies⟩ := beforeBegin_ends e t late hij hy
  have started := Work.updTallies_find_other (beforeBegin e t i j late w) (fun y => { y with startAtKnife := some t }) hij
  exact ⟨y', ((switchSchedule_made e t late hij ho).find_other hij).trans (started.trans found), tallies⟩

/-- The sheets cut at the switch: of the ending order by its end, or of the beginning one. -/
theorem switchSchedule_sheets (ho : w.seq.find j = some o) : ∃ made,
    (switchSchedule e t i j late w).sheet.sheets = w.sheet.sheets ++ made ∧ ∀ z ∈ made, z.gatePassed = false ∧
      (z.order = j ∨ (z.order = i ∧ e.ahead (z.start.plus z.length) ≤ e.ahead t)) := by
  obtain ⟨made, sheets, hmade⟩ := (endCuts_ends e t i w).sheets
  obtain ⟨later, laterSheets, hlater⟩ := (switchSchedule_made e t late hij ho).sheets
  refine ⟨made ++ later, ?_, fun z hz => ?_⟩
  · rw [laterSheets, ← List.append_assoc, ← sheets, ← beforeBegin_sheet e t late w]
    rfl
  · rcases List.mem_append.mp hz with hz | hz
    · obtain ⟨gate, order, limit⟩ := hmade z hz
      exact ⟨gate, .inr ⟨order, limit⟩⟩
    · obtain ⟨gate, order, _⟩ := hlater z hz
      exact ⟨gate, .inl order⟩

end

/-! ## The stacker (R136) -/

/-- A good sheet counted: its outs go to the good sheets and to the stack. -/
def Tallies.stack (outs : Nat) (t : Tallies) : Tallies :=
  { t with goodSheets := t.goodSheets + outs, currentStack := t.currentStack + outs }

/-- The stack closed. -/
def Tallies.closed (t : Tallies) : Tallies := { t with stacksClosed := t.stacksClosed + 1, currentStack := 0 }

/-- What a departure makes of the tallies of its order: a GOOD sheet is stacked, and the stack closes at the stack size. -/
def Sheet.stacking (x : Sheet) (o : Order) : Tallies → Tallies :=
  if x.cause = none then
    if o.given.stackSize ≤ (o.tallies.stack x.outs).currentStack then Tallies.closed ∘ Tallies.stack x.outs
    else Tallies.stack x.outs
  else id

theorem Sheet.stacking_apply (x : Sheet) (o : Order) :
    x.stacking o o.tallies =
      let counted := if x.cause = none then o.tallies.stack x.outs else o.tallies
      if x.cause = none ∧ o.given.stackSize ≤ counted.currentStack then counted.closed else counted := by
  unfold Sheet.stacking
  by_cases good : x.cause = none
  · simp only [good, if_true, true_and]
    split <;> rfl
  · simp only [good, if_false, false_and]
    rfl

/-- A record taken off the list. -/
def Work.takeOff (x : Sheet) (w : Work) : Work :=
  { w with sheet := { w.sheet with sheets := w.sheet.sheets.filter fun y => !y.isCut x.order x.cut } }

/-- What a departure counts of its record. -/
def stackSheet (e : Env) (x : Sheet) (w : Work) : Work :=
  if x.cause.isSome then w
  else
    let y := w.updTallies x.order (Tallies.stack x.outs)
    match y.seq.find x.order with
    | some o => if o.given.stackSize ≤ o.tallies.currentStack then closeStack e x.order y else y
    | none => y

theorem departure_eq (e : Env) (x : Sheet) (w : Work) :
    departure e x w = completionTest e x.order (stackSheet e x (w.takeOff x)) := rfl

section
variable {e : Env} {w : Work} {g : Nat} {o : Order}

theorem closeStack_frame (h : w.seq.find g = some o) : NoticeFrame (w.updTallies g Tallies.closed) (closeStack e g w) := by
  simp only [closeStack, h]
  exact post_frame _ _ _ _

theorem stackSheet_frame {x : Sheet} (h : w.seq.find x.order = some o) :
    NoticeFrame (w.updTallies x.order (x.stacking o)) (stackSheet e x w) := by
  unfold stackSheet Sheet.stacking
  cases hc : x.cause with
  | some _ =>
    simp only [Option.isSome_some, reduceCtorEq, if_false, if_true, Work.updTallies_id]
    exact .refl w
  | none =>
    have found : (w.updTallies x.order (Tallies.stack x.outs)).seq.find x.order =
        some { o with tallies := o.tallies.stack x.outs } := by
      rw [Work.updTallies_find_self, h]
      rfl
    simp only [Option.isSome_none, Bool.false_eq_true, if_false, if_true, found]
    split
    · rw [← Work.updTallies_updTallies]
      exact closeStack_frame found
    · exact .refl _

end

/-! ## Completion (R137, R138) -/

/-- What completion makes of the tallies of an order: a stack that holds sheets closes. -/
def Order.lastStack (o : Order) : Tallies → Tallies := if 0 < o.tallies.currentStack then Tallies.closed else id

theorem Order.lastStack_apply (o : Order) :
    o.lastStack o.tallies = if 0 < o.tallies.currentStack then o.tallies.closed else o.tallies := by
  unfold Order.lastStack
  split <;> rfl

/-- An order complete, but for its notices: its last stack, its record in the log, and its place in the queue given up. -/
def Work.completed (g : Nat) (o : Order) (w : Work) : Work :=
  let x := w.updTallies g o.lastStack
  { x with
    sheet := writeLog (completionOf { o with tallies := o.lastStack o.tallies }) x.sheet
    seq := { x.seq with sequence := x.seq.sequence.filter fun y => y.tag != g } }

theorem NoticeFrame.withSheet {w w' : Work} (h : NoticeFrame w w') (u : SheetUnit) :
    NoticeFrame { w with sheet := u } { w' with sheet := u } :=
  ⟨h.cues, h.track, h.station, h.stands, h.seq, rfl, h.owed, h.propTag, h.noProposal⟩

theorem NoticeFrame.withSeq {w w' : Work} (h : NoticeFrame w w') (q : Sequencer) :
    NoticeFrame { w with seq := q } { w' with seq := q } :=
  ⟨h.cues, h.track, h.station, h.stands, rfl, h.sheet, h.owed, h.propTag, h.noProposal⟩

section
variable {e : Env} {w : Work} {g : Nat} {o : Order} (h : w.seq.find g = some o)
include h

theorem completeOrder_frame : NoticeFrame (w.completed g o) (completeOrder e g w) := by
  simp only [completeOrder, h]
  set w1 := if 0 < o.tallies.currentStack then closeStack e g w else w
  have closed : NoticeFrame (w.updTallies g o.lastStack) w1 := by
    unfold w1 Order.lastStack
    split
    · exact closeStack_frame h
    · rw [Work.updTallies_id]
      exact .refl w
  have found : w1.seq.find g = some { o with tallies := o.lastStack o.tallies } := by
    rw [closed.seq, Work.updTallies_find_self, h]
    rfl
  simp only [found, Option.getD_some, closed.sheet]
  have posted := (closed.withSheet (writeLog (completionOf { o with tallies := o.lastStack o.tallies })
    (w.updTallies g o.lastStack).sheet)).trans (post_frame e (.order g) none _)
  rw [posted.seq]
  exact posted.withSeq _

theorem completionTest_waits (hw : ¬(o.tallies.endPos ≠ none ∧ ∀ y ∈ w.sheet.sheets, y.order ≠ g)) :
    completionTest e g w = w := by
  simp only [completionTest, h]
  refine if_neg fun c => hw ?_
  simpa [Option.isSome_iff_ne_none] using c

theorem completionTest_completes (hc : o.tallies.endPos ≠ none ∧ ∀ y ∈ w.sheet.sheets, y.order ≠ g) :
    completionTest e g w = completeOrder e g w := by
  simp only [completionTest, h]
  refine if_pos ?_
  simpa [Option.isSome_iff_ne_none] using hc

end

/-- The tags of the queue that a completed order leaves. -/
theorem Work.completed_tags (g : Nat) (o : Order) (w : Work) :
    (w.completed g o).seq.sequence.map Order.tag = (w.seq.sequence.map Order.tag).filter fun n => n != g := by
  rw [← (updTallies_run w g o.lastStack).sequence, List.filter_map]
  rfl

/-- The order of a departure after it is counted. -/
theorem stackSheet_find {e : Env} {x : Sheet} {w : Work} {o : Order} (h : w.seq.find x.order = some o) :
    (stackSheet e x w).seq.find x.order = some { o with tallies := x.stacking o o.tallies } := by
  rw [(stackSheet_frame h).seq, Work.updTallies_find_self, h]
  rfl

/-- Settles O52: the switch by the `switchSchedule_` lemmas, a departure by `stackSheet_frame`, and completion by
`completionTest_waits`, `completionTest_completes` and `completeOrder_frame`. -/
theorem switchAndCompletion : Obligations.SwitchAndCompletion := by
  refine ⟨fun e t i j late w o hij ho => ?switch, fun e x w o ho => ?departure⟩
  case switch =>
    intro y wasCut
    have made := switchSchedule_made e t late hij ho
    obtain ⟨n, schedule, _⟩ := made.cuts
    refine ⟨⟨_, schedule⟩, switchSchedule_begins e t late hij ho, fun z hz => ?_, switchSchedule_sheets e t late hij ho,
      fun hi => made.cue (beforeBegin_cue e t late w hi), switchSchedule_track e t i j late w,
      switchSchedule_stands e t i j late w, made.station.trans (beforeBegin_station e t late w)⟩
    obtain ⟨z', found, endPos, lateChange⟩ := switchSchedule_ends e t late hij ho hz
    exact ⟨z', found, fun cut => endPos.trans (if_pos (Work.cutting_iff.mpr cut)),
      fun uncut => endPos.trans (if_neg (mt Work.cutting_iff.mp uncut)), lateChange⟩
  case departure =>
    intro left counted closed u complete t
    have hu : x.stacking o o.tallies = u := x.stacking_apply o
    have stacked := stackSheet_frame (e := e) (w := w.takeOff x) ho
    have found : (stackSheet e x (w.takeOff x)).seq.find x.order = some { o with tallies := u } :=
      hu ▸ stackSheet_find (w := w.takeOff x) ho
    have ht : t = completionTest e x.order (stackSheet e x (w.takeOff x)) := departure_eq e x w
    have isComplete : complete ↔ u.endPos ≠ none ∧ ∀ y ∈ (stackSheet e x (w.takeOff x)).sheet.sheets, y.order ≠ x.order := by
      rw [stacked.sheet]
      rfl
    by_cases hc : complete
    · have frame := completeOrder_frame (e := e) found
      rw [← completionTest_completes found (isComplete.mp hc), ← ht] at frame
      refine ⟨frame.track.trans stacked.track, frame.stands.trans stacked.stands, frame.station.trans stacked.station,
        frame.cues.trans stacked.cues, fun h => absurd hc h, fun _ => ?_⟩
      intro f r
      have hf : ({ o with tallies := u } : Order).lastStack u = f := Order.lastStack_apply _
      have hr : completionOf { o with tallies := f } = r :=
        congrArg (fun n => { completionOf { o with tallies := f } with order := n }) (Sequencer.find_tag ho)
      refine ⟨frame.sheet.trans ?_, ?_⟩
      · rw [← hr, ← hf]
        exact congrArg (writeLog _) stacked.sheet
      · rw [frame.seq, Work.completed_tags, stacked.seq]
        exact congrArg _ (updTallies_run (w.takeOff x) x.order (x.stacking o)).sequence
    · have waits : t = stackSheet e x (w.takeOff x) := ht.trans (completionTest_waits found (mt isComplete.mpr hc))
      rw [waits]
      exact ⟨stacked.track, stacked.stands, stacked.station, stacked.cues, fun _ => ⟨stacked.sheet, found⟩,
        fun h => absurd h hc⟩

end Sys2Proof.Machine
end

section
/-! SUPPORT. The capacities of the notice unit and the alarm record (`Work.NoticeRoom`) through each operation of the notice
unit: a queue rewritten, a directed delivery, a walk, an arrival at the return list, a drop, a raise, a posting, a re-offer. -/

namespace Sys2Proof.Machine

/-! ## The alarm record (R172) -/

/-- The capacity of the alarm record: one flagged entry for a kind and subject, with a count from 1 to 255. -/
structure AlarmRecord.Room (a : AlarmRecord) : Prop where
  size : a.entries.length ≤ 64
  single : (a.entries.map fun x => (x.kind, x.subject)).Nodup
  flagged : ∀ x ∈ a.entries, x.flag = true ∧ 1 ≤ x.count ∧ x.count ≤ 255

/-- An entry after a raise of a kind for a subject (R172, step 1). -/
def AlarmEntry.raisedFor (k : AlarmKind) (s : Subject) (y : AlarmEntry) : AlarmEntry :=
  if y.names k s then { y with flag := true, count := sat255 y.count } else y

theorem AlarmEntry.raisedFor_key (k : AlarmKind) (s : Subject) (y : AlarmEntry) :
    ((y.raisedFor k s).kind, (y.raisedFor k s).subject) = (y.kind, y.subject) := by
  unfold AlarmEntry.raisedFor
  split <;> rfl

/-- A count stays from 1 to 255. -/
theorem AlarmEntry.raisedFor_flagged (k : AlarmKind) (s : Subject) {y : AlarmEntry}
    (h : y.flag = true ∧ 1 ≤ y.count ∧ y.count ≤ 255) :
    (y.raisedFor k s).flag = true ∧ 1 ≤ (y.raisedFor k s).count ∧ (y.raisedFor k s).count ≤ 255 := by
  unfold AlarmEntry.raisedFor
  split
  · simp only [sat255, true_and]
    omega
  · exact h

theorem AlarmRecord.Room.raiseAgain {a : AlarmRecord} (h : a.Room) (k : AlarmKind) (s : Subject) :
    AlarmRecord.Room { a with entries := a.entries.map (AlarmEntry.raisedFor k s) } where
  size := (List.length_map _).trans_le h.size
  single := by simpa only [List.map_map, Function.comp_def, AlarmEntry.raisedFor_key] using h.single
  flagged x hx := by
    obtain ⟨y, hy, rfl⟩ := List.mem_map.mp hx
    exact AlarmEntry.raisedFor_flagged k s (h.flagged y hy)

/-- A first raise takes an entry of a record that has room and none for its kind and subject. -/
theorem AlarmRecord.Room.enter {a : AlarmRecord} (h : a.Room) {k : AlarmKind} {s : Subject}
    (room : a.entries.length < 64) (new : a.entries.find? (AlarmEntry.names k s) = none) :
    AlarmRecord.Room { a with entries := a.entries ++ [⟨k, s, true, 1⟩] } where
  size := List.length_append.trans_le room
  single := by
    have other : (k, s) ∉ a.entries.map fun x => (x.kind, x.subject) := fun hx => by
      obtain ⟨x, hy, hk⟩ := List.mem_map.mp hx
      obtain ⟨rfl, rfl⟩ := Prod.mk.inj hk
      exact List.find?_eq_none.mp new x hy (by simp [AlarmEntry.names])
    rw [List.map_append]
    exact List.concat_eq_append ▸ h.single.concat other
  flagged x hx := by
    rcases List.mem_append.mp hx with hx | hx
    · exact h.flagged x hx
    · obtain rfl := List.mem_singleton.mp hx
      exact ⟨rfl, le_rfl, Nat.one_le_ofNat⟩

/-- A raise logged keeps the capacity (R172). -/
theorem AlarmRecord.Room.log {a : AlarmRecord} (h : a.Room) (k : AlarmKind) (s : Subject) : (a.log k s).1.Room := by
  unfold AlarmRecord.log
  split
  · exact h.raiseAgain k s
  · next new =>
    split
    · next room => exact h.enter room new
    · exact ⟨h.size, h.single, h.flagged⟩

/-- Entries that leave the record make room. -/
theorem AlarmRecord.Room.sublist {a b : AlarmRecord} (h : a.Room) (l : b.entries.Sublist a.entries) : b.Room :=
  ⟨l.length_le.trans h.size, (l.map _).nodup h.single, fun x hx => h.flagged x (l.subset hx)⟩

/-! ## What bears on the capacities -/

theorem Work.NoticeRoom.record {w : Work} (h : w.NoticeRoom) : w.alarms.Room := ⟨h.alarms, h.single, h.flagged⟩

/-- Another record within its capacity, and the same notices. -/
theorem Work.NoticeRoom.realarm {w w' : Work} (h : w.NoticeRoom) (n : w'.notices = w.notices) (a : w'.alarms.Room) :
    w'.NoticeRoom := ⟨n ▸ h.offers, n ▸ h.taken, n ▸ h.returned, a.size, a.single, a.flagged⟩

/-- Another return list within its capacity; the counters of the unit are in none. -/
theorem Work.NoticeRoom.rereturn {w w' : Work} (h : w.NoticeRoom) (d : w'.notices.desks = w.notices.desks)
    (a : w'.alarms = w.alarms) (r : w'.notices.returned.length ≤ 8) : w'.NoticeRoom :=
  ⟨d ▸ h.offers, d ▸ h.taken, r, a ▸ h.alarms, a ▸ h.single, a ▸ h.flagged⟩

/-- Other queues of one port within their capacities. -/
theorem Work.NoticeRoom.setDesk {w : Work} (h : w.NoticeRoom) (p : Port) {d : Desk} (offer : d.offer.length ≤ 16)
    (taken : d.taken.length ≤ 4) : (w.setDesk p d).NoticeRoom where
  offers q := by
    by_cases hq : q = p
    · rw [hq, Work.setDesk_self]
      exact offer
    · rw [Work.setDesk_other w p q d hq]
      exact h.offers q
  taken q := by
    by_cases hq : q = p
    · rw [hq, Work.setDesk_self]
      exact taken
    · rw [Work.setDesk_other w p q d hq]
      exact h.taken q
  returned := h.returned
  alarms := h.alarms
  single := h.single
  flagged := h.flagged

/-! ## Delivery (R151, R156, R157) -/

/-- An offer queue with room takes one more. -/
theorem offerAt_noticeRoom {w : Work} (h : w.NoticeRoom) {p : Port} (n : Notice)
    (room : w.notices.desks[p].offer.length < 16) : (w.offerAt p n).NoticeRoom :=
  h.setDesk p (List.length_append.trans_le room) (h.taken p)

theorem replaceStation_length (b : NoticeBody) (k : Nat) (l : List Notice) :
    (replaceStation b k l).length = l.length := by
  have tags := congrArg List.length (replaceStation_tags b k l)
  rwa [List.length_map, List.length_map] at tags

theorem coalesce_noticeRoom {w : Work} (h : w.NoticeRoom) (dest : Option Port) (b : NoticeBody) (k : Nat) :
    (coalesce w dest b k).NoticeRoom := by
  cases dest with
  | none => exact h
  | some p => exact h.setDesk p ((replaceStation_length b k _).trans_le (h.offers p)) (h.taken p)

theorem tryDirected_noticeRoom {e : Env} {n : Notice} {dest : Option Port} {w w' : Work} (h : w.NoticeRoom)
    (ht : tryDirected e n dest w = some w') : w'.NoticeRoom := by
  unfold tryDirected at ht
  split at ht
  · cases ht
  · split at ht
    · cases ht
    · split at ht
      · cases ht
        exact coalesce_noticeRoom h _ _ _
      · split at ht
        · next room =>
          cases ht
          exact offerAt_noticeRoom h n room
        · cases ht

/-- A walk stops at a port that accepts (R156). -/
theorem walk_accepts {e : Env} {w : Work} {priority : Nat} {q : Port} : ∀ {n : Nat} {lap : Bool} {first : Port},
    (walk e w priority n lap first).1 = some q → accepts e w priority q = true
  | 0, _, _, h => by cases h
  | n + 1, lap, first, h => by
    unfold walk at h
    split at h
    · next taken =>
      cases h
      exact taken
    · split at h
      · exact walk_accepts h
      · split at h
        · cases h
        · exact walk_accepts h

/-- The port that a walk finds has room. -/
theorem walk_room {e : Env} {w : Work} {priority n : Nat} {lap l : Bool} {first q : Port}
    (h : walk e w priority n lap first = (some q, l)) : w.notices.desks[q].offer.length < 16 := by
  have found : (walk e w priority n lap first).1 = some q := by rw [h]
  exact ((accepts_iff e w priority q).mp (walk_accepts found)).2.1

theorem leastUrgent_mem {l : List Notice} {d : Notice} (h : leastUrgent l = some d) : d ∈ l := by
  cases l with
  | nil => cases h
  | cons x l =>
    obtain rfl := Option.some.inj h
    refine List.foldlRecOn (motive := fun y => y ∈ x :: l) l lessUrgent List.mem_cons_self fun y hy z hz => ?_
    unfold lessUrgent
    split
    · exact hy
    · exact List.mem_cons_of_mem x hz

/-- A full return list gives up an entry for the one that enters (R157). -/
theorem enterReturn_noticeRoom {w : Work} (h : w.NoticeRoom) (n : Notice) : (enterReturn n w).1.NoticeRoom := by
  unfold enterReturn
  dsimp only
  split
  · next room => exact h.rereturn rfl rfl (List.length_append.trans_le room)
  · split
    · next d hd =>
      split
      · refine h.rereturn rfl rfl ?_
        have fewer : (w.notices.returned.filter fun x => x.tag != d.tag).length < w.notices.returned.length :=
          List.length_filter_lt_length_iff_exists.mpr ⟨d, leastUrgent_mem hd, by simp⟩
        exact List.length_append.trans_le (fewer.trans_le h.returned)
      · exact h
    · exact h

theorem walkFrom_noticeRoom (e : Env) {w : Work} (h : w.NoticeRoom) (n : Notice) (start : Option Port) (lap : Bool)
    (first : Port) : (walkFrom e n start lap first w).1.NoticeRoom := by
  unfold walkFrom
  split
  · next found => exact offerAt_noticeRoom h _ (walk_room found)
  · exact enterReturn_noticeRoom h _

theorem place_noticeRoom (e : Env) {w : Work} (h : w.NoticeRoom) (n : Notice) : (place e n w).1.NoticeRoom := by
  unfold place
  split
  · split
    · next ht => exact tryDirected_noticeRoom h ht
    · exact enterReturn_noticeRoom h n
  · exact walkFrom_noticeRoom e h n _ _ _

/-! ## Drops, postings and raises (R147, R157, R172) -/

theorem recordDrop_noticeRoom (e : Env) (d : Notice) {w : Work} (h : w.NoticeRoom) : (recordDrop e d w).1.NoticeRoom := by
  have logged : ∀ u : NoticeUnit, u.desks = w.notices.desks → u.returned = w.notices.returned →
      (noticeGivenUp e d { w with
        alarms := (w.alarms.log .noticeLost (.noticeClass d.body.cls)).1, notices := u }).NoticeRoom := fun u hd hr => by
    have counted : Work.NoticeRoom { w with notices := u } := h.rereturn hd rfl (hr ▸ h.returned)
    exact counted.realarm (noticeGivenUp_notices e d _) (by rw [noticeGivenUp_alarms]; exact h.record.log _ _)
  unfold recordDrop
  dsimp only
  split <;> exact logged _ rfl rfl

theorem afterPlace_noticeRoom (e : Env) {x : Work × Option Notice} (h : x.1.NoticeRoom) :
    (afterPlace e x).1.NoticeRoom := by
  obtain ⟨w, d⟩ := x
  cases d with
  | none => exact h
  | some d => exact recordDrop_noticeRoom e d h

theorem postOnce_noticeRoom (e : Env) (b : NoticeBody) (src : Option Port) {w : Work} (h : w.NoticeRoom) :
    (postOnce e b src w).1.NoticeRoom := by
  have counted : ∀ k g, Work.NoticeRoom { w with notices := { w.notices with postCount := k, nextTag := g } } :=
    fun _ _ => h.rereturn rfl rfl h.returned
  unfold postOnce
  dsimp only
  split
  · exact coalesce_noticeRoom (counted _ _) src b _
  · exact afterPlace_noticeRoom e (place_noticeRoom e (counted _ _) _)

theorem postChain_noticeRoom (e : Env) : ∀ (n : Nat) (b : NoticeBody) (src : Option Port) {w : Work},
    w.NoticeRoom → (postChain e n b src w).NoticeRoom
  | 0, b, src, _, h => postOnce_noticeRoom e b src h
  | n + 1, b, src, w, h => by
    have posted := postOnce_noticeRoom e b src h
    unfold postChain
    split
    · next hw =>
      rw [hw] at posted
      exact posted
    · next hw =>
      rw [hw] at posted
      exact postChain_noticeRoom e n _ none posted

theorem post_noticeRoom (e : Env) (b : NoticeBody) (src : Option Port) {w : Work} (h : w.NoticeRoom) :
    (post e b src w).NoticeRoom := postChain_noticeRoom e _ b src h

theorem raiseAlarm_noticeRoom (e : Env) (k : AlarmKind) (s : Subject) {w : Work} (h : w.NoticeRoom) :
    (raiseAlarm e k s w).NoticeRoom := by
  have logged : Work.NoticeRoom { w with alarms := (w.alarms.log k s).1 } := h.realarm rfl (h.record.log k s)
  unfold raiseAlarm
  dsimp only
  split
  · exact post_noticeRoom e _ none logged
  · exact logged

theorem finishPlace_noticeRoom (e : Env) {x : Work × Option Notice} (h : x.1.NoticeRoom) :
    (finishPlace e x).NoticeRoom := by
  have placed := afterPlace_noticeRoom e h
  unfold finishPlace
  split
  · next hw =>
    rw [hw] at placed
    exact placed
  · next hw =>
    rw [hw] at placed
    exact post_noticeRoom e _ none placed

/-! ## Re-offers, and a port that goes DOWN (R158, R159) -/

theorem reofferOne_noticeRoom (e : Env) (g : Nat) {w : Work} (h : w.NoticeRoom) : (reofferOne e w g).NoticeRoom := by
  have shorter : ∀ {w : Work}, w.NoticeRoom → (w.unreturn g).NoticeRoom := fun h =>
    h.rereturn rfl rfl ((List.length_filter_le _ _).trans h.returned)
  unfold reofferOne
  split
  · exact h
  · split
    · split
      · next ht => exact shorter (tryDirected_noticeRoom h ht)
      · exact h
    · split
      · next found => exact shorter (offerAt_noticeRoom h _ (walk_room found))
      · exact h.rereturn rfl rfl ((List.length_map _).trans_le h.returned)

theorem reoffer_noticeRoom (e : Env) {w : Work} (h : w.NoticeRoom) : (reoffer e w).NoticeRoom :=
  List.foldlRecOn (motive := Work.NoticeRoom) _ (reofferOne e) h fun _ hw g _ => reofferOne_noticeRoom e g hw

theorem giveBack_noticeRoom (e : Env) (p : Port) (n : Notice) {w : Work} (h : w.NoticeRoom) :
    (giveBack e p w n).NoticeRoom := by
  have off : (w.undesk p n.tag).NoticeRoom :=
    h.setDesk p ((List.length_filter_le _ _).trans (h.offers p)) ((List.length_filter_le _ _).trans (h.taken p))
  unfold giveBack
  split
  · exact finishPlace_noticeRoom e (enterReturn_noticeRoom off n)
  · exact finishPlace_noticeRoom e (walkFrom_noticeRoom e off n _ _ _)

end Sys2Proof.Machine
end

section
/-! SUPPORT. What an event is made of where the notice unit and the alarm record are concerned (`Noticed`): postings, raises,
re-offers, notices given back or taken, notices that leave, and changes elsewhere. Cues, announcements, passages, cuts, marks entered
and closed, the chain, levels and fires, joints and arrivals are made of these. -/

namespace Sys2Proof.Machine

/-! ## The relation -/

/-- Notices leave, and none enters; the alarm record stays. -/
structure NoticesLeave (w w' : Work) : Prop where
  offers : ∀ p : Port, w'.notices.desks[p].offer.Sublist w.notices.desks[p].offer
  taken : ∀ p : Port, w'.notices.desks[p].taken.Sublist w.notices.desks[p].taken
  returned : w'.notices.returned.Sublist w.notices.returned
  alarms : w'.alarms = w.alarms

/-- The second state comes of the first by operations of the notice unit, with anything done elsewhere between them. -/
inductive Noticed : Work → Work → Prop
  | left {w w' : Work} (h : NoticesLeave w w') : Noticed w w'
  | posted (e : Env) (b : NoticeBody) (source : Option Port) (w : Work) : Noticed w (post e b source w)
  | raised (e : Env) (k : AlarmKind) (s : Subject) (w : Work) : Noticed w (raiseAlarm e k s w)
  | reoffered (e : Env) (w : Work) : Noticed w (reoffer e w)
  | gaveBack (e : Env) (p : Port) (w : Work) (n : Notice) : Noticed w (giveBack e p w n)
  | took {w : Work} {p : Port} (n : Notice) (room : w.notices.desks[p].taken.length < 4) : Noticed w (w.takeNotice p n)
  | trans {a b c : Work} (h : Noticed a b) (g : Noticed b c) : Noticed a c

theorem NoticesLeave.of_eq {w w' : Work} (n : w'.notices = w.notices) (a : w'.alarms = w.alarms) : NoticesLeave w w' := by
  refine ⟨fun p => ?_, fun p => ?_, ?_, a⟩ <;> rw [n]

/-- Only other blocks change. -/
theorem Noticed.elsewhere {w w' : Work} (n : w'.notices = w.notices) (a : w'.alarms = w.alarms) : Noticed w w' :=
  .left (.of_eq n a)

theorem Noticed.refl (w : Work) : Noticed w w := .elsewhere rfl rfl

theorem Noticed.after {a b c : Work} (g : Noticed b c) (h : Noticed a b) : Noticed a c := h.trans g

theorem foldl_noticed {α : Type} {f : Work → α → Work} (hf : ∀ w x, Noticed w (f w x)) (l : List α) (w : Work) :
    Noticed w (l.foldl f w) :=
  List.foldlRecOn (motive := Noticed w) l f (.refl w) fun x hx a _ => hx.trans (hf x a)

theorem iterate_noticed {f : Work → Work} (hf : ∀ w, Noticed w (f w)) : ∀ (n : Nat) (w : Work), Noticed w (f^[n] w)
  | 0, w => .refl w
  | n + 1, w => (hf w).trans (iterate_noticed hf n (f w))

/-! ## Capacities -/

theorem NoticesLeave.room {w w' : Work} (l : NoticesLeave w w') (h : w.NoticeRoom) : w'.NoticeRoom where
  offers p := (l.offers p).length_le.trans (h.offers p)
  taken p := (l.taken p).length_le.trans (h.taken p)
  returned := l.returned.length_le.trans h.returned
  alarms := l.alarms ▸ h.alarms
  single := l.alarms ▸ h.single
  flagged := l.alarms ▸ h.flagged

/-- Every operation of the notice unit keeps its capacities and those of the alarm record. -/
theorem Noticed.room {w w' : Work} (h : Noticed w w') (room : w.NoticeRoom) : w'.NoticeRoom := by
  induction h with
  | left l => exact l.room room
  | posted e b source w => exact post_noticeRoom e b source room
  | raised e k s w => exact raiseAlarm_noticeRoom e k s room
  | reoffered e w => exact reoffer_noticeRoom e room
  | gaveBack e p w n => exact giveBack_noticeRoom e p n room
  | @took w p n free =>
    exact room.setDesk p (List.eraseP_sublist.length_le.trans (room.offers p)) (List.length_cons.trans_le free)
  | trans h g ih ig => exact ig (ih room)

/-! ## Notices that leave (R116, R119, R125, R153, R159) -/

/-- One port's queues lose notices. -/
theorem setDesk_leave (w : Work) (p : Port) {d : Desk} (offer : d.offer.Sublist w.notices.desks[p].offer)
    (taken : d.taken.Sublist w.notices.desks[p].taken) : NoticesLeave w (w.setDesk p d) := by
  refine ⟨fun q => ?_, fun q => ?_, .refl _, rfl⟩ <;> by_cases hq : q = p
  · subst hq
    rwa [Work.setDesk_self]
  · rw [Work.setDesk_other w p q d hq]
  · subst hq
    rwa [Work.setDesk_self]
  · rw [Work.setDesk_other w p q d hq]

theorem dropOffered_noticed (p : Port) (tag : Nat) (w : Work) : Noticed w (dropOffered p tag w) :=
  .left (setDesk_leave w p List.filter_sublist (.refl _))

theorem removeUntaken_noticed (tag : Nat) (w : Work) : Noticed w (removeUntaken tag w) :=
  (foldl_noticed (f := fun x p => dropOffered p tag x) (fun w p => dropOffered_noticed p tag w) allPorts w).trans
    (.left ⟨fun _ => .refl _, fun _ => .refl _, List.filter_sublist, rfl⟩)

theorem afterFloor_noticed (e : Env) (p : Port) (n : Nat) (w : Work) : Noticed w (afterFloor e p n w) := by
  unfold afterFloor
  split
  · exact .reoffered e w
  · exact .refl w

theorem finishTaken_noticed (e : Env) (p : Port) (f : Notice → Bool) (w : Work) : Noticed w (finishTaken e p f w) :=
  (afterFloor_noticed e p _ _).after (.left (setDesk_leave w p (.refl _) List.eraseP_sublist))

theorem emptyDesk_noticed (e : Env) (p : Port) (w : Work) : Noticed w (emptyDesk e p w) :=
  (foldl_noticed (Noticed.gaveBack e p) _ w).trans (afterFloor_noticed e p _ _)

theorem noticeGivenUp_noticed (e : Env) (n : Notice) (w : Work) : Noticed w (noticeGivenUp e n w) :=
  .elsewhere (noticeGivenUp_notices e n w) (noticeGivenUp_alarms e n w)

theorem pulse_noticed (e : Env) (c : CueLine) (w : Work) : Noticed w (pulse e c w) := by
  unfold pulse
  dsimp only
  split
  · exact .elsewhere rfl rfl
  · exact (Noticed.raised _ _ _ _).after (.elsewhere rfl rfl)

/-! ## Announcements (R37, R39, R107, R125, R142) -/

theorem withdrawFor_noticed (g : Nat) (w : Work) : Noticed w (withdrawFor g w) := by
  unfold withdrawFor
  split
  · exact .refl w
  · next p _ =>
    have ended : Noticed w { w with prop := { w.prop with list := w.prop.list.filter fun x => x.changeTag != g } } :=
      .elsewhere rfl rfl
    exact (ended.trans (removeUntaken_noticed p.tag _)).trans (.elsewhere rfl rfl)

section
variable {a : Work → Work} (ha : ∀ w, Noticed w (a w))
include ha

theorem removeChange_noticed (w : Work) (g : Nat) : Noticed w (removeChange a w g) := by
  unfold removeChange
  split
  · exact .refl w
  · split
    · exact .refl w
    · split
      · exact (ha _).after ((withdrawFor_noticed g w).trans (.elsewhere rfl rfl))
      · exact .refl w

theorem removeChanges_noticed (tags : List Nat) (w : Work) : Noticed w (removeChanges a tags w) :=
  (foldl_noticed (fun w g => withdrawFor_noticed g w) _ w).trans (foldl_noticed (removeChange_noticed ha) _ _)

omit ha in
theorem placeMarks_noticed (e : Env) : ∀ (tags : List Nat) (n : Nat) (w : Work), Noticed w (placeMarks e tags n w).work
  | [], _, w => .refl w
  | g :: rest, n, w => by
    rcases placeMarks_cases e g rest n w with h | h | ⟨i, j, p, w', hm, h⟩ <;> rw [h]
    · exact placeMarks_noticed e rest n w
    · exact .elsewhere rfl rfl
    · obtain ⟨t, _, rfl⟩ := Option.map_eq_some_iff.mp hm
      exact (placeMarks_noticed e rest (n + 1) _).after (.elsewhere rfl rfl)

theorem placeAll_noticed (e : Env) (tags : List Nat) (w : Work) : Noticed w (placeAll e a tags w) :=
  ((placeMarks_noticed e tags 0 w).trans (removeChanges_noticed ha _ _)).trans (iterate_noticed ha _ _)

theorem moveOrder_noticed (e : Env) (i c : Nat) (w : Work) : Noticed w (moveOrder e a i c w).1 := by
  have placed : ∀ tags f, Noticed w (placeAll e a tags (w.updOrder i f)) := fun tags f =>
    (placeAll_noticed ha e tags _).after (.elsewhere rfl rfl)
  unfold moveOrder
  split
  · exact .refl w
  · split
    · exact .elsewhere rfl rfl
    · split
      · exact placed _ _
      · exact placed _ _
      · exact .refl w

omit ha in
theorem raiseShort_noticed (e : Env) (g : Nat) (w : Work) : Noticed w (raiseShort e g w) := by
  unfold raiseShort
  split
  · exact .refl w
  · split
    · exact .refl w
    · exact (Noticed.raised _ _ _ _).after (.elsewhere rfl rfl)

theorem recomputePass_noticed (e : Env) : ∀ (tags : List Nat) (w : Work), Noticed w (recomputePass e a tags w)
  | [], w => .refl w
  | g :: rest, w => by
    unfold recomputePass
    split
    · exact recomputePass_noticed e rest w
    · next o f _ =>
      have forecast : Noticed w (w.updTallies g fun t => { t with forecast := f }) := .elsewhere rfl rfl
      have moved := forecast.trans (moveOrder_noticed ha e g (o.given.required - f) _)
      dsimp only
      split
      · exact forecast.trans (recomputePass_noticed e rest _)
      · split
        · next hm =>
          rw [hm] at moved
          exact (moved.trans (raiseShort_noticed e g _)).trans (recomputePass_noticed e rest _)
        · next hm =>
          rw [hm] at moved
          exact moved.trans (recomputePass_noticed e rest _)
        · next hm =>
          rw [hm] at moved
          exact moved.trans (recomputePass_noticed e rest _)

end

theorem recomputeWithin_noticed (e : Env) : ∀ (n : Nat) (w : Work), Noticed w (recomputeWithin e n w)
  | 0, w => .refl w
  | n + 1, w => recomputePass_noticed (recomputeWithin_noticed e n) e _ w

theorem announce_noticed (e : Env) (w : Work) : Noticed w (announce e w) := recomputeWithin_noticed e _ w

theorem announceExtent_noticed (e : Env) (m : Mark) (w : Work) : Noticed w (announceExtent e m w) :=
  (recomputeWithin_noticed e _ _).after (.elsewhere rfl rfl)

theorem freeEntry_noticed {e : Env} {w w' : Work} (h : freeEntry e w = some w') : Noticed w w' := by
  unfold freeEntry at h
  split at h
  · cases h
  · obtain rfl := Option.some.inj h
    have widened : ∀ m t, Noticed w (announceExtent e m { w with track := t }) := fun m t =>
      (announceExtent_noticed e m _).after (.elsewhere rfl rfl)
    exact (announce_noticed e _).after ((widened _ _).trans (.elsewhere rfl rfl))

/-! ## The station unit (R58 to R64), cuts and the switch (R128, R129) -/

theorem postStation_noticed (e : Env) (st : Station) (b : StationBody) (w : Work) : Noticed w (postStation e st b w) := by
  unfold postStation
  split
  · exact .refl w
  · exact .posted _ _ _ _

theorem pulseStation_noticed (e : Env) (st : Station) (w : Work) : Noticed w (pulseStation e st w) := by
  unfold pulseStation
  split
  · exact .refl w
  · exact pulse_noticed _ _ _

/-- A station is told: its notice is posted and its cue pulses. -/
theorem told_noticed (e : Env) (st : Station) (b : StationBody) (w : Work) :
    Noticed w (pulseStation e st (postStation e st b w)) :=
  (postStation_noticed e st b w).trans (pulseStation_noticed e st _)

theorem rampTest_noticed (e : Env) (before : Option Pos) (created : Bool) (w : Work) (i : StationIx) :
    Noticed w (rampTest e before created w i) := by
  unfold rampTest
  split
  · next st r _ _ =>
    split
    · have told : ∀ v b, Noticed w (pulseStation e st (postStation e st b (w.setCurrent i v))) := fun v b =>
        (told_noticed e st b _).after (.elsewhere rfl rfl)
      exact (told _ _).trans (.elsewhere rfl rfl)
    · exact .refl w
  · exact .refl w

theorem changeover_noticed (e : Env) (i : StationIx) (st : Station) (m : Mark) (j : Nat) (late : Bool) (w : Work) :
    Noticed w (changeover e i st m j late w) := by
  have ended : Noticed w (endRamp e i m.start w) := (rampTest_noticed e _ _ w i).trans (.elsewhere rfl rfl)
  have ramped : ∀ r, Noticed w ((endRamp e i m.start w).setRamp i r) := fun r => ended.trans (.elsewhere rfl rfl)
  unfold changeover
  dsimp only
  split
  · exact ended.trans (postStation_noticed e st _ _)
  · exact ((ramped _).trans (postStation_noticed e st _ _)).trans (rampTest_noticed e _ _ _ i)

theorem slitterChange_noticed (e : Env) (i : StationIx) (st : Station) (m : Mark) (k j : Nat) (late : Bool) (w : Work) :
    Noticed w (slitterChange e i st m k j late w) := by
  unfold slitterChange
  split
  · exact .refl w
  · split
    · exact .refl w
    · exact (told_noticed e st _ _).after (.elsewhere rfl rfl)

theorem makeCut_noticed (e : Env) (c : Schedule) (w : Work) : Noticed w (makeCut e c w) :=
  (pulse_noticed e 5 w).trans (.elsewhere rfl rfl)

theorem makeCuts_noticed (e : Env) (limit : Option Pos) : ∀ (n : Nat) (w : Work), Noticed w (makeCuts e limit n w)
  | 0, w => .refl w
  | n + 1, w => by
    unfold makeCuts
    split
    · exact .refl w
    · split
      · exact (makeCut_noticed e _ w).trans (makeCuts_noticed e limit n _)
      · exact .refl w

theorem cutTest_noticed (e : Env) (limit : Option Pos) (w : Work) : Noticed w (cutTest e limit w) := by
  unfold cutTest
  split
  · exact .refl w
  · exact makeCuts_noticed e limit _ w

theorem switchSchedule_noticed (e : Env) (t : Pos) (i j : Nat) (late : Bool) (w : Work) :
    Noticed w (switchSchedule e t i j late w) := by
  unfold switchSchedule
  extract_lets atKnife cut cutSheet w1 noted w2 w3
  have ended : Noticed w w1 := by
    unfold w1
    split
    · exact (cutTest_noticed e (some t) w).trans (.elsewhere rfl rfl)
    · exact .refl w
  have flagged : Noticed w1 w2 := by
    unfold w2
    split
    · split <;> exact .elsewhere rfl rfl
    · exact .refl w1
  have pulsed : Noticed w2 w3 := by
    unfold w3
    split
    · exact pulse_noticed e 5 w2
    · exact .refl w2
  refine ((ended.trans flagged).trans pulsed).trans ?_
  split
  · exact .elsewhere rfl rfl
  · exact (cutTest_noticed e none _).after (.elsewhere rfl rfl)

theorem changeBegin_noticed (e : Env) (i : StationIx) (st : Station) (m : Mark) (k j : Nat) (late : Bool) (w : Work) :
    Noticed w (changeBegin e i st m k j late w) := by
  unfold changeBegin
  cases st.kind with
  | preheat => exact changeover_noticed e i st m j late w
  | glue => exact changeover_noticed e i st m j late w
  | heat => exact changeover_noticed e i st m j late w
  | generic => exact changeover_noticed e i st m j late w
  | slitter => exact slitterChange_noticed e i st m k j late w
  | knife => exact (told_noticed e st _ w).trans (switchSchedule_noticed e _ _ _ _ _)
  | gate => exact .refl w
  | stacker => exact .refl w
  | inspect => exact .refl w

theorem beginPassage_noticed (e : Env) (i : StationIx) (st : Station) (m : Mark) (late : Bool) (w : Work) :
    Noticed w (beginPassage e i st m late w) := by
  unfold beginPassage
  split
  · exact changeBegin_noticed e i st m _ _ late w
  · exact told_noticed e st _ w

/-! ## Passages and evaluations (R43 to R49) -/

theorem beginAt_noticed (e : Env) (commit : Bool) (i : StationIx) (st : Station) (m : Mark) (w : Work) :
    Noticed w (beginAt e commit i st m w) := by
  unfold beginAt
  split
  · exact (beginPassage_noticed e i st _ commit _).after (.elsewhere rfl rfl)
  · exact .refl w

theorem endAt_noticed (e : Env) (i : StationIx) (st : Station) (m : Mark) (w : Work) : Noticed w (endAt e i st m w) := by
  unfold endAt
  split
  · exact (told_noticed e st _ _).after (.elsewhere rfl rfl)
  · exact .refl w

theorem passStation_noticed (e : Env) (commit : Bool) (n : Nat) (i : StationIx) (w : Work) :
    Noticed w (passStation e commit n i w) := by
  unfold passStation
  split
  · next st m _ _ =>
    have begun := beginAt_noticed e commit i st m w
    split
    · dsimp only
      split
      · exact begun.trans (endAt_noticed e i st _ _)
      · exact begun
    · exact .refl w
  · exact .refl w

theorem retireMarks_noticed (e : Env) (except : Option Nat) (w : Work) : Noticed w (retireMarks e except w) := by
  unfold retireMarks
  split
  · exact .elsewhere rfl rfl
  · exact .refl w

section
variable {a : Mark → Work → Work} (ha : ∀ m w, Noticed w (a m w))
include ha

theorem passPoint_noticed (e : Env) (commit : Bool) (n : Nat) (w : Work) (x : LinePoint) :
    Noticed w (passPoint e a commit n w x) := by
  cases x with
  | some i => exact passStation_noticed e commit n i w
  | none =>
    unfold passPoint passDatum
    dsimp only
    split
    · exact .refl w
    · split
      · exact (ha _ _).after (.elsewhere rfl rfl)
      · exact .refl w

theorem evaluate_noticed (e : Env) (commit : Bool) (l : List Nat) (except : Option Nat) (w : Work) :
    Noticed w (evaluate e a commit l except w) := by
  have passed : Noticed w (l.foldl (passMark e a commit) w) :=
    foldl_noticed (fun w n => foldl_noticed (passPoint_noticed ha e commit n) _ w) l w
  exact (passed.trans (foldl_noticed (fun w i => rampTest_noticed e _ false w i) allStations _)).trans
    (retireMarks_noticed e except _)

end

theorem evaluateOne_noticed (e : Env) (n : Nat) (w : Work) : Noticed w (evaluateOne e n w) :=
  evaluate_noticed (fun _ w => .refl w) e false [n] (some n) w

/-! ## Marks entered and closed (R34, R35, R40) -/

/-- A mark announced and then evaluated. -/
theorem announced_noticed (e : Env) (m : Mark) (n : Nat) (w : Work) :
    Noticed w (evaluateOne e n (announceExtent e m w)) :=
  (announceExtent_noticed e m w).trans (evaluateOne_noticed e n _)

theorem handIn_noticed (e : Env) (body : MarkBody) (s : Pos) (n : Nat) (w : Work) :
    Noticed w (handIn e body s n w).1 := by
  unfold handIn makeRoom
  split
  · next h =>
    split at h
    · cases h
      exact .elsewhere rfl rfl
    · exact (freeEntry_noticed h).trans (.elsewhere rfl rfl)
  · exact .raised _ _ _ _

theorem enterMark_noticed (e : Env) (body : MarkBody) (s : Pos) (n : Nat) (w : Work) :
    Noticed w (enterMark e body s n w).1 := by
  have handed := handIn_noticed e body s n w
  unfold enterMark
  split
  · next hx =>
    rw [hx] at handed
    exact handed.trans (announced_noticed e _ _ _)
  · next hx =>
    rw [hx] at handed
    exact handed

theorem closeMismatch_noticed (e : Env) (g : Nat) (p : Pos) (w : Work) : Noticed w (closeMismatch e g p w) := by
  unfold closeMismatch
  split
  · exact .refl w
  · split
    · exact (announced_noticed e _ _ _).after (.elsewhere rfl rfl)
    · exact .refl w

theorem enterDefect_noticed (e : Env) (i c : Nat) (s : Pos) (n : Nat) (w : Work) :
    Noticed w (enterDefect e i c s n w).1 := by
  unfold enterDefect
  split
  · dsimp only
    split
    · exact (announced_noticed e _ _ _).after (.elsewhere rfl rfl)
    · exact .elsewhere rfl rfl
  · dsimp only
    split
    · exact .raised _ _ _ _
    · next m _ =>
      split
      · exact (announceExtent_noticed e _ _).after (.elsewhere rfl rfl)
      · set w1 := announce e { w with track := w.track.remove m.tag, owed := { w.owed with extend := true } }
        have left : Noticed w w1 := (announce_noticed e _).after (.elsewhere rfl rfl)
        have put : ∀ t, Noticed w { w1 with track := t } := fun t => left.trans (.elsewhere rfl rfl)
        split
        · exact (put _).trans (announced_noticed e _ _ _)
        · exact put _

/-! ## The change chain (R98, R103, R104, R106) -/

theorem extendLoop_noticed (e : Env) : ∀ (n : Nat) (w : Work), Noticed w (extendLoop e n w)
  | 0, w => .refl w
  | n + 1, w => by
    unfold extendLoop
    split
    · exact .refl w
    · next i j _ =>
      have planned : ∀ f, Noticed w (w.updOrder i.tag f) := fun f => .elsewhere rfl rfl
      split
      · dsimp only
        split
        · exact .elsewhere rfl rfl
        · next p _ =>
          split
          · have recorded := (planned fun o => { o with planned := p.planned }).trans (Noticed.elsewhere
              (w' := (recordMark e (.change i.tag j.tag .planned false) p.pos 0
                (w.updOrder i.tag fun o => { o with planned := p.planned })).1) rfl rfl)
            split
            · next h =>
              rw [h] at recorded
              exact recorded
            · next m h =>
              rw [h] at recorded
              have linked := recorded.trans (.elsewhere (w' := Work.link _ i.tag j.tag m) rfl rfl)
              have told := linked.trans (announceExtent_noticed e m _)
              refine (told.trans ?_).trans (extendLoop_noticed e n _)
              exact (evaluateOne_noticed e m.entry _).after (.elsewhere rfl rfl)
          · split
            · next h => exact ((planned _).trans (freeEntry_noticed h)).trans (extendLoop_noticed e n _)
            · exact ((planned _).trans (.raised e .trackFull (.order j.tag) _)).trans (.elsewhere rfl rfl)
      · exact .refl w

theorem extendChain_noticed (e : Env) (w : Work) : Noticed w (extendChain e w) :=
  (extendLoop_noticed e _ _).after (.elsewhere rfl rfl)

theorem relead_noticed (g k : Nat) (w : Work) : Noticed w (relead g k w) := by
  unfold relead
  split
  · exact .refl w
  · split
    · exact .elsewhere rfl rfl
    · exact .refl w

theorem placeAfresh_noticed (e : Env) (g : Nat) (w : Work) : Noticed w (placeAfresh e g w) := by
  unfold placeAfresh
  split
  · exact .refl w
  · exact (placeAll_noticed (announce_noticed e) e _ _).after (.elsewhere rfl rfl)

theorem leadTo_noticed (e : Env) (g k : Nat) (w : Work) : Noticed w (leadTo e g k w) :=
  ((relead_noticed g k w).trans (placeAfresh_noticed e g _)).trans (extendChain_noticed e _)

theorem removeLater_noticed (e : Env) (g : Nat) (w : Work) : Noticed w (removeLater e g w) :=
  removeChanges_noticed (announce_noticed e) _ w

theorem replan_noticed (e : Env) (g k : Nat) (w : Work) : Noticed w (replan e g k w) :=
  (removeLater_noticed e g w).trans (leadTo_noticed e g k _)

theorem removeEnd_noticed (e : Env) (o : Option Order) (w : Work) : Noticed w (removeEnd e o w) := by
  unfold removeEnd
  split
  · exact removeChange_noticed (announce_noticed e) w _
  · exact .refl w

theorem moveAndAnnounce_noticed (e : Env) (i c : Nat) (w : Work) : Noticed w (moveAndAnnounce e i c w) :=
  moveOrder_noticed (announce_noticed e) e i c w

theorem refusalHold_noticed (e : Env) (g j : Nat) (w : Work) : Noticed w (refusalHold e g j w) := by
  have held : Noticed w (holdOrder j w) := by
    unfold holdOrder
    split
    · exact .refl w
    · exact .elsewhere rfl rfl
  have ended := held.trans (removeEnd_noticed e (w.seq.find j) _)
  unfold refusalHold
  dsimp only
  split
  · exact ended.trans (replan_noticed e g _ _)
  · exact (ended.trans (removeChange_noticed (announce_noticed e) _ g)).trans (extendChain_noticed e _)

/-! ## Levels, fires and requirements (R75 to R80, R88) -/

theorem updStand_noticed (w : Work) (k : Stand) (f : StandRec → StandRec) : Noticed w (w.updStand k f) :=
  .elsewhere rfl rfl

theorem setLevel_noticed (e : Env) (k : Stand) (l : ReelLevel) (u : Nat) (w : Work) : Noticed w (setLevel e k l u w) := by
  unfold setLevel
  extract_lets r w1 w2
  have posted : Noticed w w1 := (Noticed.posted e _ none _).after (.elsewhere rfl rfl)
  have raised : Noticed w w2 := by
    unfold w2
    split
    · exact posted.trans (.raised _ _ _ _)
    · exact posted
  split
  · exact .refl w
  · split
    · exact raised.trans (.raised _ _ _ _)
    · exact raised

theorem evalLevel_noticed (e : Env) (k : Stand) (fresh : Bool) (w : Work) : Noticed w (evalLevel e k fresh w) := by
  unfold evalLevel
  dsimp only
  split <;> exact setLevel_noticed e k _ _ w

theorem fire_noticed (e : Env) (k : Stand) (w : Work) : Noticed w (fire e k w) := by
  refine (Noticed.posted e _ none _).after ?_
  exact (pulse_noticed e _ _).after (.elsewhere rfl rfl)

theorem evalFire_noticed (e : Env) (sudden : Bool) (k : Stand) (w : Work) : Noticed w (evalFire e sudden k w) := by
  rcases evalFire_cases e sudden k w with h | ⟨_, _, h | ⟨_, _, h⟩⟩ <;> rw [h]
  · exact .refl w
  · exact fire_noticed e k w
  · exact (fire_noticed e k w).trans (.raised _ _ _ _)

theorem evalFires_noticed (e : Env) (w : Work) : Noticed w (evalFires e w) :=
  foldl_noticed (fun w k => evalFire_noticed e false k w) allStands w

theorem standAdvance_noticed (e : Env) (c : Encoder) (w : Work) : Noticed w (standAdvance e c w) := by
  have levels : ∀ w k, Noticed w (evalLevel e k false (w.updStand k (noteSpent e k))) := fun w k =>
    (evalLevel_noticed e k false _).after (.elsewhere rfl rfl)
  exact (foldl_noticed levels _ w).trans (evalFires_noticed e _)

theorem requirementRule_noticed (e : Env) (k : Stand) (w : Work) : Noticed w (requirementRule e k w) := by
  unfold requirementRule
  split
  · exact .refl w
  · split
    · exact .refl w
    · exact (evalFire_noticed e true k _).after (.elsewhere rfl rfl)

theorem requirementRules_noticed (e : Env) (w : Work) : Noticed w (requirementRules e w) :=
  foldl_noticed (fun w k => requirementRule_noticed e k w) allStands w

/-! ## Joints and arrivals (R83, R85, R89 to R92, R98) -/

theorem openAt_noticed (e : Env) (k : Stand) (s : Pos) (w : Work) : Noticed w (openAt e k s w) := by
  have entered := enterMark_noticed e (.mismatch k true) (Pos.at s.val) 0 w
  unfold openAt
  split
  · next hx =>
    rw [hx] at entered
    exact entered.trans (.elsewhere rfl rfl)
  · next hx =>
    rw [hx] at entered
    exact entered

theorem settleOpen_noticed (e : Env) (k : Stand) (c : JointCase) (w : Work) : Noticed w (settleOpen e k c w).1 := by
  unfold settleOpen
  split
  · exact .refl w
  · split
    · exact .refl w
    · split
      · exact .refl w
      · exact (closeMismatch_noticed e _ _ w).trans (.elsewhere rfl rfl)

theorem testRequirement_noticed (e : Env) (k : Stand) (c : JointCase) (closed : Bool) (w : Work) :
    Noticed w (testRequirement e k c closed w).1 := by
  unfold testRequirement
  split
  · exact .refl w
  · split
    · dsimp only
      split
      · exact (enterMark_noticed e _ _ _ w).trans (.elsewhere rfl rfl)
      · exact .elsewhere rfl rfl
    · exact .refl w

theorem openUnsuited_noticed (e : Env) (k : Stand) (c : JointCase) (handed : Bool) (w : Work) :
    Noticed w (openUnsuited e k c handed w) := by
  unfold openUnsuited
  dsimp only
  split
  · exact openAt_noticed e k _ w
  · exact .refl w

theorem mismatchAtJoint_noticed (e : Env) (k : Stand) (c : JointCase) (w : Work) :
    Noticed w (mismatchAtJoint e k c w) :=
  ((settleOpen_noticed e k c w).trans (testRequirement_noticed e k c _ _)).trans (openUnsuited_noticed e k c _ _)

theorem swapReels_noticed (e : Env) (k : Stand) (j : Word) (w : Work) : Noticed w (swapReels e k j w) := by
  unfold swapReels
  exact (evalLevel_noticed e k true _).after (.elsewhere rfl rfl)

theorem makeJoint_noticed (e : Env) (k : Stand) (j : Word) (estimated : Bool) (w : Work) :
    Noticed w (makeJoint e k j estimated w).1 := by
  have entered : Noticed w (enterJoint e k j estimated w).1 := enterMark_noticed e _ _ _ w
  unfold makeJoint
  rcases hx : enterJoint e k j estimated w with ⟨w1, tag⟩
  rw [hx] at entered
  dsimp only
  have swapped := entered.trans (swapReels_noticed e k j w1)
  exact ((swapped.trans (mismatchAtJoint_noticed e k _ _)).trans (requirementRule_noticed e k _)).trans
    (updStand_noticed _ k _)

theorem failSplice_noticed (e : Env) (k : Stand) (w : Work) : Noticed w (failSplice e k w) :=
  (Noticed.raised _ _ _ _).after (.elsewhere rfl rfl)

theorem standArrival_noticed (e : Env) (t : Pos) (j : Nat) (w : Work) (k : Stand) :
    Noticed w (standArrival e t j w k) := by
  unfold standArrival
  extract_lets r dealt w1
  split
  · exact .refl w
  · refine Noticed.trans ?_ (requirementRule_noticed e k w1)
    unfold w1
    split
    · split
      · exact (closeMismatch_noticed e _ t w).trans (.elsewhere rfl rfl)
      · exact .refl w
    · split
      · exact openAt_noticed e k t w
      · exact .refl w

theorem arrive_noticed (e : Env) (m : Mark) (w : Work) : Noticed w (arrive e m w) := by
  unfold arrive
  split
  · exact .refl w
  · have begun : ∀ j, Noticed w (runOrder e j w) := fun j => (extendChain_noticed e _).after (.elsewhere rfl rfl)
    exact (begun _).trans (foldl_noticed (fun w k => standArrival_noticed e _ _ w k) allStands _)

theorem evaluateAll_noticed (e : Env) (w : Work) : Noticed w (evaluateAll e w) :=
  evaluate_noticed (arrive_noticed e) e false _ none w

end Sys2Proof.Machine
end

section
/-! SUPPORT. The operations of the notice unit (`Noticed`) that the results of proposals, the settling of what an event owes, the
requests, the sheet unit and the commands are made of. Only POWER_ON_RESET and ALARM_CLEAR are made of others: the one starts from the
power-on values, and the other takes entries off the alarm record. -/

namespace Sys2Proof.Machine

/-! ## Records rewritten -/

theorem updTallies_noticed (w : Work) (tag : Nat) (f : Tallies → Tallies) : Noticed w (w.updTallies tag f) :=
  .elsewhere rfl rfl

theorem updProposal_noticed (w : Work) (tag : Nat) (f : Proposal → Proposal) : Noticed w (w.updProposal tag f) :=
  .elsewhere rfl rfl

theorem endProposal_noticed (w : Work) (tag : Nat) : Noticed w (w.endProposal tag) := .elsewhere rfl rfl

theorem giveUpAll_noticed (w : Work) (r : Role) : Noticed w (w.giveUpAll r) := .elsewhere rfl rfl

theorem dropOrder_noticed (w : Work) (tag : Nat) : Noticed w (w.dropOrder tag) := .elsewhere rfl rfl

/-! ## Proposals (R113 to R126) -/

theorem postProposal_noticed (e : Env) (tag g : Nat) (sc : Scope) (w : Work) (r : Role) :
    Noticed w (postProposal e tag g sc w r) := by
  unfold postProposal
  split
  · split
    · exact .posted _ _ _ _
    · exact .refl w
  · exact .refl w

theorem issue_noticed (e : Env) (old : Nat) (sc : Scope) (w : Work) : Noticed w (issue e old sc w) := by
  unfold issue
  split
  · exact .refl w
  · exact (foldl_noticed (postProposal_noticed e _ _ sc) [Role.dry, Role.wet] _).after (.elsewhere rfl rfl)

theorem postResult_noticed (e : Env) (p : Proposal) (r : Result) (n : Nat) (stalled : Bool) (w : Work) :
    Noticed w (postResult e p r n stalled w) := by
  unfold postResult
  split
  · exact .refl w
  · exact .posted _ _ _ _

theorem formResult_noticed (e : Env) (p : Proposal) (w : Work) : Noticed w (formResult e p w) := by
  unfold formResult
  extract_lets q r count w1 w2
  have formed : Noticed w w2 :=
    ((updProposal_noticed w p.tag _).trans (removeUntaken_noticed p.tag _)).trans
      (postResult_noticed e p r count false w1)
  split
  · exact formed.trans (issue_noticed e _ _ w2)
  · exact formed

theorem withdrawYounger_noticed (g : Nat) (w : Work) : Noticed w (withdrawYounger g w) :=
  foldl_noticed (fun w g => withdrawFor_noticed g w) _ w

theorem commitMark_noticed (e : Env) (g : Nat) (w : Work) : Noticed w (commitMark e g w) := by
  unfold commitMark
  split
  · exact .refl w
  · split
    · exact (evaluate_noticed (arrive_noticed e) e true _ _ _).after (.elsewhere rfl rfl)
    · exact .refl w

theorem effectCommitted_noticed (e : Env) (p : Proposal) (w : Work) : Noticed w (effectCommitted e p w) := by
  have committed := commitMark_noticed e p.changeTag w
  unfold effectCommitted
  dsimp only
  refine Noticed.trans (Noticed.trans ?_ (requirementRules_noticed e _)) (endProposal_noticed _ p.tag)
  split
  · exact committed.trans (.elsewhere rfl rfl)
  · exact committed

theorem effectRefused_noticed (e : Env) (p : Proposal) (w : Work) : Noticed w (effectRefused e p w) := by
  unfold effectRefused
  extract_lets w1 w2 w3
  have ended : Noticed w w3 := (withdrawYounger_noticed p.changeTag w).trans (.elsewhere rfl rfl)
  split
  · exact ended.trans (refusalHold_noticed e _ _ w3)
  · exact ended

theorem stall_noticed (e : Env) (p : Proposal) (n : Nat) (w : Work) : Noticed w (stall e p n w) := by
  unfold stall
  split
  · exact .refl w
  · have removed := (removeUntaken_noticed p.tag (w.updProposal p.tag fun x =>
      { x with status := .decided .refused true })).after (a := w) (.elsewhere rfl rfl)
    exact ((removed.trans (.raised _ _ _ _)).trans (postResult_noticed e p .refused n true _)).trans
      (effectRefused_noticed e p _)

theorem effectDeferred_noticed (e : Env) (p : Proposal) (w : Work) : Noticed w (effectDeferred e p w) := by
  unfold effectDeferred
  split
  · exact .elsewhere rfl rfl
  · next i _ _ =>
    have counted : Noticed w (countDeferral i p.changeTag (withdrawYounger p.changeTag w)) :=
      (withdrawYounger_noticed p.changeTag w).trans (.elsewhere rfl rfl)
    dsimp only
    split
    · exact counted.trans (stall_noticed e p _ _)
    · exact counted.trans ((moveAndAnnounce_noticed e i 1 _).after (.elsewhere rfl rfl))

theorem takeEffect_noticed {e : Env} {w w' : Work} (h : takeEffect e w = some w') : Noticed w w' := by
  unfold takeEffect at h
  repeat' split at h
  · cases h
  · exact Option.some.inj h ▸ effectCommitted_noticed e _ w
  · exact Option.some.inj h ▸ effectDeferred_noticed e _ w
  · exact Option.some.inj h ▸ effectRefused_noticed e _ w
  all_goals cases h

theorem guardMark_noticed (e : Env) (w : Work) (g : Nat) : Noticed w (guardMark e w g) := by
  unfold guardMark
  split
  · exact .refl w
  · split
    · exact .refl w
    · next i _ _ =>
      split
      · have counted : Noticed w (countDeferral i g (moveAndAnnounce e i 1 w)) :=
          (moveAndAnnounce_noticed e i 1 w).trans (.elsewhere rfl rfl)
        dsimp only
        split
        · split
          · exact counted.trans (stall_noticed e _ _ _)
          · exact counted
        · exact counted
      · exact .refl w

theorem retryWaiting_noticed (e : Env) (w : Work) : Noticed w (retryWaiting e w) := by
  unfold retryWaiting
  split
  · exact issue_noticed e _ _ w
  · exact .refl w

theorem firstIssue_noticed (e : Env) (m : Mark) (w : Work) : Noticed w (firstIssue e m w) := by
  unfold firstIssue
  split
  · exact .refl w
  · exact (issue_noticed e _ _ _).after (.elsewhere rfl rfl)

theorem dueTest_noticed (e : Env) (w : Work) : Noticed w (dueTest e w) := by
  have guarded : Noticed w (guardAll e { w with owed := { w.owed with due := false } }) :=
    (foldl_noticed (guardMark_noticed e) _ _).after (.elsewhere rfl rfl)
  have retried := guarded.trans (retryWaiting_noticed e _)
  rcases dueTest_cases e w _ rfl with ⟨_, hd⟩ | ⟨_, _, hd⟩ | ⟨m, _, _, hd⟩ <;> rw [hd]
  · exact retried.trans (.elsewhere rfl rfl)
  · exact retried
  · exact (retried.trans (firstIssue_noticed e m _)).trans (.elsewhere rfl rfl)

/-! ## Settling -/

theorem settleRound_noticed {e : Env} {w w' : Work} (h : settleRound e w = some w') : Noticed w w' := by
  unfold settleRound at h
  split at h
  · next ht =>
    cases h
    exact takeEffect_noticed ht
  · split at h
    · cases h
      exact formResult_noticed e _ w
    · split at h
      · cases h
        split
        · exact extendChain_noticed e w
        · exact .elsewhere rfl rfl
      · split at h
        · cases h
          exact dueTest_noticed e w
        · cases h

theorem settleLoop_noticed (e : Env) : ∀ (n : Nat) (w : Work), Noticed w (settleLoop e n w)
  | 0, w => .refl w
  | n + 1, w => by
    unfold settleLoop
    split
    · next hs => exact (settleRound_noticed hs).trans (settleLoop_noticed e n _)
    · exact .refl w

theorem settle_noticed (e : Env) (w : Work) : Noticed w (settle e w) := settleLoop_noticed e _ w

theorem proposalTest_noticed (e : Env) (w : Work) : Noticed w (proposalTest e w) :=
  (settle_noticed e _).after (.elsewhere rfl rfl)

/-! ## Bridges (R11, R12) -/

theorem raiseWhere_noticed (c : Bool) (e : Env) (k : AlarmKind) (x : Subject) (w : Work) :
    Noticed w (raiseWhere c e k x w) := by
  unfold raiseWhere
  split
  · exact .raised e k x w
  · exact .refl w

theorem setFill_noticed (e : Env) (k : Bridge) (v : Int) (always : Bool) (w : Work) :
    Noticed w (setFill e k v always w).2 := by
  rw [setFill_work]
  exact (((raiseWhere_noticed _ _ _ _ w).trans (raiseWhere_noticed _ _ _ _ _)).trans
    (raiseWhere_noticed _ _ _ _ _)).trans (raiseWhere_noticed _ _ _ _ _)

/-- Fills set one after another. -/
theorem foldl_fills_noticed {f : Env × Work → Bridge → Env × Work} (hf : ∀ x k, Noticed x.2 (f x k).2)
    (l : List Bridge) (e : Env) (w : Work) : Noticed w (l.foldl f (e, w)).2 :=
  List.foldlRecOn (motive := fun x => Noticed w x.2) l f (.refl w) fun x hx k _ => hx.trans (hf x k)

theorem acceptTable_noticed (e : Env) (t : LineTable) (w : Work) : Noticed w (acceptTable e t w).2 := by
  unfold acceptTable
  exact foldl_fills_noticed (f := refitFill) (fun x k => setFill_noticed x.1 k _ true x.2) allBridges _ w

theorem advanceFills_noticed (e : Env) (c : Encoder) (n : Nat) (w : Work) : Noticed w (advanceFills e c n w).2 := by
  unfold advanceFills
  exact foldl_fills_noticed (f := shiftFills c n) (fun x k => setFill_noticed x.1 k _ false x.2) allBridges _ w

/-! ## Requests -/

section
variable (p : Port) (e : Env) (w : Work) (body : List Byte)

theorem applyStatus_noticed : Noticed w (applyStatus p e w body).work := by
  unfold applyStatus
  split <;> exact .refl w

theorem applyPeek_noticed : Noticed w (applyPeek p e w body).work := by
  unfold applyPeek
  split <;> exact .refl w

/-- A notice is given where the taken stack has room (R152). -/
theorem offered_room {c : Code} {n : Notice} {b : List Byte} (h : offered e w p = (c, some n, b)) :
    w.notices.desks[p].taken.length < 4 := by
  unfold offered at h
  split at h
  · cases h
  · next room => exact Nat.lt_of_not_le room

theorem applyTake_noticed : Noticed w (applyTake p e w body).work := by
  unfold applyTake
  split
  · exact .refl w
  · split
    · next h => exact .took _ (offered_room p e w h)
    · exact .refl w

theorem applyDone_noticed : Noticed w (applyDone p e w body).work := by
  unfold applyDone
  split
  · exact .refl w
  · split
    · exact .refl w
    · exact (noticeGivenUp_noticed e _ w).trans (finishTaken_noticed e p _ _)

theorem applyFloor_noticed : Noticed w (applyFloor p e w body).work := by
  unfold applyFloor
  split
  · exact .refl w
  · split
    · exact .refl w
    · exact afterFloor_noticed _ p _ w

theorem applyLineTable_noticed : Noticed w (applyLineTable e w body).work := by
  unfold applyLineTable
  split
  · exact .refl w
  · split
    · exact .refl w
    · split
      · exact .refl w
      · exact acceptTable_noticed e _ w

theorem applyStationSet_noticed : Noticed w (applyStationSet e w body).work := by
  unfold applyStationSet stageAndApply
  repeat' split
  all_goals exact .elsewhere rfl rfl

theorem applyRecipeSet_noticed : Noticed w (applyRecipeSet e w body).work := by
  unfold applyRecipeSet
  repeat' split
  all_goals exact .refl w

theorem applyProfileSet_noticed : Noticed w (applyProfileSet e w body).work := by
  unfold applyProfileSet
  repeat' split
  all_goals exact .refl w

theorem applyClassSet_noticed : Noticed w (applyClassSet e w body).work := by
  unfold applyClassSet
  repeat' split
  all_goals exact .refl w

theorem applyRelaySet_noticed : Noticed w (applyRelaySet e w body).work := by
  unfold applyRelaySet
  repeat' split
  all_goals exact .refl w

theorem applyAlarmEnable_noticed : Noticed w (applyAlarmEnable e w body).work := by
  unfold applyAlarmEnable
  repeat' split
  all_goals exact .refl w

theorem openAll_noticed : Noticed w (openAll e w).2 := by
  unfold openAll
  dsimp only
  exact foldl_noticed (fun w _ => .reoffered _ w) allPorts w

theorem applyOpen_noticed : Noticed w (applyOpen e w body).work := by
  unfold applyOpen
  split
  · split
    · exact .refl w
    · split
      · exact .refl w
      · dsimp only
        split
        · exact .refl w
        · dsimp only [answerOk]
          exact openAll_noticed _ w
  · exact .refl w

/-- The first order of a run starts (R108). -/
theorem startRun_noticed (f : Nat) (m : Mark) : Noticed w (startRun e f m w).2 := by
  have begun : Noticed w (w.beginRun f m) := .elsewhere rfl rfl
  have passed := evaluate_noticed (arrive_noticed { e with run := .running }) { e with run := .running } true [m.entry]
    (some m.entry) (w.beginRun f m)
  unfold startRun
  dsimp only
  exact ((begun.trans passed).trans (requirementRules_noticed _ _)).trans (extendChain_noticed _ _)

theorem startWith_noticed (f g gap : Nat) : Noticed w (startWith e w f g gap).work := by
  have handed := handIn_noticed e (.change 0 f .committed false) (firstChange e g gap) 0 w
  unfold startWith
  dsimp only
  split
  · next hx =>
    rw [hx] at handed
    exact handed
  · next m hx =>
    rw [hx] at handed
    dsimp only
    exact (handed.trans (announceExtent_noticed e m _)).trans (startRun_noticed e _ f m)

theorem applyStart_noticed : Noticed w (applyStart e w body).work := by
  unfold applyStart
  split
  · exact .refl w
  · split
    · exact .refl w
    · split
      · exact .refl w
      · split
        · split
          · exact startWith_noticed e w _ _ _
          · exact .refl w
        · exact .refl w

theorem applyOrderAdd_noticed : Noticed w (applyOrderAdd e w body).work := by
  unfold applyOrderAdd
  split
  · exact .refl w
  · split
    · exact .refl w
    · split
      · unfold addOrder
        dsimp only
        split
        · exact (extendChain_noticed e _).after (.elsewhere rfl rfl)
        · exact (replan_noticed e _ _ _).after (.elsewhere rfl rfl)
      · exact .refl w

theorem withdrawOrder_noticed (o : Order) : Noticed w (withdrawOrder e o w) := by
  unfold withdrawOrder
  split
  · exact (extendChain_noticed e _).after (.elsewhere rfl rfl)
  · next m _ =>
    split
    · have left := (removeEnd_noticed e (some o) w).trans (removeLater_noticed e m.tag _)
      exact (left.trans (dropOrder_noticed _ o.tag)).trans (leadTo_noticed e m.tag _ _)
    · have left := removeChange_noticed (announce_noticed e) w m.tag
      exact (left.trans (dropOrder_noticed _ o.tag)).trans (extendChain_noticed e _)

theorem applyOrderWithdraw_noticed : Noticed w (applyOrderWithdraw e w body).work := by
  unfold applyOrderWithdraw
  split
  · exact .refl w
  · split
    · exact .refl w
    · split
      · exact withdrawOrder_noticed e w _
      · exact .refl w

theorem applyOrderRelease_noticed : Noticed w (applyOrderRelease e w body).work := by
  unfold applyOrderRelease
  split
  · exact .refl w
  · split
    · exact .refl w
    · exact .refl w
    · exact (extendChain_noticed e _).after (.elsewhere rfl rfl)

/-- LINE_RESET leaves no notice, and the alarm record as it is (R160). -/
theorem lineReset_noticed : Noticed w w.lineReset := by
  have empty : ∀ q : Port, w.lineReset.notices.desks[q] = ⟨[], []⟩ := fun q => by simp [Work.lineReset]
  refine .left ⟨fun q => ?_, fun q => ?_, List.nil_sublist _, rfl⟩ <;> rw [empty] <;> exact List.nil_sublist _

theorem applyLineReset_noticed : Noticed w (applyLineReset e w body).work := by
  unfold applyLineReset
  split
  · exact .refl w
  · exact lineReset_noticed w

theorem applyLogTake_noticed : Noticed w (applyLogTake e w body).work := by
  unfold applyLogTake
  repeat' split
  all_goals exact .elsewhere rfl rfl

theorem applyStandSet_noticed : Noticed w (applyStandSet e w body).work := by
  unfold applyStandSet
  split
  · exact .refl w
  · split
    · split
      · refine Noticed.trans (Noticed.trans ?_ (updStand_noticed _ _ _)) (evalFire_noticed _ false _ _)
        split
        · exact evalLevel_noticed _ _ false w
        · exact .refl w
      · exact .refl w
    · exact .refl w

/-- A stand rewritten, its level evaluated, and the fire conditions after it. -/
theorem evaluated_noticed (k : Stand) (fresh : Bool) (f : StandRec → StandRec) :
    Noticed w (evalFire e false k ((evalLevel e k fresh (w.updStand k f)).updStand k StandRec.rephase)) :=
  (((updStand_noticed w k f).trans (evalLevel_noticed e k fresh _)).trans (updStand_noticed _ k _)).trans
    (evalFire_noticed e false k _)

theorem applyReelLoad_noticed : Noticed w (applyReelLoad p e w body).work := by
  unfold applyReelLoad
  split
  · dsimp only
    split
    · exact .refl w
    · split
      · unfold loadReel
        dsimp only
        split
        · exact .refl w
        · split
          · exact evaluated_noticed _ w _ true _
          · exact (evalFire_noticed _ true _ _).after (.elsewhere rfl rfl)
      · exact .refl w
  · exact .refl w

theorem removeReady_noticed (k : Stand) : Noticed w (removeReady e k w) := by
  have removed := (evalFire_noticed e false k (w.updStand k fun r => { r with ready := none }.rephase)).after (a := w)
    (.elsewhere rfl rfl)
  unfold removeReady
  dsimp only
  split
  · exact removed.trans (.raised _ _ _ _)
  · exact removed

theorem applyReelRemove_noticed : Noticed w (applyReelRemove e w body).work := by
  unfold applyReelRemove
  split
  · split
    · unfold removeReel
      dsimp only
      split
      · exact .refl w
      · split
        · split
          · exact .refl w
          · exact removeReady_noticed e w _
        · split
          · exact .refl w
          · split
            · exact .refl w
            · exact evaluated_noticed e w _ false _
    · exact .refl w
  · exact .refl w

theorem applyDiameter_noticed : Noticed w (applyDiameter p e w body).work := by
  unfold applyDiameter
  split
  · split
    · unfold setDiameter
      split
      · exact evaluated_noticed _ w _ false _
      · exact .refl w
      · exact .refl w
    · exact .refl w
  · exact .refl w

theorem applyJoint_noticed : Noticed w (applyJoint e w body).work := by
  unfold applyJoint
  split
  · unfold reportJoint
    dsimp only
    split
    · exact (enterMark_noticed e _ _ _ _).after (.elsewhere rfl rfl)
    · exact makeJoint_noticed e _ _ _ w
  · exact .refl w

theorem applySpliceFail_noticed : Noticed w (applySpliceFail e w body).work := by
  unfold applySpliceFail
  split
  · split
    · exact failSplice_noticed e _ w
    · exact .refl w
  · exact .refl w

theorem applyStandEnable_noticed : Noticed w (applyStandEnable e w body).work := by
  unfold applyStandEnable
  split
  · split
    · exact (evalFire_noticed e _ _ _).after (.elsewhere rfl rfl)
    · exact .refl w
  · exact .refl w

theorem afterFill_noticed : Noticed w (afterFill e w) :=
  ((evaluateAll_noticed e w).trans (evalFires_noticed e _)).trans (proposalTest_noticed e _)

theorem applyBridgeSet_noticed : Noticed w (applyBridgeSet e w body).work := by
  unfold applyBridgeSet
  split
  · split
    · exact .refl w
    · dsimp only
      exact (setFill_noticed e _ _ true w).trans (afterFill_noticed _ _)
  · exact .refl w

theorem finishProposal_noticed (tag : Nat) : Noticed w (finishProposal e p tag w) :=
  (finishTaken_noticed e p (Notice.isProposal tag) w).trans (dropOffered_noticed p tag _)

theorem applyRespond_noticed : Noticed w (applyRespond p e w body).work := by
  unfold applyRespond
  split
  · split
    · unfold recordResponse
      dsimp only
      split
      · exact finishTaken_noticed e p _ w
      · split
        · exact (updProposal_noticed w _ _).trans (finishProposal_noticed p e _ _)
        · exact finishProposal_noticed p e w _
    · exact .refl w
  · exact .refl w

theorem applySetupDone_noticed : Noticed w (applySetupDone e w body).work := by
  unfold applySetupDone
  repeat' split
  all_goals exact .elsewhere rfl rfl

theorem recordDefect_noticed (i : StationIx) (st : Station) (a c cause : Nat) :
    Noticed w (recordDefect e w i st a c cause).work := by
  have told : ∀ x, Noticed w (reportEscape e i x w) := fun x => by
    unfold reportEscape
    split
    · exact .raised _ _ _ _
    · exact .refl w
  unfold recordDefect
  dsimp only
  split
  · exact told _
  · exact (told _).trans (enterDefect_noticed e _ _ _ _ _)

theorem applyDefect_noticed : Noticed w (applyDefect e w body).work := by
  unfold applyDefect
  split
  · exact .refl w
  · split
    · split
      · exact .refl w
      · split
        · exact .refl w
        · split
          · exact .refl w
          · exact recordDefect_noticed e w _ _ _ _ _
    · exact .refl w

end

/-- Every request but ALARM_CLEAR is made of operations of the notice unit. -/
theorem request_noticed (p : Port) {r : Request} (hr : r ≠ .alarmClear) (e : Env) (w : Work) (body : List Byte) :
    Noticed w (r.meaning p e w body).work := by
  cases r with
  | status => exact applyStatus_noticed p e w body
  | read => exact .refl w
  | peek => exact applyPeek_noticed p e w body
  | take => exact applyTake_noticed p e w body
  | done => exact applyDone_noticed p e w body
  | floor => exact applyFloor_noticed p e w body
  | lineTable => exact applyLineTable_noticed e w body
  | stationSet => exact applyStationSet_noticed e w body
  | recipeSet => exact applyRecipeSet_noticed e w body
  | profileSet => exact applyProfileSet_noticed e w body
  | classSet => exact applyClassSet_noticed e w body
  | relaySet => exact applyRelaySet_noticed e w body
  | alarmEnable => exact applyAlarmEnable_noticed e w body
  | alarmClear => exact absurd rfl hr
  | openPart => exact applyOpen_noticed e w body
  | start => exact applyStart_noticed e w body
  | orderAdd => exact applyOrderAdd_noticed e w body
  | orderWithdraw => exact applyOrderWithdraw_noticed e w body
  | orderRelease => exact applyOrderRelease_noticed e w body
  | lineReset => exact applyLineReset_noticed e w body
  | logTake => exact applyLogTake_noticed e w body
  | standSet => exact applyStandSet_noticed e w body
  | reelLoad => exact applyReelLoad_noticed p e w body
  | reelRemove => exact applyReelRemove_noticed e w body
  | diameter => exact applyDiameter_noticed p e w body
  | joint => exact applyJoint_noticed e w body
  | spliceFail => exact applySpliceFail_noticed e w body
  | standEnable => exact applyStandEnable_noticed e w body
  | bridgeSet => exact applyBridgeSet_noticed e w body
  | respond => exact applyRespond_noticed p e w body
  | setupDone => exact applySetupDone_noticed e w body
  | defect => exact applyDefect_noticed e w body

/-! ## The sheet unit (R133 to R137) -/

theorem closeStack_noticed (e : Env) (j : Nat) (w : Work) : Noticed w (closeStack e j w) := by
  unfold closeStack
  split
  · exact .refl w
  · exact (Noticed.posted e _ none _).after (.elsewhere rfl rfl)

theorem completionTest_noticed (e : Env) (j : Nat) (w : Work) : Noticed w (completionTest e j w) := by
  have completed : Noticed w (completeOrder e j w) := by
    unfold completeOrder
    split
    · exact .refl w
    · extract_lets w1 o1 w2 w3
      have closed : Noticed w w1 := by
        unfold w1
        split
        · exact closeStack_noticed e j w
        · exact .refl w
      have logged : Noticed w w2 := closed.trans (.elsewhere rfl rfl)
      have told : Noticed w w3 := logged.trans (.posted e (.order j) none w2)
      exact told.trans (.elsewhere rfl rfl)
  unfold completionTest
  split
  · exact .refl w
  · split
    · exact completed
    · exact .refl w

theorem departure_noticed (e : Env) (x : Sheet) (w : Work) : Noticed w (departure e x w) := by
  unfold departure
  extract_lets sheet w1 y w2
  have stacked : Noticed w y := .elsewhere rfl rfl
  have departed : Noticed w w2 := by
    unfold w2
    split
    · exact .elsewhere rfl rfl
    · split
      · split
        · exact stacked.trans (closeStack_noticed e _ y)
        · exact stacked
      · exact stacked
  exact departed.trans (completionTest_noticed e _ w2)

theorem gatePassage_noticed (e : Env) (x : Sheet) (w : Work) : Noticed w (gatePassage e x w) := by
  unfold gatePassage
  extract_lets sheet w1 w2
  have passed : Noticed w w2 := by
    unfold w2
    split
    · exact (pulse_noticed e 6 w1).after (.elsewhere rfl rfl)
    · exact .elsewhere rfl rfl
  exact (passed.trans (updTallies_noticed w2 _ _)).trans (announce_noticed e _)

theorem gateAndStacker_noticed (e : Env) (w : Work) (x : Sheet) : Noticed w (gateAndStacker e w x) := by
  unfold gateAndStacker
  extract_lets w1
  have passed : Noticed w w1 := by
    unfold w1
    split
    · split
      · exact gatePassage_noticed e _ w
      · exact .refl w
    · exact .refl w
  split
  · split
    · exact passed.trans (departure_noticed e _ w1)
    · exact passed
  · exact passed

theorem sheetAdvance_noticed (e : Env) (w : Work) : Noticed w (sheetAdvance e w) :=
  (foldl_noticed (gateAndStacker_noticed e) w.sheet.sheets w).trans (cutTest_noticed e none _)

/-! ## Commands -/

theorem applyHead_noticed (p : Port) {r : Request} (hr : r ≠ .alarmClear) (s : State) :
    Noticed s.work (applyHead p r (r.meaning p) s).work := by
  unfold applyHead
  split
  · exact .refl _
  · split
    · exact (request_noticed p hr _ _ _).trans (settle_noticed _ _)
    · exact .refl _

theorem advanceBlocks_noticed (e : Env) (c : Encoder) (w : Work) : Noticed w (advanceBlocks e c w) := by
  unfold advanceBlocks
  extract_lets w1 w2 w3 w4
  have checked : Noticed w w1 := by
    unfold w1
    split
    · exact .elsewhere rfl rfl
    · exact .refl w
  have extended : Noticed w2 w3 := by
    unfold w3
    split
    · exact extendChain_noticed e w2
    · exact .refl w2
  have tested : Noticed w w4 := ((checked.trans (evaluateAll_noticed e w1)).trans extended).trans
    ((standAdvance_noticed e c w3).trans (proposalTest_noticed e _))
  split
  · exact (tested.trans (sheetAdvance_noticed e w4)).trans (settle_noticed e _)
  · exact tested

theorem count_noticed (e : Env) (c : Encoder) (edge : Edge) (w : Work) : Noticed w (count e c edge w).2 := by
  unfold count
  dsimp only
  split
  · exact .refl w
  · split
    · split
      · exact .refl w
      · exact (advanceFills_noticed _ c _ w).trans (advanceBlocks_noticed _ c _)
    · dsimp only
      split
      · exact .raised _ _ _ _
      · exact .refl w
    · exact .refl w
    · exact .refl w

theorem confirmExpiry_noticed (e : Env) (k : Stand) (x : Snapshot) (w : Work) : Noticed w (confirmExpiry e k x w) := by
  have joined := makeJoint_noticed e k x.estimate true w
  unfold confirmExpiry
  split
  · exact failSplice_noticed e k w
  · exact joined
  · exact joined.trans (updStand_noticed _ k _)

theorem frameArrival_noticed (e : Env) (p : Port) (bytes : List Byte) (w : Work) :
    Noticed w (frameArrival e p bytes w).2 := by
  unfold frameArrival validArrival
  split
  · exact .refl w
  · dsimp only
    split
    · exact .refl w
    · exact .refl w
    · exact .reoffered _ w

theorem portDown_noticed (e : Env) (p : Port) (w : Work) : Noticed w (portDown e p w).2 := by
  unfold portDown
  dsimp only
  exact (emptyDesk_noticed _ p w).trans (giveUpAll_noticed _ _)

/-- Every command but POWER_ON_RESET and ALARM_CLEAR is made of operations of the notice unit. -/
theorem exec_noticed {c : Instr} {s t : State} (reset : ∀ x e1 e2 e3, c ≠ .powerOnReset x e1 e2 e3)
    (clear : ∀ p, c ≠ .alarmClear p) (hx : exec c s = .next t) : Noticed s.work t.work := by
  have request : ∀ p r, r ≠ .alarmClear → exec (Request.command p r) s = .next t → Noticed s.work t.work := by
    intro p r hr h
    rw [exec_command] at h
    cases h
    exact applyHead_noticed p hr s
  cases c with
  | powerOnReset x e1 e2 e3 => exact absurd rfl (reset x e1 e2 e3)
  | quadratureEdge c levels =>
    cases hx
    exact (count_noticed _ c _ _).trans (settle_noticed _ _)
  | speedPeriodClose =>
    simp only [exec, execSpeedPeriodClose] at hx
    cases hx
    exact (evalFires_noticed (closePeriod s.env) s.work).trans (proposalTest_noticed (closePeriod s.env) _)
  | cuePulseEnd k =>
    simp only [exec, execCuePulseEnd] at hx
    split at hx <;> cases hx <;> exact .elsewhere rfl rfl
  | confirmDeadlineExpiry k =>
    simp only [exec, execConfirmDeadlineExpiry] at hx
    split at hx <;> cases hx
    · exact (confirmExpiry_noticed _ k _ _).trans (settle_noticed _ _)
    · exact .refl _
    · exact .refl _
  | lateReportWindowEnd k =>
    simp only [exec, execLateReportWindowEnd] at hx
    split at hx <;> cases hx <;> exact .elsewhere rfl rfl
  | proposalDeadlineExpiry g =>
    simp only [exec, execProposalDeadlineExpiry] at hx
    split at hx
    · cases hx
      exact .refl _
    · split at hx <;> cases hx
      · exact (formResult_noticed _ _ _).trans (settle_noticed _ _)
      · exact .refl _
      · exact .refl _
  | reofferTimerExpiry =>
    cases hx
    exact (Noticed.reoffered _ _).trans (settle_noticed _ _)
  | receivedFrame p g bytes =>
    simp only [exec, execReceivedFrame] at hx
    split at hx
    · cases hx
      exact .refl _
    · split at hx <;> cases hx
      · exact .refl _
      · exact (frameArrival_noticed _ p bytes _).trans (settle_noticed _ _)
  | responseFrame p =>
    cases hx
    exact .refl _
  | portTimeout p =>
    simp only [exec, execPortTimeout] at hx
    split at hx <;> cases hx
    · exact (portDown_noticed _ p _).trans (settle_noticed _ _)
    · exact .refl _
  | status p => exact request p .status nofun hx
  | read p => exact request p .read nofun hx
  | peek p => exact request p .peek nofun hx
  | take p => exact request p .take nofun hx
  | done p => exact request p .done nofun hx
  | floor p => exact request p .floor nofun hx
  | lineTable p => exact request p .lineTable nofun hx
  | stationSet p => exact request p .stationSet nofun hx
  | recipeSet p => exact request p .recipeSet nofun hx
  | profileSet p => exact request p .profileSet nofun hx
  | classSet p => exact request p .classSet nofun hx
  | relaySet p => exact request p .relaySet nofun hx
  | alarmEnable p => exact request p .alarmEnable nofun hx
  | alarmClear p => exact absurd rfl (clear p)
  | openPart p => exact request p .openPart nofun hx
  | start p => exact request p .start nofun hx
  | orderAdd p => exact request p .orderAdd nofun hx
  | orderWithdraw p => exact request p .orderWithdraw nofun hx
  | orderRelease p => exact request p .orderRelease nofun hx
  | lineReset p => exact request p .lineReset nofun hx
  | logTake p => exact request p .logTake nofun hx
  | standSet p => exact request p .standSet nofun hx
  | reelLoad p => exact request p .reelLoad nofun hx
  | reelRemove p => exact request p .reelRemove nofun hx
  | diameter p => exact request p .diameter nofun hx
  | joint p => exact request p .joint nofun hx
  | spliceFail p => exact request p .spliceFail nofun hx
  | standEnable p => exact request p .standEnable nofun hx
  | bridgeSet p => exact request p .bridgeSet nofun hx
  | respond p => exact request p .respond nofun hx
  | setupDone p => exact request p .setupDone nofun hx
  | defect p => exact request p .defect nofun hx

/-! ## The capacities kept -/

theorem applyAlarmClear_noticeRoom (e : Env) {w : Work} (body : List Byte) (h : w.NoticeRoom) :
    (applyAlarmClear e w body).work.NoticeRoom := by
  have cleared : ∀ {a : AlarmRecord}, a.entries.Sublist w.alarms.entries →
      Work.NoticeRoom { w with alarms := a } := fun l => h.realarm rfl (h.record.sublist l)
  unfold applyAlarmClear
  split
  · exact h
  · exact cleared (List.nil_sublist _)
  · split
    · exact h
    · exact cleared List.filter_sublist
  · split
    · exact h
    · split
      · exact h
      · split
        · exact cleared List.filter_sublist
        · exact h

/-- Every command keeps the capacities of the notice unit and the alarm record. -/
theorem exec_noticeRoom {c : Instr} {s t : State} (h : s.work.NoticeRoom) (hx : exec c s = .next t) :
    t.work.NoticeRoom := by
  by_cases reset : ∃ x e1 e2 e3, c = .powerOnReset x e1 e2 e3
  · obtain ⟨x, e1, e2, e3, rfl⟩ := reset
    cases hx
    obtain ⟨_, room, _⟩ := resetIsWellKept
    have raised := foldl_noticed (fun w p => Noticed.raised (Straps.env x e1 e2 e3) .strapConflict (.port p) w)
      (Straps.conflicts x) Work.powerOn
    exact (raised.trans (settle_noticed _ _)).room room
  · by_cases clear : ∃ p, c = .alarmClear p
    · obtain ⟨p, rfl⟩ := clear
      cases hx
      unfold applyHead
      split
      · exact h
      · split
        · exact (settle_noticed _ _).room (applyAlarmClear_noticeRoom _ _ h)
        · exact h
    · exact (exec_noticed (fun x e1 e2 e3 hc => reset ⟨x, e1, e2, e3, hc⟩) (fun p hc => clear ⟨p, hc⟩) hx).room h

/-- Settles O54: a millisecond leaves the blocks alone, and every command keeps their capacities (`exec_noticeRoom`). -/
theorem noticeRoomKept : Obligations.NoticeRoomKept := by
  intro s t h hs
  unfold step at hs
  split at hs
  · cases hs
    exact h
  · next c rest _ => exact exec_noticeRoom (s := { s with pending := rest }) h hs

end Sys2Proof.Machine
end

section
/-! SUPPORT. FLOOR (R149, R150), and a valid frame at its port (R158, R163, R165, R169): what they make of the port and of the
return list. -/

namespace Sys2Proof.Machine

/-! ## FLOOR (R149, R150) -/

/-- The current floor of a port with an empty stack is its base floor (R149). -/
theorem currentFloor_empty {w : Work} {p : Port} (e : Env) (h : w.notices.desks[p].taken = []) :
    currentFloor e w p = e.baseFloors[p] := by
  simp only [currentFloor, h]

/-- With a notice taken the current floor is that notice's priority, whatever the base floor (R149). -/
theorem currentFloor_taken {w : Work} {p : Port} (e e' : Env) (h : w.notices.desks[p].taken ≠ []) :
    currentFloor e w p = currentFloor e' w p := by
  unfold currentFloor
  split
  · rfl
  · next none => exact absurd none h

/-- An environment with the base floor of a port replaced (R150). -/
def Env.setFloor (e : Env) (p : Port) (v : Nat) : Env := { e with baseFloors := e.baseFloors.set p v }

theorem Env.setFloor_floor (e : Env) (p : Port) (v : Nat) : (e.setFloor p v).baseFloors[p] = v := by
  simp [Env.setFloor]

/-- The current floor follows a new base floor where the stack is empty, and stays where it is not (R150). -/
theorem currentFloor_setFloor (e : Env) (w : Work) (p : Port) (v : Nat) :
    currentFloor (e.setFloor p v) w p = if w.notices.desks[p].taken = [] then v else currentFloor e w p := by
  split
  · next empty => rw [currentFloor_empty _ empty, Env.setFloor_floor]
  · next held => exact currentFloor_taken _ _ held

/-- A new base floor is a floor rise where the stack is empty and the value greater (R149). -/
theorem floor_rises_iff (e : Env) (w : Work) (p : Port) (v : Nat) :
    currentFloor e w p < currentFloor (e.setFloor p v) w p ↔
      w.notices.desks[p].taken = [] ∧ e.baseFloors[p] < v := by
  rw [currentFloor_setFloor]
  split
  · next empty => rw [currentFloor_empty e empty, and_iff_right empty]
  · next held => exact iff_of_false (lt_irrefl _) fun ⟨empty, _⟩ => held empty

theorem applyFloor_range {e : Env} {w : Work} {p : Port} {v : Byte} (h : 16 < v.toNat) :
    applyFloor p e w [v] = refuse .range e w := by
  simp only [applyFloor, getOne_byte, if_pos h]

/-- A FLOOR of a value up to 16 sets the base floor, and offers the return list again where the floor rises (R149, R150). -/
theorem applyFloor_ok {e : Env} {w : Work} {p : Port} {v : Byte} (h : v.toNat ≤ 16) :
    applyFloor p e w [v] = answerOk (e.setFloor p v.toNat)
      (if w.notices.desks[p].taken = [] ∧ e.baseFloors[p] < v.toNat then reoffer (e.setFloor p v.toNat) w else w) := by
  simp only [applyFloor, getOne_byte, if_neg (not_lt.mpr h), ← floor_rises_iff]
  rfl

/-- Settles O16: the floor by `currentFloor_setFloor`, the answers by `applyFloor_range` and `applyFloor_ok`. -/
theorem floorSets : Obligations.FloorSets := by
  intro s p q rest v head still e rises
  refine ⟨fun high => ?_, fun _ => currentFloor_setFloor (popped s.env p rest) s.work p v.toNat, fun low stays => ?_,
    fun low rise => ?_⟩
  · exact congrArg _ (applyHead_refused (applyFloor p) .range head still.atRest (applyFloor_range high))
  · refine congrArg _ (applyHead_calm (f := applyFloor p) head ?_ still)
    exact (applyFloor_ok low).trans (congrArg (answerOk e) (if_neg stays))
  · refine congrArg _ (applyHead_calm (f := applyFloor p) head ?_ ((reoffer_frame e s.work).calm still))
    exact (applyFloor_ok low).trans (congrArg (answerOk e) (if_pos rise))

/-! ## A valid frame (R163, R165, R169) -/

theorem exec_receivedFrame_unframed {p : Port} {bytes : List Byte} {s : State} (h : bytes ≠ [])
    (unframed : s.env.links[p].framed = false) :
    exec (.receivedFrame p false bytes) s =
      .next { s with env := s.env.updLink p fun l => { l with framed := true } } := by
  simp only [exec, execReceivedFrame, if_neg h, unframed, Bool.not_false, Bool.and_self, if_true]

/-- A valid frame of a framed port acts on the port's state first, and is then admitted or answered (R165, R169). -/
theorem exec_receivedFrame_valid {p : Port} {gap : Bool} {bytes : List Byte} {f : Frame} {s : State}
    (framed : s.env.links[p].framed = true ∨ gap = true) (read : readFrame bytes = some f) :
    let x := validArrival (s.env.updLink p fun l => { l with framed := true }) p s.work
    exec (.receivedFrame p gap bytes) s = .next (s.finish (x.1.updLink p fun l => l.receive x.1.partOpen f, x.2)) := by
  have nonempty : bytes ≠ [] := by
    rintro rfl
    cases read
  have counted : ¬(!s.env.links[p].framed && !gap) = true := by
    rcases framed with h | h <;> rw [h] <;> simp
  simp only [exec, execReceivedFrame, if_neg nonempty, if_neg counted, frameArrival, read]

section
variable {e : Env} {p : Port} (w : Work)

theorem validArrival_hold (h : e.links[p].state = .hold) : validArrival e p w = (e, w) := by
  simp only [validArrival, h]

theorem validArrival_opened (h : e.links[p].state = .opened) :
    validArrival e p w = (e.updLink p fun l => l.restart e.now, w) := by
  simp only [validArrival, h]

theorem validArrival_down (h : e.links[p].state = .down) :
    validArrival e p w = (e.updLink p (Link.openLink e.now), reoffer (e.updLink p (Link.openLink e.now)) w) := by
  simp only [validArrival, h]
  rfl

end

/-- Settles O11: each state of the port has its arrival (`validArrival_hold`, `validArrival_opened`, `validArrival_down`), and the
frame is then admitted or answered (`exec_receivedFrame_valid`). -/
theorem validFrame : Obligations.ValidFrame := by
  refine ⟨fun p bytes s => exec_receivedFrame_unframed, fun p gap bytes f s framed read still => ?_⟩
  intro l running opened
  have arrived := exec_receivedFrame_valid framed read
  have settled : ∀ {e w}, NoticeFrame s.work w → s.finish (e, w) = { s with env := e, work := w } := fun h => by
    rw [State.finish, settle_atRest _ _ (h.calm still).atRest]
  have here : (s.env.updLink p fun l => { l with framed := true }).links[p] = l := Env.updLink_self _ _ _
  refine ⟨fun isHold => ?_, fun isOpen => ?_, fun isDown => ?_⟩
  · rw [arrived, validArrival_hold _ (here ▸ isHold), settled (.refl _), Env.updLink_updLink]
    rfl
  · rw [arrived, validArrival_opened _ (here ▸ isOpen), settled (.refl _)]
    simp only [Env.updLink_updLink]
    rfl
  · rw [arrived, validArrival_down _ (here ▸ isDown), settled (reoffer_frame _ _)]
    simp only [Env.updLink_updLink]
    rfl

end Sys2Proof.Machine
end

section
/-! SUPPORT. OPEN (R158, R170), CLASS_SET (R148) and RELAY_SET (R155): what their bodies read as, what they refuse, and what they set. -/

namespace Sys2Proof.Machine

/-! ## OPEN (R170) -/

/-- A table of the four ports, by its entries. -/
theorem table_of_ports {α : Type} {v : Vector α 4} {f : Port → α} (h : ∀ x : Port, v[x] = f x) :
    v = #v[f 0, f 1, f 2, f 3] := by
  ext i hi
  have entry := h ⟨i, hi⟩
  interval_cases i <;> exact entry

/-- A timeout given other than 0 is the port's (R170). -/
theorem writeTimeout_eq (l : Link) (n : Nat) :
    l.writeTimeout n = { l with timeout := if n = 0 then l.timeout else n } := by
  unfold Link.writeTimeout
  split <;> rfl

theorem toList_of_ports (v : Vector Nat 4) : v.toList = [v[0], v[1], v[2], v[3]] :=
  congrArg Vector.toList (table_of_ports (f := fun x => v[x]) fun _ => rfl)

theorem all_timeoutOk_iff {v : Vector Nat 4} :
    v.toList.all timeoutOk = true ↔ ∀ x : Port, v[x] = 0 ∨ (100 ≤ v[x] ∧ v[x] ≤ 10000) := by
  rw [toList_of_ports]
  simp [timeoutOk_iff, Fin.forall_fin_succ]

section
variable {e : Env} {w : Work} {body : List Byte} {v : Vector Nat 4} (hb : exact (getNats [2, 2, 2, 2] body) = some v.toList)
include hb

/-- An OPEN that names a legal timeout or 0 for each port is refused while the part is UNCONFIGURED, and otherwise writes the
timeouts, and opens a part in HOLD (R170). -/
theorem applyOpen_eq :
    applyOpen e w body =
      if v.toList.all timeoutOk = true then
        if e.configured = true then
          if (writeTimeouts e v).partOpen = true then answerOk (writeTimeouts e v) w
          else answerOk (openAll (writeTimeouts e v) w).1 (openAll (writeTimeouts e v) w).2
        else refuse .state e w
      else refuse .range e w := by
  have entries : v = #v[v[0], v[1], v[2], v[3]] := table_of_ports (f := fun x => v[x]) fun _ => rfl
  rw [toList_of_ports] at hb ⊢
  simp only [applyOpen, hb, ← entries, Bool.not_eq_true', ← Bool.not_eq_true, ite_not]

theorem applyOpen_range (h : ¬∀ x : Port, v[x] = 0 ∨ (100 ≤ v[x] ∧ v[x] ≤ 10000)) :
    applyOpen e w body = refuse .range e w := by
  rw [applyOpen_eq hb, if_neg (mt all_timeoutOk_iff.mp h)]

section
variable (legal : ∀ x : Port, v[x] = 0 ∨ (100 ≤ v[x] ∧ v[x] ≤ 10000))
include legal

theorem applyOpen_unconfigured (h : e.configured = false) : applyOpen e w body = refuse .state e w := by
  rw [applyOpen_eq hb, if_pos (all_timeoutOk_iff.mpr legal), if_neg (by simp [h])]

theorem applyOpen_timeouts (h : e.configured = true) (opened : (writeTimeouts e v).partOpen = true) :
    applyOpen e w body = answerOk (writeTimeouts e v) w := by
  rw [applyOpen_eq hb, if_pos (all_timeoutOk_iff.mpr legal), if_pos h, if_pos opened]

theorem applyOpen_opens (h : e.configured = true) (closed : (writeTimeouts e v).partOpen = false) :
    applyOpen e w body = answerOk (openAll (writeTimeouts e v) w).1 (openAll (writeTimeouts e v) w).2 := by
  rw [applyOpen_eq hb, if_pos (all_timeoutOk_iff.mpr legal), if_pos h, if_neg (by simp [closed])]

end
end

/-- The four timeouts written. -/
theorem writeTimeouts_eq (e : Env) (v : Vector Nat 4) :
    let set (x : Port) : Link := { e.links[x] with timeout := if v[x] = 0 then e.links[x].timeout else v[x] }
    writeTimeouts e v = { e with links := #v[set 0, set 1, set 2, set 3] } := by
  intro set
  obtain ⟨rest, links⟩ := writeTimeouts_env e v
  rw [rest, table_of_ports (f := set) fun x => (links x).trans (writeTimeout_eq _ _)]

/-- The part opened with every port OPEN, and the return list offered again once for each (log entry 17). -/
theorem openAll_eq (e : Env) (w : Work) :
    let opened (x : Port) : Link := { e.links[x] with state := .opened, timer := some (e.now + e.links[x].timeout) }
    let e1 : Env := { e with partOpen := true, links := #v[opened 0, opened 1, opened 2, opened 3] }
    openAll e w = (e1, reoffer e1 (reoffer e1 (reoffer e1 (reoffer e1 w)))) := by
  intro opened e1
  obtain ⟨rest, links⟩ := openAll_env e w
  have env : (openAll e w).1 = e1 := by rw [rest, table_of_ports (f := opened) links]
  clear_value e1
  subst env
  simp only [openAll, allPorts, List.foldl_cons, List.foldl_nil]

/-- Settles O25: the answers by `applyOpen_range`, `applyOpen_unconfigured`, `applyOpen_timeouts` and `applyOpen_opens`, what they
set by `writeTimeouts_eq` and `openAll_eq`. -/
theorem openRequest : Obligations.OpenRequest := by
  intro s p q rest body v head hb still legal e set
  have written : writeTimeouts e v = { e with links := #v[set 0, set 1, set 2, set 3] } := writeTimeouts_eq e v
  have hold : (writeTimeouts e v).partOpen = s.env.partOpen := by rw [written]; rfl
  refine ⟨fun illegal => ?_, fun ok off => ?_, fun ok on opened => ?_, fun ok on closed => ?_⟩
  · exact congrArg _ (applyHead_refused applyOpen .range head still.atRest (applyOpen_range hb illegal))
  · exact congrArg _ (applyHead_refused applyOpen .state head still.atRest (applyOpen_unconfigured hb ok off))
  · have answer : applyOpen e s.work body = _ := applyOpen_timeouts hb ok on (hold.trans opened)
    rw [written] at answer
    exact congrArg _ (applyHead_calm (f := applyOpen) head answer still)
  · intro opened e1
    have all : openAll (writeTimeouts e v) s.work =
        (e1, reoffer e1 (reoffer e1 (reoffer e1 (reoffer e1 s.work)))) := by
      rw [written]
      exact openAll_eq _ _
    have answer : applyOpen e s.work body = _ := applyOpen_opens hb ok on (hold.trans closed)
    rw [all] at answer
    dsimp only at answer
    clear_value e1
    have again : ∀ w : Work, w.calm → (reoffer e1 w).calm := fun w => (reoffer_frame e1 w).calm
    exact congrArg _ (applyHead_calm (f := applyOpen) head answer (again _ (again _ (again _ (again _ still)))))

/-! ## CLASS_SET (R148) -/

theorem getClassSet_priority (n v : Byte) : getClassSet [n, v, 0] = some (n.toNat, v.toNat, none) := by
  simp [getClassSet, getNats, getNat]

theorem getClassSet_delivery (n v k r : Byte) :
    getClassSet [n, v, 1, k, r] = some (n.toNat, v.toNat, some (k.toNat, r.toNat)) := by
  simp [getClassSet, getNats, getNat]

theorem classOf_index {n : Nat} {c : NoticeClass} (h : classOf n = some c) : n = c.index.val := by
  unfold classOf at h
  split at h <;> cases h <;> rfl

theorem roleOf_none {r : Nat} (h : 4 ≤ r) : roleOf r = none := by
  unfold roleOf
  split
  · omega
  · omega
  · omega
  · omega
  · rfl

/-- The classes that are delivered by their source are the three lowest (R148). -/
theorem sourced_of_index_lt {c : NoticeClass} (h : c.index.val < 3) : c ∈ [.splice, .proposal, .station] := by
  revert h
  cases c <;> decide

/-- The deliveries that no class is given, and those that a class delivered by its source is not given (R148). -/
theorem deliveryFor_none {c : NoticeClass} {k r : Nat} (old : ClassDelivery)
    (h : c ∈ [.splice, .proposal, .station] ∨ 2 ≤ k ∨ 4 ≤ r) : deliveryFor c old (some (k, r)) = none := by
  unfold deliveryFor
  dsimp only
  split
  · rfl
  · next free =>
    rcases h with h | h | h
    · exact absurd (by simpa using h) free
    · split
      · omega
      · omega
      · rfl
    · rw [roleOf_none h]
      split
      · contradiction
      · contradiction
      · rfl

section
variable {c : NoticeClass} {r : Nat} {role : Role} (old : ClassDelivery) (free : c ∉ [.splice, .proposal, .station])
  (hr : roleOf r = some role)
include free hr

theorem deliveryFor_directed : deliveryFor c old (some (0, r)) = some (.directed role) := by
  simp only [deliveryFor, hr]
  exact if_neg (by simpa using free)

theorem deliveryFor_relayed : deliveryFor c old (some (1, r)) = some (.relayed role) := by
  simp only [deliveryFor, hr]
  exact if_neg (by simpa using free)

end

section
variable {e : Env} {w : Work} {body : List Byte} {n v : Nat} {given : Option (Nat × Nat)}
  (hb : getClassSet body = some (n, v, given))
include hb

theorem applyClassSet_range
    (h : ∀ c, classOf n = some c → deliveryFor c e.classes[c.index].delivery given = none) :
    applyClassSet e w body = refuse .range e w := by
  simp only [applyClassSet, hb]
  split
  · rfl
  · next c hc => rw [h c hc]

/-- A class entry replaced, its priority held at 15 at most. -/
theorem applyClassSet_ok {c : NoticeClass} {d : ClassDelivery} (hc : classOf n = some c)
    (hd : deliveryFor c e.classes[c.index].delivery given = some d) :
    applyClassSet e w body =
      ⟨.ok, putClassEntry ⟨min v 15, d⟩, { e with classes := e.classes.set c.index ⟨min v 15, d⟩ }, w⟩ := by
  simp only [applyClassSet, hb, hc, hd, heldPriority]

end

/-! ## RELAY_SET (R155) -/

theorem getMany_bytes (tail : List Byte) : ∀ l : List Byte,
    getMany (getNat 1) l.length (l ++ tail) = some (l.map BitVec.toNat, tail)
  | [] => rfl
  | b :: l => by
    rw [List.length_cons, List.cons_append, getMany, getNat_byte]
    dsimp only
    rw [getMany_bytes tail l]
    rfl

theorem getRelaySet_list {ports : List Byte} {k : Nat} (stop : Byte) (hk : k = ports.length) (small : k < 256) :
    getRelaySet (BitVec.ofNat 8 k :: ports ++ [stop]) = some (ports.map BitVec.toNat, stop.toNat) := by
  have count : (BitVec.ofNat 8 k).toNat = ports.length := by
    rw [BitVec.toNat_ofNat, Nat.mod_eq_of_lt small, hk]
  simp only [getRelaySet, getList, List.cons_append, getNat_byte, count, getMany_bytes, getOne_byte, Option.map_some]

theorem mapM_portOf_val : ∀ ports : List Port, (ports.map Fin.val).mapM portOf = some ports
  | [] => rfl
  | x :: ports => by
    rw [List.map_cons, List.mapM_cons, portOf_eq_some.mpr rfl, mapM_portOf_val ports]
    rfl

/-- The ring that a list of ports makes (R155). -/
theorem ringOf_ports {ports : List Port} {stop : Port} (nonempty : 1 ≤ ports.length) (distinct : ports.Nodup)
    (listed : stop ∈ ports) : ringOf (ports.map Fin.val) stop.val = some ⟨ports, stop⟩ := by
  have size : ports.length ≤ 4 := distinct.length_le_card
  have accepted : (inRange (1, 4) (ports.map Fin.val).length && decide (ports.map Fin.val).Nodup &&
      (ports.map Fin.val).contains stop.val) = true := by
    simp [inRange, nonempty, size, distinct.map Fin.val_injective, Fin.val_inj, listed]
  simp only [ringOf, if_pos accepted, mapM_portOf_val, portOf_eq_some.mpr rfl]

/-- A ring is made of the ports that its list and its stop name. -/
theorem ringOf_names {l : List Nat} {stop : Nat} {r : Ring} (h : ringOf l stop = some r) :
    l = r.ports.map Fin.val ∧ stop = r.stop.val := by
  unfold ringOf at h
  split at h
  · split at h
    · next hp hq =>
      obtain rfl := Option.some.inj h
      exact ⟨mapM_portOf hp, portOf_eq_some.mp hq⟩
    · cases h
  · cases h

/-- An empty list, a port above 3, a port named twice, and a stop that is not listed make no ring (R155). -/
theorem ringOf_none {ports : List Byte} {stop : Byte}
    (h : ports = [] ∨ (∃ x ∈ ports, 4 ≤ x.toNat) ∨ ¬ports.Nodup ∨ stop ∉ ports) :
    ringOf (ports.map BitVec.toNat) stop.toNat = none := by
  refine Option.eq_none_iff_forall_ne_some.mpr fun r made => ?_
  obtain ⟨⟨nonempty, _⟩, distinct, listed⟩ := ringOf_ok made
  obtain ⟨names, named⟩ := ringOf_names made
  rcases h with rfl | ⟨x, hx, high⟩ | twice | unlisted
  · rw [List.map_eq_nil_iff.mp names.symm] at nonempty
    cases nonempty
  · have hx : x.toNat ∈ r.ports.map Fin.val := names ▸ List.mem_map_of_mem hx
    obtain ⟨y, _, hy⟩ := List.mem_map.mp hx
    omega
  · have nodup : (ports.map BitVec.toNat).Nodup := names ▸ distinct.map Fin.val_injective
    exact twice (nodup.of_map _)
  · have hs : stop.toNat ∈ ports.map BitVec.toNat := by
      rw [names, named]
      exact List.mem_map_of_mem listed
    obtain ⟨y, hy, same⟩ := List.mem_map.mp hs
    exact unlisted (BitVec.eq_of_toNat_eq same ▸ hy)

section
variable {e : Env} {w : Work} {body : List Byte} {l : List Nat} {stop : Nat} (hb : getRelaySet body = some (l, stop))
include hb

theorem applyRelaySet_range (h : ringOf l stop = none) : applyRelaySet e w body = refuse .range e w := by
  simp only [applyRelaySet, hb, h]

theorem applyRelaySet_ok {r : Ring} (h : ringOf l stop = some r) :
    applyRelaySet e w body = ⟨.ok, [], { e with ring := r }, w⟩ := by
  simp only [applyRelaySet, hb, h, answerOk]

end

/-- Settles O22: CLASS_SET by `deliveryFor_none`, `deliveryFor_directed` and `deliveryFor_relayed`, RELAY_SET by `ringOf_none` and
`ringOf_ports`. -/
theorem classAndRing : Obligations.ClassAndRing := by
  intro s p q rest still set
  have refused : ∀ {r : Request} {body : List Byte} {f : Env → Work → List Byte → Answer}, HeadOf s p q rest r body →
      f (popped s.env p rest) s.work body = refuse .range (popped s.env p rest) s.work →
      Host.Outcome.next (applyHead p r f s) = (.next (refusedState s p q rest .range) :
        Host.Outcome State Fault Refusal) := fun head hf => congrArg _ (applyHead_refused _ _ head still hf)
  have classSet : ∀ {body : List Byte} {n v : Nat} {given : Option (Nat × Nat)} {c : NoticeClass} {d : ClassDelivery},
      HeadOf s p q rest .classSet body → getClassSet body = some (n, v, given) → classOf n = some c →
      deliveryFor c s.env.classes[c.index].delivery given = some d →
      exec (.classSet p) s = .next (set c ⟨min v 15, d⟩) := fun head hb hc hd =>
    congrArg _ (applyHead_applied head (applyClassSet_ok hb hc hd) still)
  refine ⟨fun n v c head hc => classSet head (getClassSet_priority n v) hc rfl, fun n v k r head =>
    ⟨fun bad => ?_, fun c role hc hr => ⟨fun sourced => ?_, fun free hk => ?_, fun free hk => ?_⟩⟩,
    fun n v head high => ?_, fun ports stop small head bad => ?_, fun ports stop head nonempty distinct listed => ?_⟩
  · refine refused head (applyClassSet_range (getClassSet_delivery n v k r) fun c hc => deliveryFor_none _ ?_)
    have index := classOf_index hc
    rcases bad with high | low | kind | role
    · omega
    · exact .inl (sourced_of_index_lt (index ▸ low))
    · exact .inr (.inl kind)
    · exact .inr (.inr role)
  · refine refused head (applyClassSet_range (getClassSet_delivery n v k r) fun c' hc' => deliveryFor_none _ (.inl ?_))
    exact Option.some.inj (hc'.symm.trans hc) ▸ sourced
  · subst hk
    exact classSet head (getClassSet_delivery n v 0 r) hc (deliveryFor_directed _ free hr)
  · subst hk
    exact classSet head (getClassSet_delivery n v 1 r) hc (deliveryFor_relayed _ free hr)
  · refine refused head (applyClassSet_range (getClassSet_priority n v) fun c hc => ?_)
    have index := classOf_index hc
    omega
  · exact refused head (applyRelaySet_range (getRelaySet_list stop rfl small) (ringOf_none bad))
  · have size : ports.length ≤ 4 := distinct.length_le_card
    have number : ∀ x : Port, (BitVec.ofNat 8 x.val).toNat = x.val := fun x =>
      (BitVec.toNat_ofNat _ _).trans (Nat.mod_eq_of_lt (x.isLt.trans (by decide)))
    have read := getRelaySet_list (ports := ports.map fun x : Port => BitVec.ofNat 8 x.val) (BitVec.ofNat 8 stop.val)
      (List.length_map _).symm (size.trans_lt (by decide))
    have names : (ports.map fun x : Port => BitVec.ofNat 8 x.val).map BitVec.toNat = ports.map Fin.val := by
      rw [List.map_map]
      exact List.map_congr_left fun x _ => number x
    rw [names, number stop] at read
    exact congrArg _ (applyHead_applied head (applyRelaySet_ok read (ringOf_ports nonempty distinct listed)) still)

end Sys2Proof.Machine
end

section
/-! SUPPORT. The alarm record through every operation of the notice unit (`Noticed`): no entry leaves it, and no count falls (R172). -/

namespace Sys2Proof.Machine

theorem finishPlace_alarms (e : Env) (x : Work × Option Notice) : AlarmsKept x.1.alarms (finishPlace e x).alarms := by
  have recorded := afterPlace_alarms e x
  unfold finishPlace
  split
  · next hw =>
    rw [hw] at recorded
    exact recorded
  · next hw =>
    rw [hw] at recorded
    exact recorded.trans (post_alarms e _ none _)

/-- A notice given back leaves the record as it is, but for the NOTICE_LOST that a drop logs (R157, R159). -/
theorem giveBack_alarms (e : Env) (p : Port) (w : Work) (n : Notice) : AlarmsKept w.alarms (giveBack e p w n).alarms := by
  have placed : ∀ x : Work × Option Notice, x.1.alarms = w.alarms → AlarmsKept w.alarms (finishPlace e x).alarms :=
    fun x hx => hx ▸ finishPlace_alarms e x
  unfold giveBack
  split
  · exact placed _ (enterReturn_alarms n (w.undesk p n.tag))
  · exact placed _ (walkFrom_alarms e n _ _ _ (w.undesk p n.tag))

/-- Every operation of the notice unit keeps the alarm record. -/
theorem Noticed.alarms {w w' : Work} (h : Noticed w w') : AlarmsKept w.alarms w'.alarms := by
  induction h with
  | left l => exact l.alarms ▸ .refl _
  | posted e b source w => exact post_alarms e b source w
  | raised e k s w => exact raiseAlarm_kept e k s w
  | reoffered e w => exact (reoffer_reoffered e w).alarms ▸ .refl _
  | gaveBack e p w n => exact giveBack_alarms e p w n
  | took n room => exact .refl _
  | trans h g ih ig => exact ih.trans ig

/-- Settles O60: every command but the two is made of operations of the notice unit (`exec_noticed`), each of which keeps the
record (`Noticed.alarms`); no count that it keeps is above 255. -/
theorem alarmsStayUntilCleared : Obligations.AlarmsStayUntilCleared := by
  intro c s t room reset clear hx x held
  obtain ⟨y, hy, kind, subject, _, count⟩ := (exec_noticed reset clear hx).alarms.entries x held
  obtain ⟨_, _, high⟩ := room.flagged x held
  exact ⟨y, hy, kind, subject, (Nat.min_eq_left high).symm.trans_le count⟩

end Sys2Proof.Machine
end

section
/-! SUPPORT. Numbers as they are written and read (R164), request frames (R162, R163): which bytes are one, what it reads as, and what
a discarded one changes. -/

namespace Sys2Proof.Machine

/-! ## Numbers (R164) -/

/-- The most significant byte of a number stands first. -/
theorem putNat_succ (n v : Nat) : putNat (n + 1) v = BitVec.ofNat 8 (v / 256 ^ n) :: putNat n v :=
  congrArg (· :: putNat n v) (BitVec.ofInt_natCast 8 (v / 256 ^ n))

@[simp] theorem length_putNat : ∀ n v : Nat, (putNat n v).length = n
  | 0, _ => rfl
  | n + 1, v => by rw [putNat_succ, List.length_cons, length_putNat n v]

/-- A number's `k` low bytes are those of its rest by a power of 256 that covers them. -/
theorem putNat_mod (v : Nat) {n : Nat} : ∀ {k : Nat}, k ≤ n → putNat k (v % 256 ^ n) = putNat k v
  | 0, _ => rfl
  | k + 1, h => by
    have low : BitVec.ofNat 8 (v % 256 ^ n / 256 ^ k) = BitVec.ofNat 8 (v / 256 ^ k) := by
      obtain ⟨d, rfl⟩ := Nat.exists_eq_add_of_le h
      apply BitVec.eq_of_toNat_eq
      rw [BitVec.toNat_ofNat, BitVec.toNat_ofNat, Nat.add_assoc, Nat.pow_add, Nat.mod_mul_right_div_self, Nat.pow_add]
      exact Nat.mod_mul_right_mod _ _ _
    rw [putNat_succ, putNat_succ, low, putNat_mod v (Nat.le_of_succ_le h)]

/-- A number is read as it is written, and what follows it is left. -/
theorem getNat_putNat (rest : List Byte) : ∀ {n v : Nat}, v < 256 ^ n → getNat n (putNat n v ++ rest) = some (v, rest)
  | 0, v, h => by
    obtain rfl : v = 0 := Nat.lt_one_iff.mp h
    rfl
  | n + 1, v, h => by
    have low : v % 256 ^ n < 256 ^ n := Nat.mod_lt _ (Nat.pow_pos (by decide))
    have high : v / 256 ^ n < 256 := Nat.div_lt_of_lt_mul (by rwa [← Nat.pow_succ])
    have byte : (BitVec.ofNat 8 (v / 256 ^ n)).toNat = v / 256 ^ n := by
      rw [BitVec.toNat_ofNat, Nat.mod_eq_of_lt high]
    rw [putNat_succ, ← putNat_mod v le_rfl, List.cons_append, getNat, getNat_putNat rest low]
    dsimp only
    rw [byte, Nat.div_add_mod']

/-! ## Request frames (R162, R163) -/

@[simp] theorem length_crcBytes (bytes : List Byte) : (crcBytes bytes).length = 2 := rfl

/-- The bytes that a frame is read from, and the fields that are read (R162, R163). -/
theorem readFrame_eq_some_iff {bytes : List Byte} {f : Frame} :
    readFrame bytes = some f ↔ ∃ kind tag flags n rest,
      bytes = 0xD3#8 :: kind :: tag :: flags :: n :: rest ∧
      (n.toNat ≤ 120 ∧ rest.length = n.toNat + 2 ∧
        rest.drop n.toNat = crcBytes (kind :: tag :: flags :: n :: rest.take n.toNat)) ∧
      f = ⟨kind, tag, flags.getLsbD 0, rest.take n.toNat⟩ := by
  constructor
  · intro read
    unfold readFrame at read
    split at read
    · next sync kind tag flags n rest =>
      dsimp only at read
      split at read
      · next valid =>
        obtain ⟨rfl, valid⟩ := valid
        exact ⟨kind, tag, flags, n, rest, rfl, valid, (Option.some.inj read).symm⟩
      · cases read
    · cases read
  · rintro ⟨kind, tag, flags, n, rest, rfl, valid, rfl⟩
    exact if_pos ⟨rfl, valid⟩

/-- A frame is read from the bytes that a controller writes of its fields (R162). -/
theorem readFrame_writeRequest (kind tag flags : Byte) {body : List Byte} (short : body.length ≤ 120) :
    readFrame (writeRequest kind tag flags body) = some ⟨kind, tag, flags.getLsbD 0, body⟩ := by
  have count : (BitVec.ofNat 8 body.length).toNat = body.length := by
    rw [BitVec.toNat_ofNat, Nat.mod_eq_of_lt (short.trans_lt (by decide))]
  refine readFrame_eq_some_iff.mpr ⟨kind, tag, flags, BitVec.ofNat 8 body.length, _, rfl, ?_, ?_⟩
  · simp [count, short]
  · simp [count]

/-- A frame that is read was written of its fields (R162, R163). -/
theorem writeRequest_of_readFrame {bytes : List Byte} {f : Frame} (read : readFrame bytes = some f) :
    f.body.length ≤ 120 ∧ ∃ flags, bytes = writeRequest f.kind f.tag flags f.body ∧ f.post = flags.getLsbD 0 := by
  obtain ⟨kind, tag, flags, n, rest, rfl, ⟨short, size, crc⟩, rfl⟩ := readFrame_eq_some_iff.mp read
  have count : (rest.take n.toNat).length = n.toNat := List.length_take_of_le (size ▸ Nat.le_add_right _ 2)
  refine ⟨count.trans_le short, flags, ?_, rfl⟩
  simp only [writeRequest, count, BitVec.ofNat_toNat, BitVec.setWidth_eq, ← crc, List.cons_append, List.take_append_drop]

/-- Settles O9: frames by `readFrame_writeRequest` and `writeRequest_of_readFrame`, numbers by `putNat_succ`, `putNat_mod` and
`getNat_putNat`. -/
theorem requestFramesRoundTrip : Obligations.RequestFramesRoundTrip := by
  refine ⟨fun kind tag flags body => readFrame_writeRequest kind tag flags, fun bytes f => writeRequest_of_readFrame,
    fun v => rfl, fun n v _ => ?_, fun n v rest small => ⟨length_putNat n v, getNat_putNat rest small⟩⟩
  rw [putNat_succ, putNat_mod v le_rfl]

/-! ## A discarded frame (R163, R175) -/

/-- The bytes between two gaps arrive at a framed port as one frame, valid or not (R163, R175). -/
theorem exec_receivedFrame_framed {p : Port} {gap : Bool} {bytes : List Byte} {s : State} (nonempty : bytes ≠ [])
    (framed : s.env.links[p].framed = true ∨ gap = true) :
    exec (.receivedFrame p gap bytes) s =
      .next (s.finish (frameArrival (s.env.updLink p fun l => { l with framed := true }) p bytes s.work)) := by
  have ignored : (!s.env.links[p].framed && !gap) = false := by
    rcases framed with h | h
    · rw [h, Bool.not_true, Bool.false_and]
    · rw [h, Bool.not_true, Bool.and_false]
  simp only [exec, execReceivedFrame, if_neg nonempty, ignored, Bool.false_eq_true, if_false]

/-- A frame that is not valid is counted, and changes nothing else (R163). -/
theorem frameArrival_discarded {bytes : List Byte} (bad : readFrame bytes = none) (e : Env) (p : Port) (w : Work) :
    frameArrival e p bytes w = (e.updLink p Link.frameError, w) := by
  simp only [frameArrival, bad]

/-- Settles O8: which bytes are a frame by `readFrame_eq_some_iff`, a discarded one by `frameArrival_discarded`. -/
theorem frameValidity : Obligations.FrameValidity := by
  refine ⟨fun bytes => ?_, fun p gap bytes s nonempty framed bad still => ?_⟩
  · rw [Option.isSome_iff_exists]
    constructor
    · rintro ⟨f, read⟩
      obtain ⟨kind, tag, flags, n, rest, rfl, ⟨short, size, crc⟩, _⟩ := readFrame_eq_some_iff.mp read
      refine ⟨kind, tag, flags, n, rest, rfl, short, ?_, crc⟩
      simp only [List.length_cons, size]
      omega
    · rintro ⟨kind, tag, flags, n, rest, rfl, short, size, crc⟩
      refine ⟨_, readFrame_eq_some_iff.mpr ⟨kind, tag, flags, n, rest, rfl, ⟨short, ?_, crc⟩, rfl⟩⟩
      simp only [List.length_cons] at size
      omega
  · rw [exec_receivedFrame_framed nonempty framed, frameArrival_discarded bad, Env.updLink_updLink, State.finish,
      settle_atRest _ _ still]
    rfl

end Sys2Proof.Machine
end

section
/-! SUPPORT. A valid frame's checks (R165, section 10.3), the answer to an applied request (R167, R168), and the response frame that
sends it (R162, R167). -/

namespace Sys2Proof.Machine

/-! ## The request that a kind byte names (R164) -/

theorem mem_allRequests (r : Request) : r ∈ allRequests := by
  cases r <;> decide

/-- No two requests have the same kind byte. -/
theorem kind_injective {r r' : Request} (h : r.kind = r'.kind) : r = r' := by
  have distinct : ∀ x ∈ allRequests, ∀ y ∈ allRequests, x.kind = y.kind → x = y := by decide
  exact distinct r (mem_allRequests r) r' (mem_allRequests r') h

theorem ofKind_kind (r : Request) : Request.ofKind r.kind = some r := by
  have found : (Request.ofKind r.kind).isSome = true :=
    List.find?_isSome.mpr ⟨r, mem_allRequests r, beq_self_eq_true r.kind⟩
  obtain ⟨x, hx⟩ := Option.isSome_iff_exists.mp found
  have same : x.kind = r.kind := by simpa using List.find?_some hx
  rw [hx, kind_injective same]

theorem ofKind_none {b : Byte} (h : ∀ r : Request, r.kind ≠ b) : Request.ofKind b = none :=
  List.find?_eq_none.mpr fun r _ => by simpa using h r

/-! ## The checks on a valid frame (R165) -/

section
variable {l : Link} {f : Frame} (partOpen : Bool)

/-- A fifth outstanding request is an overrun (R165). -/
theorem receive_overrun (full : 4 ≤ l.slots.length) :
    l.receive partOpen f = { l with overruns := min (l.overruns + 1) 255 } := if_pos full

variable (room : l.slots.length < 4)
include room

theorem receive_unknown (h : ∀ r : Request, r.kind ≠ f.kind) : l.receive partOpen f = l.answerAt f.tag .range := by
  have free : ¬Config.outstandingLimit ≤ l.slots.length := Nat.not_le.mpr room
  simp only [Link.receive, if_neg free, ofKind_none h]

/-- The checks on a request of a known kind, in their order (R165). -/
theorem receive_known {r : Request} (h : r.kind = f.kind) :
    l.receive partOpen f =
      if r.permitted l.role = false then l.answerAt f.tag .denied
      else if partOpen = false ∧ r.inHold l.role = false then l.answerAt f.tag .hold
      else if l.freeEntries < entriesNeeded f.body.length then
        { l.answerAt f.tag .retry with retries := sat65535 l.retries }
      else l.enqueue r f := by
  have free : ¬Config.outstandingLimit ≤ l.slots.length := Nat.not_le.mpr room
  simp only [Link.receive, if_neg free, ← h, ofKind_kind, Bool.and_eq_true, Bool.not_eq_true']

end

/-- Settles O10: the overrun by `receive_overrun`, an unknown kind by `receive_unknown`, the checks of a known one by
`receive_known`. -/
theorem admission : Obligations.Admission := by
  intro l partOpen f
  refine ⟨receive_overrun partOpen, receive_unknown partOpen, fun r room kind => ?_⟩
  intro needed
  rw [receive_known partOpen room kind]
  have notHeld : partOpen = true ∨ r.inHold l.role = true → ¬(partOpen = false ∧ r.inHold l.role = false) := by
    rintro (h | h) ⟨closed, barred⟩
    · exact absurd (h.symm.trans closed) nofun
    · exact absurd (h.symm.trans barred) nofun
  have allowed : r.permitted l.role = true → ¬r.permitted l.role = false := fun h => by rw [h]; nofun
  refine ⟨fun denied => if_pos denied, fun may closed barred => ?_, fun may accepted few => ?_, fun may accepted enough => ?_⟩
  · rw [if_neg (allowed may), if_pos ⟨closed, barred⟩]
    rfl
  · rw [if_neg (allowed may), if_neg (notHeld accepted)]
    exact if_pos few
  · rw [if_neg (allowed may), if_neg (notHeld accepted)]
    exact if_neg (Nat.not_lt.mpr enough)

/-! ## The answer to an applied request (R167, R168) -/

/-- The oldest response not yet known takes the content (R167). -/
theorem fillSlot_append (c : Code) (body : List Byte) (tag : Byte) (later : List Slot) : ∀ known : List Slot,
    (∀ x ∈ known, x.content ≠ none) →
    fillSlot c body (known ++ ⟨tag, none⟩ :: later) = known ++ ⟨tag, some (c, body)⟩ :: later
  | [], _ => rfl
  | x :: known, h => by
    have here : ¬x.content.isNone = true := by simpa using h x List.mem_cons_self
    rw [List.cons_append, fillSlot, if_neg here,
      fillSlot_append c body tag later known fun y hy => h y (List.mem_cons_of_mem x hy), List.cons_append]

section
variable (l : Link) {q : Queued} {c : Code} (body : List Byte)

theorem conclude_waited (h : q.posted = false) : l.conclude q c body = { l with slots := fillSlot c body l.slots } := by
  simp only [Link.conclude, h, Bool.not_false, if_true]

theorem conclude_posted_ok (h : q.posted = true) (ok : c = .ok) : l.conclude q c body = l := by
  simp only [Link.conclude, h, Bool.not_true, Bool.false_eq_true, if_false, if_pos ok]

theorem conclude_posted_error (h : q.posted = true) (bad : c ≠ .ok) :
    l.conclude q c body =
      { l with lastError := some ⟨c, q.request, q.tag⟩, postedErrors := min (l.postedErrors + 1) 255 } := by
  simp only [Link.conclude, h, Bool.not_true, Bool.false_eq_true, if_false, if_neg bad, sat255]

end

/-- A port given the link that it has. -/
theorem Env.setLink_same (e : Env) (p : Port) : e.setLink p e.links[p] = e := by
  simp [Env.setLink]

/-- An update that leaves a port's link as it is. -/
theorem Env.updLink_of_fixed {e : Env} {p : Port} {f : Link → Link} (h : f e.links[p] = e.links[p]) : e.updLink p f = e := by
  rw [Env.updLink, h, Env.setLink_same]

/-! ## The response frame (R162, R167) -/

theorem sendOldest_known {l : Link} {tag : Byte} {c : Code} {body : List Byte} {rest : List Slot}
    (h : l.slots = ⟨tag, some (c, body)⟩ :: rest) :
    l.sendOldest = { l with slots := rest, sent := writeFrame tag c body } := by
  simp only [Link.sendOldest, h]

/-- Nothing is sent before the content of the oldest response is known (log entry 26). -/
theorem sendOldest_waits {l : Link} (h : ∀ x ∈ l.slots.head?, x.content = none) : l.sendOldest = l := by
  unfold Link.sendOldest
  split
  · next first =>
    rw [first] at h
    cases h _ rfl
  · rfl

theorem exec_responseFrame (p : Port) (s : State) :
    exec (.responseFrame p) s = .next { s with env := s.env.updLink p Link.sendOldest } := rfl

/-- Settles O12: the answer by `conclude_waited` with `fillSlot_append`, `conclude_posted_ok` and `conclude_posted_error`, the frame
by `sendOldest_known` and `sendOldest_waits`. -/
theorem responseSent : Obligations.ResponseSent := by
  refine ⟨fun p s => ⟨fun tag c body rest known => ?_, fun tag rest waiting => ?_, fun empty => ?_⟩, fun e p q c body =>
    ⟨fun known tag later waited slots told => ?_, fun posted ok => ?_, fun posted bad => ?_⟩⟩
  · rw [exec_responseFrame, Env.updLink, sendOldest_known known]
    rfl
  · rw [exec_responseFrame, Env.updLink_of_fixed (sendOldest_waits (by rw [waiting]; rintro _ ⟨⟩; rfl))]
  · rw [exec_responseFrame, Env.updLink_of_fixed (sendOldest_waits (by rw [empty]; nofun))]
  · rw [answered, Env.updLink, conclude_waited _ _ waited, slots, fillSlot_append c body tag later known told]
  · exact Env.updLink_of_fixed (conclude_posted_ok _ _ posted ok)
  · rw [answered, Env.updLink, conclude_posted_error _ _ posted bad]

end Sys2Proof.Machine
end

section
/-! SUPPORT. Alarms: the raise as it finds, makes or overflows its entry (R172), ALARM_ENABLE (R173), and ALARM_CLEAR (R174). -/

namespace Sys2Proof.Machine

/-! ## Kinds by their numbers (R164, R172) -/

theorem alarmKindOf_eq_some {n : Nat} {k : AlarmKind} : alarmKindOf n = some k ↔ k.index.val = n := by
  have numbered : ∀ i : Fin 16, ∀ x, alarmKindOf i.val = some x → x.index.val = i.val := by
    intro i x h
    fin_cases i <;> cases h <;> rfl
  constructor
  · intro h
    obtain ⟨small, _⟩ := List.getElem?_eq_some_iff.mp h
    exact numbered ⟨n, small⟩ k h
  · rintro rfl
    cases k <;> rfl

theorem alarmKindOf_none {n : Nat} (h : 16 ≤ n) : alarmKindOf n = none := List.getElem?_eq_none h

/-- Every index of the enables is that of a kind. -/
theorem exists_kind (i : Fin 16) : ∃ k ∈ allAlarmKinds, k.index = i := by
  revert i
  decide

/-- The enables that a byte names are those of its own number, or all by 255 (R164, R173). -/
theorem exists_kindsNamed_iff {n : Nat} {i : Fin 16} : (∃ k ∈ kindsNamed n, k.index = i) ↔ n = 255 ∨ n = i.val := by
  obtain ⟨x, hx, rfl⟩ := exists_kind i
  unfold kindsNamed
  split
  · next every => exact iff_of_true ⟨x, hx, rfl⟩ (.inl every)
  · next single =>
    constructor
    · rintro ⟨k, hk, same⟩
      have number := alarmKindOf_eq_some.mp (Option.mem_toList.mp hk)
      exact .inr (same ▸ number.symm)
    · intro named
      exact ⟨x, Option.mem_toList.mpr (alarmKindOf_eq_some.mpr (named.resolve_left single).symm), rfl⟩

theorem kindsNamed_nil {n : Nat} (high : 16 ≤ n) (single : n ≠ 255) : kindsNamed n = [] := by
  rw [kindsNamed, if_neg single, alarmKindOf_none high]
  rfl

theorem kindsNamed_ne_nil {n : Nat} (h : n < 16 ∨ n = 255) : kindsNamed n ≠ [] := by
  have named : ∃ i : Fin 16, n = 255 ∨ n = i.val := by
    rcases h with low | every
    · exact ⟨⟨n, low⟩, .inr rfl⟩
    · exact ⟨0, .inl every⟩
  obtain ⟨i, hi⟩ := named
  obtain ⟨k, hk, _⟩ := exists_kindsNamed_iff.mpr hi
  exact List.ne_nil_of_mem hk

/-! ## ALARM_ENABLE (R173) -/

/-- The enables with those of some kinds set to a value. -/
def enablesSet (on : Bool) (l : List AlarmKind) (v : Vector Bool 16) : Vector Bool 16 :=
  l.foldl (fun v x => v.set x.index on) v

theorem enablesSet_get (on : Bool) (i : Fin 16) : ∀ (l : List AlarmKind) (v : Vector Bool 16),
    (enablesSet on l v)[i] = if ∃ k ∈ l, k.index = i then on else v[i]
  | [], v => by simp [enablesSet]
  | x :: l, v => by
    change (enablesSet on l (v.set x.index on))[i] = _
    rw [enablesSet_get on i l]
    by_cases here : x.index = i
    · subst here
      simp
    · have other : (v.set x.index on)[i] = v[i] := Vector.getElem_set_ne _ _ fun same => here (Fin.ext same)
      simp [here, other]

section
variable {e : Env} {w : Work} {n : Byte} (on : Bool)

/-- ALARM_ENABLE of a kind number and a flag. -/
theorem applyAlarmEnable_eq :
    applyAlarmEnable e w [n, if on then 1 else 0] =
      if (kindsNamed n.toNat).isEmpty = true then refuse .range e w
      else answerOk { e with alarmEnables := enablesSet on (kindsNamed n.toNat) e.alarmEnables } w := by
  have flag : flagOf (if on then 1 else 0 : Byte).toNat = some on := by cases on <;> rfl
  simp only [applyAlarmEnable, getNats_two_bytes, flag]
  rfl

theorem applyAlarmEnable_range (high : 16 ≤ n.toNat) (single : n.toNat ≠ 255) :
    applyAlarmEnable e w [n, if on then 1 else 0] = refuse .range e w := by
  rw [applyAlarmEnable_eq, kindsNamed_nil high single]
  rfl

theorem applyAlarmEnable_ok (h : n.toNat < 16 ∨ n.toNat = 255) :
    applyAlarmEnable e w [n, if on then 1 else 0] =
      answerOk { e with alarmEnables := enablesSet on (kindsNamed n.toNat) e.alarmEnables } w := by
  rw [applyAlarmEnable_eq, if_neg (by simpa using kindsNamed_ne_nil h)]

end

/-- A raise logs, and posts an ALARM notice with the count where its kind is enabled (R172). -/
theorem raiseAlarm_eq (e : Env) (k : AlarmKind) (s : Subject) (w : Work) :
    raiseAlarm e k s w =
      if e.alarmEnables[k.index] = true then
        post e (.alarm k s (w.alarms.log k s).2) none { w with alarms := (w.alarms.log k s).1 }
      else { w with alarms := (w.alarms.log k s).1 } := rfl

/-- Settles O23: the answers by `applyAlarmEnable_range` and `applyAlarmEnable_ok`, the enables by `enablesSet_get` and
`exists_kindsNamed_iff`, the raise by `raiseAlarm_eq`. -/
theorem alarmEnableRequest : Obligations.AlarmEnableRequest := by
  refine ⟨fun s p q rest n on head still => ⟨fun high single => ?_, fun named => ?_⟩, fun e k x w off => ?_⟩
  · exact congrArg _ (applyHead_refused applyAlarmEnable .range head still (applyAlarmEnable_range on high single))
  · have applied := applyHead_applied head (applyAlarmEnable_ok on named) still
    refine ⟨_, congrArg Host.Outcome.next applied, rfl, rfl, rfl, fun i => ?_⟩
    refine (enablesSet_get on i _ _).trans ?_
    simp only [exists_kindsNamed_iff]
    rfl
  · rw [raiseAlarm_eq, if_neg (by rw [off]; nofun)]
    exact ⟨rfl, rfl⟩

/-! ## The raise (R172) -/

theorem names_iff {k : AlarmKind} {s : Subject} {x : AlarmEntry} :
    x.names k s = true ↔ x.kind = k ∧ x.subject = s := by simp [AlarmEntry.names]

theorem names_eq_false_iff {k : AlarmKind} {s : Subject} {x : AlarmEntry} :
    x.names k s = false ↔ ¬(x.kind = k ∧ x.subject = s) := by rw [← names_iff, Bool.not_eq_true]

theorem map_raisedFor_others {k : AlarmKind} {s : Subject} {l : List AlarmEntry} (h : ∀ x ∈ l, x.names k s = false) :
    l.map (AlarmEntry.raisedFor k s) = l :=
  (List.map_congr_left fun x hx => if_neg (by rw [h x hx]; nofun)).trans (List.map_id l)

/-- A raise of a kind and subject with an entry counts in it (R172, step 1). -/
theorem log_again {a : AlarmRecord} {k : AlarmKind} {s : Subject} {earlier later : List AlarmEntry} {y : AlarmEntry}
    (entries : a.entries = earlier ++ y :: later) (here : y.names k s = true)
    (others : ∀ x ∈ earlier ++ later, x.names k s = false) :
    a.log k s =
      ({ a with entries := earlier ++ ⟨k, s, true, sat255 y.count⟩ :: later }, sat255 y.count) := by
  have before : ∀ x ∈ earlier, x.names k s = false := fun x hx => others x (List.mem_append_left later hx)
  have after : ∀ x ∈ later, x.names k s = false := fun x hx => others x (List.mem_append_right earlier hx)
  have found : a.entries.find? (AlarmEntry.names k s) = some y :=
    List.find?_eq_some_iff_append.mpr ⟨here, earlier, later, entries, fun x hx => by rw [before x hx]; rfl⟩
  have raised : y.raisedFor k s = ⟨k, s, true, sat255 y.count⟩ := by
    obtain ⟨rfl, rfl⟩ := names_iff.mp here
    exact if_pos here
  have counted : a.entries.map (AlarmEntry.raisedFor k s) = earlier ++ ⟨k, s, true, sat255 y.count⟩ :: later := by
    rw [entries, List.map_append, List.map_cons, map_raisedFor_others before, map_raisedFor_others after, raised]
  rw [AlarmRecord.log, found, ← counted]
  rfl

/-- A raise with no entry and no room counts in the overflow entry of its kind (R172). -/
theorem log_overflow {a : AlarmRecord} {k : AlarmKind} {s : Subject} (others : ∀ x ∈ a.entries, x.names k s = false)
    (full : 64 ≤ a.entries.length) :
    a.log k s =
      ({ a with overflow := a.overflow.set k.index ⟨true, sat255 a.overflow[k.index].count⟩ },
        sat255 a.overflow[k.index].count) := by
  have unfound : a.entries.find? (AlarmEntry.names k s) = none := List.find?_eq_none.mpr fun x hx => by
    rw [others x hx]
    nofun
  rw [AlarmRecord.log, unfound]
  exact if_neg (Nat.not_lt.mpr full)

/-! ## ALARM_CLEAR (R174) -/

theorem getAlarmClear_kind (n : Byte) : getAlarmClear [1, n] = some (.kind n.toNat) := by
  simp [getAlarmClear, getNat_byte, getOne_byte]

theorem getAlarmClear_one (n t hi lo : Byte) :
    getAlarmClear [0, n, t, hi, lo] = some (.one n.toNat t.toNat (hi.toNat * 256 + lo.toNat)) := by
  simp [getAlarmClear, getNats, getNat]

theorem subjectTypeOf_num (t : SubjectType) : subjectTypeOf t.num = some t := by
  cases t <;> rfl

/-- A subject of a kind is one of a type that the kind takes (R174). -/
theorem subjectOf_num (k : AlarmKind) (t : SubjectType) (v : Nat) :
    subjectOf k t.num v = if t ∈ subjectTypes k then some ⟨t, v⟩ else none := by
  simp only [subjectOf, subjectTypeOf_num, List.contains_iff_mem]

theorem has_iff {a : AlarmRecord} {k : AlarmKind} {s : Subject} :
    a.has k s = true ↔ ∃ y ∈ a.entries, y.kind = k ∧ y.subject = s := by
  simp only [AlarmRecord.has, List.any_eq_true, names_iff]

theorem clearOne_eq (a : AlarmRecord) (k : AlarmKind) (s : Subject) :
    a.clearOne k s = { a with entries := a.entries.filter fun y => ¬(y.kind = k ∧ y.subject = s) } := by
  have same : (fun y : AlarmEntry => !y.names k s) = fun y => decide ¬(y.kind = k ∧ y.subject = s) := funext fun y => by
    simp [AlarmEntry.names]
  rw [AlarmRecord.clearOne, same]

section
variable {e : Env} {w : Work} {n : Byte}

theorem applyAlarmClear_kind {k : AlarmKind} (h : k.index.val = n.toNat) :
    applyAlarmClear e w [1, n] = answerOk e { w with alarms := w.alarms.clearKind k } := by
  simp only [applyAlarmClear, getAlarmClear_kind, alarmKindOf_eq_some.mpr h]

theorem applyAlarmClear_noKind (h : 16 ≤ n.toNat) : applyAlarmClear e w [1, n] = refuse .range e w := by
  simp only [applyAlarmClear, getAlarmClear_kind, alarmKindOf_none h]

/-- ALARM_CLEAR of one kind and subject, by the subject's type. -/
theorem applyAlarmClear_one {t hi lo : Byte} {k : AlarmKind} {type : SubjectType} (hk : k.index.val = n.toNat)
    (ht : type.num = t.toNat) :
    applyAlarmClear e w [0, n, t, hi, lo] =
      if type ∈ subjectTypes k then
        if w.alarms.has k ⟨type, hi.toNat * 256 + lo.toNat⟩ = true then
          answerOk e { w with alarms := w.alarms.clearOne k ⟨type, hi.toNat * 256 + lo.toNat⟩ }
        else refuse .unknown e w
      else refuse .range e w := by
  simp only [applyAlarmClear, getAlarmClear_one, alarmKindOf_eq_some.mpr hk, ← ht, subjectOf_num]
  by_cases taken : type ∈ subjectTypes k
  · simp only [if_pos taken]
  · simp only [if_neg taken]

end

/-- Settles O24: the raise by `log_again`, `log_new` and `log_overflow`, the clear by `applyAlarmClear_kind`,
`applyAlarmClear_noKind` and `applyAlarmClear_one`. -/
theorem alarmRaiseAndClear : Obligations.AlarmRaiseAndClear := by
  constructor
  · intro e k x w a raised here
    have logged : ∀ {b : AlarmRecord} {count : Nat}, a.log k x = (b, count) → raised b count := fun h => by
      have eq := raiseAlarm_eq e k x w
      rwa [h] at eq
    have unnamed : ∀ {l : List AlarmEntry}, (∀ z ∈ l, ¬here z) → ∀ z ∈ l, z.names k x = false := fun h z hz =>
      names_eq_false_iff.mpr (h z hz)
    refine ⟨fun earlier y later entries named others => ?_, fun others => ⟨fun room => ?_, fun full => ?_⟩⟩
    · exact logged (log_again entries (names_iff.mpr named) (unnamed others))
    · exact logged (log_new (unnamed others) room)
    · exact logged (log_overflow (unnamed others) full)
  · intro s p q rest still cleared
    have clears : ∀ {body : List Byte} {a : AlarmRecord}, HeadOf s p q rest .alarmClear body →
        applyAlarmClear (popped s.env p rest) s.work body = answerOk (popped s.env p rest) { s.work with alarms := a } →
        exec (.alarmClear p) s = .next (cleared a) := fun head h => congrArg _ (applyHead_applied head h still)
    have refuses : ∀ {body : List Byte} {c : Code}, HeadOf s p q rest .alarmClear body →
        applyAlarmClear (popped s.env p rest) s.work body = refuse c (popped s.env p rest) s.work →
        exec (.alarmClear p) s = .next (refusedState s p q rest c) := fun head h =>
      congrArg _ (applyHead_refused applyAlarmClear _ head still h)
    refine ⟨fun head => clears head rfl, fun n k head hk => clears head (applyAlarmClear_kind hk), fun n head high =>
      refuses head (applyAlarmClear_noKind high), fun n t hi lo k type head hk ht => ?_⟩
    intro x
    have answer := applyAlarmClear_one (e := popped s.env p rest) (w := s.work) (hi := hi) (lo := lo) hk ht
    refine ⟨fun wrong => ?_, fun right unheld => ?_, fun right held => ?_⟩
    · rw [if_neg wrong] at answer
      exact refuses head answer
    · have absent : ¬s.work.alarms.has k x = true := fun h => by
        obtain ⟨y, hy, named⟩ := has_iff.mp h
        exact unheld y hy named
      rw [if_pos right, if_neg absent] at answer
      exact refuses head answer
    · rw [if_pos right, if_pos (has_iff.mpr held), clearOne_eq] at answer
      exact clears head answer

end Sys2Proof.Machine
end

section
/-! SUPPORT. A step with a command waiting (section 4.2; log entry 5). -/

namespace Sys2Proof.Machine

/-- Settles O1: of the two branches of `step`, a queue with a front takes the one that executes it. -/
theorem stepRunsTheFrontCommand : Obligations.StepRunsTheFrontCommand := by
  intro c rest s waiting
  rw [step, waiting]

end Sys2Proof.Machine
end
